-- ==== Sys2Proof/Word.lean ====
section
/-! DEFINITION. Words of the TMK410: bytes, 16-bit and 32-bit quantities, 32-position sets, line levels and numbers. -/

namespace Sys2Proof

/-- A byte of the command port (ch. 12). -/
abbrev Byte := BitVec 8

/-- A 16-bit quantity: arrival values, agreed values, halt causes, nonces (00 Conventions, NUMBERS). -/
abbrev Half := BitVec 16

/-- A 32-bit quantity: the flag word and station time (R112, R177). -/
abbrev Word := BitVec 32

/-- A 32-position set of stations or of flag bits; bit n is member n (00 Conventions, SETS; ch. 12). -/
abbrev Set32 := BitVec 32

/-- A station number, 0 to 31 (R47). -/
abbrev StationNo := Fin 32

/-- A slot number, 0 to 31 (R66). -/
abbrev SlotNo := Fin 32

/-- The level of a pin or of a line. On the sync bus `low` is dominant and `high` is recessive (R1). -/
inductive Level
  | low
  | high
  deriving DecidableEq, Repr

/-- One of the two lines of the sync bus (R1). -/
inductive Line
  | stb
  | dat
  deriving DecidableEq, Repr

/-- The line or lines a stuck-line report names (R15, R65). -/
inductive StuckLine
  | stb
  | dat
  | both
  deriving DecidableEq, Repr

/-- The levels of the five strap pins (R47). -/
structure Straps where
  id4 : Level
  id3 : Level
  id2 : Level
  id1 : Level
  id0 : Level
  deriving DecidableEq, Repr

/-- `f` of every element of a vector, in a form that the kernel evaluates. -/
def mapAll {α β : Type} {n : Nat} (f : α → β) (v : Vector α n) : Vector β n :=
  { toArray := { toList := v.toArray.toList.map f }, size_toArray := by simp }

end Sys2Proof
end

