-- ==== Sys2Proof/Config.lean ====
section
/-! DEFINITION. Fixed quantities of the TMK410. -/

namespace Sys2Proof.Config

/-- Ticks of the 16 MHz oscillator in one microsecond of station time (R177). -/
def ticksPerMicro : Nat := 16

/-- Ticks in one millisecond (00 Conventions, TICK). -/
def ticksPerMs : Nat := 16000

/-- The ticks a bus pin must hold a new level before it is accepted; a timer that starts on an accepted edge starts
with this count (R2). -/
def filterTicks : Nat := 2

/-- The length of a bus-reset pulse, 6 ms, in ticks (R17). -/
def pulseTicks : Nat := 6 * ticksPerMs

/-- The both-low time that arms the bus-reset detector, 4 ms, in ticks (R18). -/
def armTicks : Nat := 4 * ticksPerMs

/-- The records the log holds at most (R154). -/
def logCapacity : Nat := 16

end Sys2Proof.Config
end

