-- ==== Sys2Proof/Syntax.lean ====
section
/-! DEFINITION. The commands of the TMK410: one constructor per row of spec/opcode_table.json. -/

namespace Sys2Proof

/-- A command or event, one row of the opcode table. A board command stands for the rise of CSN that ends its whole
transfer (R168); its operands are the operand bytes as the port received them, grouped by 12.2. A read carries the
number of data bytes that are clocked. An event says that the event has come about (log 6). -/
inductive Instr
  /-- READ STATUS (R172); data bytes clocked. -/
  | readStatus (n : Nat)
  /-- READ ROSTER (R170). -/
  | readRoster (n : Nat)
  /-- READ FLAGS (R170). -/
  | readFlags (n : Nat)
  /-- READ EVENTS (R161). -/
  | readEvents (n : Nat)
  /-- READ SLOT (R171); slot operand, data bytes clocked. -/
  | readSlot (slot : Byte) (n : Nat)
  /-- READ LOG (R157); data bytes clocked. -/
  | readLog (n : Nat)
  /-- READ STATION CONFIG (R170). -/
  | readStationConfig (n : Nat)
  /-- READ SLOT CONFIG (R171). -/
  | readSlotConfig (slot : Byte) (n : Nat)
  /-- READ PIN CONFIG (R170). -/
  | readPinConfig (n : Nat)
  /-- JOIN (R50). -/
  | join
  /-- LEAVE (R60). -/
  | leave
  /-- BUS RESET (R17). -/
  | busReset
  /-- ARRIVE (R74). -/
  | arrive (slot : Byte) (value : Half)
  /-- WITHDRAW (R79). -/
  | withdraw (slot : Byte)
  /-- CLEAR SLOT (R85). -/
  | clearSlot (slot : Byte)
  /-- SET FLAGS (R113). -/
  | setFlags (mask : Set32)
  /-- CLEAR FLAGS (R113). -/
  | clearFlags (mask : Set32)
  /-- HALT (R126). -/
  | halt (cause : Half)
  /-- RESUME (R132). -/
  | resume
  /-- CLEAR EVENTS (R162). -/
  | clearEvents (line : Byte) (kinds : Half)
  /-- SET MASK (R163). -/
  | setMask (line : Byte) (kinds : Half)
  /-- CLEAR MASK (R163). -/
  | clearMask (line : Byte) (kinds : Half)
  /-- WRITE STATION CONFIG (R173); its 7 configuration bytes. -/
  | writeStationConfig (bytes : List Byte)
  /-- WRITE SLOT CONFIG (R67); slot operand and its 8 configuration bytes. -/
  | writeSlotConfig (slot : Byte) (bytes : List Byte)
  /-- WRITE PIN CONFIG (R140); its 33 configuration bytes. -/
  | writePinConfig (bytes : List Byte)
  /-- SLEEP (R178). -/
  | sleep
  /-- WAKE (R175). -/
  | wake
  /-- SOFT RESET (R183). -/
  | softReset
  /-- CSN falls; the level of SCK gives the SPI mode (R165, R166). -/
  | transferStart (sck : Level)
  /-- CSN rises on a transfer that is discarded: the whole bytes received on SDI and the bits after them (R168). -/
  | transferDiscarded (sdi : List Byte) (extraBits : Nat)
  /-- CSN rises on a transfer whose opcode names no command, `n` bytes after the opcode (R168). -/
  | unknownOpcode (opcode : Byte) (n : Nat)
  /-- The station pulls DAT low to open a round (R8). -/
  | startIssued
  /-- A DAT fall with STB high in IDLE (R9). -/
  | roundStart
  /-- An STB fall in IDLE without a START (R7). -/
  | unframedActivity
  /-- Round end of an accepted HALT round (R129). -/
  | haltRound
  /-- Round end of an accepted RESUME round (R134). -/
  | resumeRound
  /-- Round end of an accepted JOIN round (R53, R54). -/
  | joinRound
  /-- Round end of an accepted ARRIVE round (R97). -/
  | arriveRound
  /-- Round end of an accepted FLAGS round (R116). -/
  | flagsRound
  /-- Round end of an accepted ROLL round (R58). -/
  | rollRound
  /-- Round end of a void round; the sampled level of DIS (R41). -/
  | voidRound (dis : Level)
  /-- STB rises in CLOSING; the level of DAT at that rise (R13). -/
  | closingEnd (dat : Level)
  /-- A DAT transition while STB is high in a round (R14). -/
  | framingViolation
  /-- The idle timer reaches tIDLE (R6). -/
  | busIdle
  /-- The stuck timer of a line, or of both, reaches tSTUCK (R15). -/
  | lineStuck (line : StuckLine)
  /-- The 6 ms of a bus-reset pulse have passed (R17). -/
  | busResetPulseEnd
  /-- Both lines have been low for 4 ms (R18). -/
  | busResetArmed
  /-- The armed detector sees both lines high (R19). -/
  | busResetRecognised
  /-- The roll timer reaches the roll period (R56). -/
  | rollTimerExpiry
  /-- The timeout timer of a slot expires (R81). -/
  | timeout (slot : SlotNo)
  /-- The level at an event input pin changes (R141). -/
  | inputChange (input : Fin 4) (level : Level)
  /-- The new level of an input is accepted (R141, R142). -/
  | inputAccepted (input : Fin 4)
  /-- The pulse timer of an output reaches its width (R151). -/
  | pulseEnd (output : Fin 4)
  /-- The auto-sleep timer reaches the auto-sleep time (R179). -/
  | autoSleepExpiry
  /-- The oscillator stops after sleep entry (R180). -/
  | oscillatorStop
  /-- The asynchronous start detector sees DAT fall while STB is high (R182). -/
  | asyncStart
  /-- A raw change of level at a wake-enabled input in SLEEP (R149). -/
  | wakeInputEdge (input : Fin 4)
  /-- The oscillator runs: the end of wake step 1 (R176). -/
  | oscillatorRuns
  /-- Power-on (R183). -/
  | powerOn
  /-- RESETN is seen low (R183). -/
  | resetn
  /-- The internal reset ends; the levels of the strap pins (R184, R47). -/
  | internalResetEnd (straps : Straps)
  /-- A position, or the low phase of closing, begins (R10, R13). -/
  | positionBegins
  /-- STB rises in a position 0 to 99; the level of DAT at that rise (R11). -/
  | positionSampled (dat : Level)
  /-- tLOW has passed: the station releases STB (R10). -/
  | tlowExpired
  /-- DAT falls in the closing high phase (R13). -/
  | datFallInClosing
  /-- The line that went high and then low again before both lines were high (R18). -/
  | busResetDetectorDisarmed (line : Line)
  deriving DecidableEq, Repr

end Sys2Proof
end

