-- ==== Sys2Proof/WellFormed.lean ====
section
/-! DEFINITION. Which commands are well formed: operand lengths of 12.2, and fewer than eight bits past the last whole byte. -/

namespace Sys2Proof

/-- The operand lengths of 12.2 hold, and what is left after the whole bytes of a discarded transfer is less than a
byte. (A configuration of another length is still executed: the port discards it, R168.) -/
def Instr.wellFormed : Instr → Bool
  | .writeStationConfig bytes => bytes.length == 7
  | .writeSlotConfig _ bytes => bytes.length == 8
  | .writePinConfig bytes => bytes.length == 33
  | .transferDiscarded _ extraBits => extraBits < 8
  | _ => true

end Sys2Proof
end

