-- ==== Sys2Proof/Decode.lean ====
section
/-! DEFINITION. The command codes of 12.2: the transfer that carries a command, what the port makes of the bytes of a transfer (R168), and decodeTableWord (the table gives no bits). -/

namespace Sys2Proof

/-- A 16-bit quantity from its two bytes, most significant first (R165). -/
def half (hi lo : Byte) : Half := hi ++ lo

/-- A 32-bit quantity from its four bytes, most significant first (R165). -/
def word (b3 b2 b1 b0 : Byte) : Word := b3 ++ b2 ++ b1 ++ b0

/-- The two bytes of a 16-bit quantity, most significant first (R165). -/
def halfBytes (x : Half) : List Byte := [x.extractLsb' 8 8, x.extractLsb' 0 8]

/-- The four bytes of a 32-bit quantity, most significant first (R165). -/
def wordBytes (x : Word) : List Byte :=
  [x.extractLsb' 24 8, x.extractLsb' 16 8, x.extractLsb' 8 8, x.extractLsb' 0 8]

/-- The command codes of 12.2, in the table's order. -/
def commandCodes : List Nat :=
  [0x01, 0x02, 0x03, 0x04, 0x05, 0x06, 0x07, 0x08, 0x09, 0x10, 0x11, 0x12, 0x20, 0x21, 0x22, 0x30, 0x31, 0x38, 0x39,
   0x40, 0x41, 0x42, 0x50, 0x51, 0x52, 0x60, 0x61, 0x6F]

/-- The code names a command (12.2): every other code is refused with UNKNOWN. -/
def namesCommand (opcode : Byte) : Bool := commandCodes.contains opcode.toNat

/-- The command of an opcode and the bytes after it; none if the code names no command or the number of operand bytes
is wrong. A read's bytes after its operands are data (R168, 12.2). -/
def decodeCommand (opcode : Byte) (rest : List Byte) : Option Instr :=
  match opcode.toNat with
  | 0x01 => some (.readStatus rest.length)
  | 0x02 => some (.readRoster rest.length)
  | 0x03 => some (.readFlags rest.length)
  | 0x04 => some (.readEvents rest.length)
  | 0x05 =>
    match rest with
    | slot :: data => some (.readSlot slot data.length)
    | [] => none
  | 0x06 => some (.readLog rest.length)
  | 0x07 => some (.readStationConfig rest.length)
  | 0x08 =>
    match rest with
    | slot :: data => some (.readSlotConfig slot data.length)
    | [] => none
  | 0x09 => some (.readPinConfig rest.length)
  | 0x10 => if rest = [] then some .join else none
  | 0x11 => if rest = [] then some .leave else none
  | 0x12 => if rest = [] then some .busReset else none
  | 0x20 =>
    match rest with
    | [slot, v1, v0] => some (.arrive slot (half v1 v0))
    | _ => none
  | 0x21 =>
    match rest with
    | [slot] => some (.withdraw slot)
    | _ => none
  | 0x22 =>
    match rest with
    | [slot] => some (.clearSlot slot)
    | _ => none
  | 0x30 =>
    match rest with
    | [m3, m2, m1, m0] => some (.setFlags (word m3 m2 m1 m0))
    | _ => none
  | 0x31 =>
    match rest with
    | [m3, m2, m1, m0] => some (.clearFlags (word m3 m2 m1 m0))
    | _ => none
  | 0x38 =>
    match rest with
    | [c1, c0] => some (.halt (half c1 c0))
    | _ => none
  | 0x39 => if rest = [] then some .resume else none
  | 0x40 =>
    match rest with
    | [line, k1, k0] => some (.clearEvents line (half k1 k0))
    | _ => none
  | 0x41 =>
    match rest with
    | [line, k1, k0] => some (.setMask line (half k1 k0))
    | _ => none
  | 0x42 =>
    match rest with
    | [line, k1, k0] => some (.clearMask line (half k1 k0))
    | _ => none
  | 0x50 => if rest.length = 7 then some (.writeStationConfig rest) else none
  | 0x51 =>
    match rest with
    | slot :: bytes => if bytes.length = 8 then some (.writeSlotConfig slot bytes) else none
    | [] => none
  | 0x52 => if rest.length = 33 then some (.writePinConfig rest) else none
  | 0x60 => if rest = [] then some .sleep else none
  | 0x61 => if rest = [] then some .wake else none
  | 0x6F => if rest = [] then some .softReset else none
  | _ => none

/-- The bytes the board processor sends on SDI for a command of the port (12.2), data bytes of a read as zeros; none
for an event. -/
def encodeCommand : Instr → Option (List Byte)
  | .readStatus n => some (0x01#8 :: List.replicate n 0#8)
  | .readRoster n => some (0x02#8 :: List.replicate n 0#8)
  | .readFlags n => some (0x03#8 :: List.replicate n 0#8)
  | .readEvents n => some (0x04#8 :: List.replicate n 0#8)
  | .readSlot slot n => some (0x05#8 :: slot :: List.replicate n 0#8)
  | .readLog n => some (0x06#8 :: List.replicate n 0#8)
  | .readStationConfig n => some (0x07#8 :: List.replicate n 0#8)
  | .readSlotConfig slot n => some (0x08#8 :: slot :: List.replicate n 0#8)
  | .readPinConfig n => some (0x09#8 :: List.replicate n 0#8)
  | .join => some [0x10#8]
  | .leave => some [0x11#8]
  | .busReset => some [0x12#8]
  | .arrive slot value => some (0x20#8 :: slot :: halfBytes value)
  | .withdraw slot => some [0x21#8, slot]
  | .clearSlot slot => some [0x22#8, slot]
  | .setFlags mask => some (0x30#8 :: wordBytes mask)
  | .clearFlags mask => some (0x31#8 :: wordBytes mask)
  | .halt cause => some (0x38#8 :: halfBytes cause)
  | .resume => some [0x39#8]
  | .clearEvents line kinds => some (0x40#8 :: line :: halfBytes kinds)
  | .setMask line kinds => some (0x41#8 :: line :: halfBytes kinds)
  | .clearMask line kinds => some (0x42#8 :: line :: halfBytes kinds)
  | .writeStationConfig bytes => some (0x50#8 :: bytes)
  | .writeSlotConfig slot bytes => some (0x51#8 :: slot :: bytes)
  | .writePinConfig bytes => some (0x52#8 :: bytes)
  | .sleep => some [0x60#8]
  | .wake => some [0x61#8]
  | .softReset => some [0x6F#8]
  | .transferStart _ | .transferDiscarded _ _ | .unknownOpcode _ _ => none
  | .startIssued | .roundStart | .unframedActivity => none
  | .haltRound | .resumeRound | .joinRound | .arriveRound | .flagsRound | .rollRound | .voidRound _ => none
  | .closingEnd _ | .framingViolation | .busIdle | .lineStuck _ => none
  | .busResetPulseEnd | .busResetArmed | .busResetRecognised | .busResetDetectorDisarmed _ => none
  | .rollTimerExpiry | .timeout _ | .inputChange _ _ | .inputAccepted _ | .pulseEnd _ | .autoSleepExpiry => none
  | .oscillatorStop | .asyncStart | .wakeInputEdge _ | .oscillatorRuns => none
  | .powerOn | .resetn | .internalResetEnd _ => none
  | .positionBegins | .positionSampled _ | .tlowExpired | .datFallInClosing => none

/-- The number of data bytes a read clocks after its opcode and operands; 0 for any other row. -/
def dataBytes : Instr → Nat
  | .readStatus n | .readRoster n | .readFlags n | .readEvents n | .readSlot _ n | .readLog n | .readStationConfig n
  | .readSlotConfig _ n | .readPinConfig n => n
  | _ => 0

/-- The opcode and operand bytes of a command of the port, without the data bytes of a read. -/
def leadBytes (c : Instr) : List Byte :=
  let bytes := (encodeCommand c).getD []
  bytes.take (bytes.length - dataBytes c)

/-- The bits of a byte as SDI and SDO carry them, most significant first (R165). -/
def bitsOf (b : Byte) : List Level := (List.range 8).map fun i => if b.getLsbD (7 - i) then .high else .low

/-- The byte that 8 bits make, most significant first (R165). -/
def byteOf (l : List Level) : Byte := BitVec.ofNat 8 (l.foldl (fun n x => 2 * n + (if x = .high then 1 else 0)) 0)

/-- What the port makes of a transfer at the rise of CSN (R168). -/
inductive Judgement
  /-- No SCK edge: it carried no command. -/
  | noEdge
  /-- Off a byte boundary, or the wrong number of operand bytes. -/
  | discarded
  /-- The opcode names no command. -/
  | unknown
  /-- A whole command. -/
  | whole (i : Instr)
  deriving DecidableEq, Repr

/-- The judgement of R168, in its order, on the whole bytes received and the number of bits after them. Its SCK edges are the
rising ones that R165 counts: a transfer in mode 3 in which SCK falls and never rises has none, the model's choice
(log 39). -/
def judge (sdi : List Byte) (extraBits : Nat) : Judgement :=
  match sdi with
  | [] => if extraBits = 0 then .noEdge else .discarded
  | opcode :: rest =>
    if extraBits ≠ 0 then .discarded
    else if namesCommand opcode = false then .unknown
    else
      match decodeCommand opcode rest with
      | some i => .whole i
      | none => .discarded

/-- The opcode table gives no row any bits, so no word spells a command. -/
def decodeTableWord (_nbits _w : Nat) : Option Instr := none

end Sys2Proof
end

