-- ==== Sys2Proof/Machine/State.lean ====
section
/-! DEFINITION. The state of a TMK410 station as plain data, one structure per owning block, its reset value, and the two stop reasons. -/

namespace Sys2Proof.Machine

/-! ### Names -/

/-- Link states (1.3). -/
inductive Link
  | detached | seeking | idle | round | closing | resetting | fault
  deriving DecidableEq, Repr

/-- Membership states (3.2). -/
inductive Membership
  | offline | joining | online | leaving
  deriving DecidableEq, Repr

/-- The driver of a bus line (R1). -/
inductive Driver
  | released | low
  deriving DecidableEq, Repr

/-- Round classes (2.3). -/
inductive Class
  | halt | resume | join | arrive | flags | roll
  deriving DecidableEq, Repr

/-- Sync attribute of an epoch or of the flag word (R71, R112). -/
inductive Sync
  | synced | unsynced
  deriving DecidableEq, Repr

/-- Slot states (4.2). -/
inductive SlotState
  | disabled | ready | waiting | fault
  deriving DecidableEq, Repr

/-- Source of an arrival (R69). -/
inductive Source
  | command
  | input (i : Fin 4)
  deriving DecidableEq, Repr

/-- The bus-wide halt state (R124). -/
inductive Condition
  | running | halted
  deriving DecidableEq, Repr

/-- Event kinds (9.4). -/
inductive Event
  | slot | record | overrun | halt | resume | flags | roster | member | bus
  deriving DecidableEq, Repr

/-- Record kinds (9.3). NONE is no record held: it is only read out (R157). -/
inductive Kind
  | complete | progress | fault | timeout | aborted | withdrawn | tooLate | joined | joinRefused | left | roster
  | halt | resume | resumeRefused | flags | void | dropped | framing | busReset | busFault
  deriving DecidableEq, Repr

/-- Outcome codes of a command (R167). ASLEEP and NOT READY are shown, never recorded. -/
inductive Code
  | ok | pending | discarded | unknown | state | halted | operand | notMember | already
  deriving DecidableEq, Repr

/-- Power states (R176). -/
inductive Power
  | active | sleep
  deriving DecidableEq, Repr

/-- Reset causes (R183). -/
inductive ResetCause
  | powerOn | pin | soft
  deriving DecidableEq, Repr

/-! ### Configurations -/

/-- The four values of tSTUCK (R3). -/
inductive StuckTime
  | ms8 | ms16 | ms32 | ms64
  deriving DecidableEq, Repr

/-- The station configuration (R3, R41, R56, R156, R179; layout 12.6). -/
structure StationConfig where
  /-- tLOW, ticks (R3). -/
  tLow : Byte
  /-- tHIGH, ticks (R3). -/
  tHigh : Byte
  /-- tIDLE, ticks (R3). -/
  tIdle : Byte
  /-- tSTUCK (R3). -/
  tStuck : StuckTime
  /-- Station retry limit, 0 to 3 (R41). -/
  retry : Nat
  /-- Roll period in units of 10 ms, 0 for off (R56). -/
  rollPeriod : Byte
  /-- Log filter, bit n for group Gn (R156). -/
  filter : Byte
  /-- Auto-sleep time in units of 8 ms, 0 to 15, 0 for off (R179). -/
  autoSleep : Nat
  deriving DecidableEq, Repr

/-- The default station configuration (12.6). -/
def StationConfig.default : StationConfig :=
  { tLow := 16#8, tHigh := 16#8, tIdle := 48#8, tStuck := .ms16, retry := 2, rollPeriod := 10#8, filter := 0xFD#8,
    autoSleep := 0 }

/-- How the required set of a slot is formed (R72). -/
inductive Participation
  | fixed | roster
  deriving DecidableEq, Repr

/-- What an expiry asks for (R66). -/
inductive TimeoutPolicy
  | onlyLocal | halt
  deriving DecidableEq, Repr

/-- A slot configuration (R66). `fixed` participation is the spec's STATIC. -/
structure SlotConfig where
  enabled : Bool
  participation : Participation
  mask : Set32
  /-- Milliseconds, 0 for none. -/
  timeout : Half
  policy : TimeoutPolicy
  /-- 0 to 3. -/
  retry : Nat
  notifyA : Bool
  notifyB : Bool
  logRecords : Bool
  logProgress : Bool
  deriving DecidableEq, Repr

/-- The default slot configuration (R66). -/
def SlotConfig.default : SlotConfig :=
  { enabled := false, participation := .fixed, mask := 0#32, timeout := 0#16, policy := .onlyLocal, retry := 2,
    notifyA := false, notifyB := false, logRecords := true, logProgress := false }

/-- Detection modes of an input (R142). -/
inductive Detection
  | rising | falling | both | high | low
  deriving DecidableEq, Repr

/-- Binding kinds of an input (8.1). -/
inductive Binding
  | off | arrive | flagSet | flagClear | flagFollow | halt
  deriving DecidableEq, Repr

/-- An input configuration (8.1). The target byte and the value are stored as written even where the binding does not
use them (R185). -/
structure InputConfig where
  detection : Detection
  debounce : Bool
  wake : Bool
  binding : Binding
  target : Byte
  value : Half
  deriving DecidableEq, Repr

/-- The default input configuration (8.1). -/
def InputConfig.default : InputConfig :=
  { detection := .rising, debounce := false, wake := false, binding := .off, target := 0#8, value := 0#16 }

/-- Output modes (8.8). -/
inductive Mode
  | off | pulse | toggle | waitLevel | flag | halted | online
  deriving DecidableEq, Repr

/-- Output polarity (R150). -/
inductive Polarity
  | activeHigh | activeLow
  deriving DecidableEq, Repr

/-- An output configuration (8.1). -/
structure OutputConfig where
  polarity : Polarity
  mode : Mode
  target : Byte
  /-- Pulse width, microseconds. -/
  width : Byte
  deriving DecidableEq, Repr

/-- The default output configuration (8.1). -/
def OutputConfig.default : OutputConfig :=
  { polarity := .activeHigh, mode := .off, target := 0#8, width := 10#8 }

/-- The pin configuration (8.1). -/
structure PinConfig where
  inputs : Vector InputConfig 4
  outputs : Vector OutputConfig 4
  /-- Debounce setting n: the debounce time is (n+1) × 32 µs. -/
  debounce : Byte
  deriving DecidableEq, Repr

/-- The default pin configuration (8.1). -/
def PinConfig.default : PinConfig :=
  { inputs := Vector.replicate 4 .default, outputs := Vector.replicate 4 .default, debounce := 0#8 }

/-! ### Blocks -/

/-- The line interface (ch. 1). Timers are in ticks. -/
structure Lif where
  /-- Link state (1.3). -/
  link : Link
  /-- Driver of STB (R1). -/
  stbDrive : Driver
  /-- Driver of DAT (R1). -/
  datDrive : Driver
  /-- Accepted level of STB (R2). -/
  stb : Level
  /-- Accepted level of DAT (R2). -/
  dat : Level
  /-- Ticks for which the STB pin has differed from its accepted level (R2). -/
  stbFilter : Nat
  /-- Ticks for which the DAT pin has differed from its accepted level (R2). -/
  datFilter : Nat
  /-- Level of the STB pin at the last tick, for the asynchronous start detector (R21). -/
  stbPin : Level
  /-- Level of the DAT pin at the last tick, for the asynchronous start detector (R21). -/
  datPin : Level
  /-- The low phase of the current position, or of closing, has begun (R10, R13). -/
  begun : Bool
  /-- Idle timer (R6). -/
  idleTimer : Nat
  /-- tLOW timer, if it runs (R10). -/
  tLow : Option Nat
  /-- tHIGH timer, if it runs (R9, R11, R13). -/
  tHigh : Option Nat
  /-- Stuck timer of STB (R15). -/
  stbStuck : Nat
  /-- Stuck timer of DAT (R15). -/
  datStuck : Nat
  /-- Length of the last low interval of STB that has ended (R19). -/
  stbLast : Nat
  /-- Length of the last low interval of DAT that has ended (R19). -/
  datLast : Nat
  /-- STB already stood at tSTUCK when the pulse began: it is not found stuck during it (R15). -/
  stbExempt : Bool
  /-- DAT already stood at tSTUCK when the pulse began: it is not found stuck during it (R15). -/
  datExempt : Bool
  /-- Both-low count of the bus-reset detector (R18). -/
  bothLow : Nat
  /-- The bus-reset detector is armed (R18). -/
  armed : Bool
  /-- A pulse of this station's own is not yet recognised nor the detector disarmed: it works in DETACHED (R18). -/
  ownPulse : Bool
  /-- Ticks of the bus-reset pulse since both lines were seen low (R17). -/
  pulse : Option Nat
  /-- The wake stretch is held (R12, R21). -/
  stretch : Bool
  /-- The asynchronous start detector is armed (R21, R180). -/
  startDetector : Bool
  deriving DecidableEq, Repr

/-- An entry of the request list (R28). -/
structure Entry where
  cls : Class
  sel : Fin 32
  voids : Nat
  deriving DecidableEq, Repr

/-- A field's drive (2.2): recessive, a number contended in an arbitrated field, a number driven in a value field, a
claimed set, or the flag word as a value field with bit n at position base+n (R119). -/
inductive FieldDrive
  | recessive
  | contend (width n : Nat)
  | value (width n : Nat)
  | claim (members : Set32)
  | flagWord (w : Word)
  deriving DecidableEq, Repr

/-- The dissent conditions a station has found in a round (R39). -/
structure Dissent where
  check : Bool
  drive : Bool
  cls : Bool
  exclusion : Bool
  skew : Bool
  deriving DecidableEq, Repr

/-- No dissent. -/
def Dissent.none : Dissent := { check := false, drive := false, cls := false, exclusion := false, skew := false }

/-- The round in progress (R22). -/
structure Round where
  /-- Sampled line values, position 0 first; their number is the current position. -/
  samples : List Level
  /-- Own drives of the same positions. -/
  drives : List Driver
  /-- Latched head entry (R32). -/
  head : Option Entry
  /-- Check accumulator (R36). -/
  check : Byte
  /-- Drive of the field in progress (R26). -/
  field : FieldDrive
  /-- The contention of the field in progress is lost (R23). -/
  lost : Bool
  /-- Dissent conditions found so far (R39). -/
  dissent : Dissent
  /-- The required set taken at SETB by an enabled participant of an ARRIVE round (R93). -/
  required : Option Set32
  /-- The station was LEAVING when SETA of a ROLL round began (R58). -/
  leavingAtSeta : Bool
  /-- Latched copy of S (R115). -/
  latchS : Set32
  /-- Latched copy of C (R115). -/
  latchC : Set32
  /-- Latched halt request (R128). -/
  latchHalt : Option Half
  /-- Latched objection (R133). -/
  objection : Bool
  deriving DecidableEq, Repr

/-- A round at its start: the check is preset to all ones (R36) and nothing is sampled or latched. -/
def Round.fresh : Round :=
  { samples := [], drives := [], head := none, check := 0xFF#8, field := .recessive, lost := false, dissent := .none,
    required := none, leavingAtSeta := false, latchS := 0#32, latchC := 0#32, latchHalt := none, objection := false }

/-- The round engine (ch. 2). -/
structure Rnd where
  /-- The request list, ascending identity (R28). -/
  requests : List Entry
  /-- The round in progress (R22). -/
  round : Option Round
  deriving DecidableEq, Repr

/-- The membership controller (ch. 3). -/
structure Mbr where
  number : StationNo
  membership : Membership
  roster : Set32
  /-- Roll timer, microseconds (R56). -/
  rollTimer : Nat
  /-- Join nonce (R50). -/
  nonce : Option Half
  deriving DecidableEq, Repr

/-- An arrival record (R69). -/
structure Arrival where
  value : Half
  source : Source
  time : Word
  deriving DecidableEq, Repr

/-- A result record (R100). -/
structure Result where
  epoch : BitVec 4
  arrived : Set32
  agreed : Half
  time : Word
  deriving DecidableEq, Repr

/-- A slot: its configuration and its runtime record (R66, R69). The void count is read from the request list. -/
structure Slot where
  cfg : SlotConfig
  state : SlotState
  sync : Sync
  epoch : BitVec 4
  arrival : Option Arrival
  published : Bool
  committed : Bool
  withdrawPending : Bool
  timeoutPending : Bool
  lastSeen : Set32
  result : Option Result
  /-- Timeout timer, microseconds (R81). -/
  timer : Nat
  /-- The slot's ARRIVE entry was placed as a probe (R108). -/
  probe : Bool
  deriving DecidableEq, Repr

/-- A slot after a station reset (R89). -/
def Slot.reset : Slot :=
  { cfg := .default, state := .disabled, sync := .unsynced, epoch := 0#4, arrival := none, published := false,
    committed := false, withdrawPending := false, timeoutPending := false, lastSeen := 0#32, result := none, timer := 0,
    probe := false }

/-- The flag unit (ch. 6). -/
structure Flg where
  word : Word
  sync : Sync
  /-- Pending set requests S (R113). -/
  setReq : Set32
  /-- Pending clear requests C (R113). -/
  clearReq : Set32
  deriving DecidableEq, Repr

/-- The halt unit (7.1). -/
structure Hlt where
  condition : Condition
  /-- The cause of the halt request, if one is present. -/
  request : Option Half
  commandHold : Bool
  heldCause : Option Half
  /-- Input hold set, bit i for EINi. -/
  inputHold : BitVec 4
  resumePending : Bool
  deriving DecidableEq, Repr

/-- The running state of an input (R141, R144, R149). -/
structure Input where
  /-- Level at the pin. -/
  pin : Level
  /-- Filtered level. -/
  filtered : Level
  /-- Debounce timer, ticks, if it runs. -/
  timer : Option Nat
  armed : Bool
  /-- The wake detector is armed (R180). -/
  wakeArmed : Bool
  deriving DecidableEq, Repr

/-- An input after a station reset whose pin is at `l` (R141, R144). -/
def Input.reset (l : Level) : Input :=
  { pin := l, filtered := l, timer := none, armed := true, wakeArmed := false }

/-- The running state of an output: the stored state of a PULSE or TOGGLE output and the pulse timer (R151, R152). -/
structure Output where
  active : Bool
  /-- Pulse timer, ticks, if a pulse runs (R151). -/
  pulse : Option Nat
  deriving DecidableEq, Repr

/-- An inactive output. -/
def Output.reset : Output := { active := false, pulse := none }

/-- The pin unit (ch. 8). -/
structure Pin where
  cfg : PinConfig
  inputs : Vector Input 4
  outputs : Vector Output 4
  deriving DecidableEq, Repr

/-- A record of the log (R154). -/
structure Record where
  seq : Byte
  kind : Kind
  sel : Fin 32
  tag : Byte
  set : Set32
  value : Half
  time : Word
  deriving DecidableEq, Repr

/-- The result log (R154). -/
structure Log where
  records : List Record
  next : Byte
  deriving DecidableEq, Repr

/-- A set of the nine event kinds; bit numbers as in 12.2. -/
abbrev EventSet := BitVec 9

/-- The notification unit (R161). -/
structure Ntf where
  pendA : EventSet
  pendB : EventSet
  maskA : EventSet
  maskB : EventSet
  deriving DecidableEq, Repr

/-- How the port handles the transfer in progress (R174, R175). -/
inductive Handling
  | active | asleep | ignored
  deriving DecidableEq, Repr

/-- SPI modes (R165). -/
inductive SpiMode
  | mode0 | mode3
  deriving DecidableEq, Repr

/-- The transfer in progress (R165, R166). Its framing state, the count of rising SCK edges in it, is what SDI has carried so
far, in whole bytes and the bits after them, 8 edges a byte; it is empty while the transfer is ignored (R174). `out`,
`clocked` and `sent` are SDO's side, which goes on in an ignored transfer. -/
structure Transfer where
  mode : SpiMode
  handling : Handling
  /-- The whole bytes received on SDI, the opcode first. -/
  received : List Byte
  /-- The bits received of the byte in progress, most significant first. -/
  bits : List Level
  /-- The byte on SDO: the status byte first, a snapshot taken when CSN fell. -/
  out : Byte
  /-- How many of its bits SDO has shifted out; 8 from its last one until the next byte begins. -/
  clocked : Nat
  /-- The bytes shifted out in full before it. -/
  sent : List Byte
  /-- The copy being shifted out is of a record the log holds: it is removed with its last bit (R157). -/
  record : Bool
  deriving DecidableEq, Repr

/-- The command port (ch. 10). CSN is low exactly while a transfer is in progress. -/
structure Cmd where
  transfer : Option Transfer
  last : Code
  /-- Read snapshot buffer: the latest snapshot taken (R170). -/
  snapshot : List Byte
  /-- The bytes SDO shifted out in the latest ended transfer. -/
  sdo : List Byte
  deriving DecidableEq, Repr

/-- Timebase and sleep control (ch. 11). -/
structure Tsc where
  power : Power
  /-- The oscillator runs. -/
  oscillator : Bool
  /-- Step 1 of a wake is in progress (R176). -/
  waking : Bool
  /-- Station time, microseconds (R177). -/
  time : Word
  /-- Ticks into the current microsecond, 0 to 15 (R177). -/
  subTicks : Nat
  /-- Auto-sleep timer, microseconds (R179). -/
  autoSleep : Nat
  cause : ResetCause
  /-- The internal reset runs (R184). -/
  inReset : Bool
  /-- RESETN was seen low and its release is not yet known (R183). -/
  resetnLow : Bool
  deriving DecidableEq, Repr

/-- The peers' side of the two lines: MODEL'S OWN environment data (log 9). Each level is the AND of all peers' drives;
`feed` holds the levels of the coming ticks, and the present ones stand on when it is used up. -/
structure Bus where
  stb : Level
  dat : Level
  feed : List (Level × Level)
  deriving DecidableEq, Repr

/-- The board processor's side of the command port: MODEL'S OWN environment data (log 31). `feed` holds the levels of SCK
and SDI at the coming ticks, and the present ones stand on when it is used up. -/
structure Spi where
  sck : Level
  sdi : Level
  feed : List (Level × Level)
  deriving DecidableEq, Repr

/-! ### The state -/

/-- The state of one station, the levels that its peers and the board processor drive, and the queue of commands. -/
structure State where
  cfg : StationConfig
  lif : Lif
  rnd : Rnd
  mbr : Mbr
  slots : Vector Slot 32
  flg : Flg
  hlt : Hlt
  pin : Pin
  log : Log
  ntf : Ntf
  cmd : Cmd
  tsc : Tsc
  bus : Bus
  spi : Spi
  /-- The commands waiting, first in first out. -/
  pending : List Instr
  deriving DecidableEq, Repr

/-- Fault reasons: none. The spec gives every command and event an effect in every state, and no rule stops the
station; who raises one: no meaning. Safe. -/
inductive Fault
  deriving DecidableEq, Repr

/-- Refusal reasons. -/
inductive Refusal
  /-- An arm of exec without a meaning raises it, with the row's mnemonic; no arm does. Safe. -/
  | notModelled (mnemonic : String)
  deriving DecidableEq, Repr

/-! ### Block updates -/

def State.setCfg (s : State) (x : StationConfig) : State := { s with cfg := x }
def State.setLif (s : State) (x : Lif) : State := { s with lif := x }
def State.setRnd (s : State) (x : Rnd) : State := { s with rnd := x }
def State.setMbr (s : State) (x : Mbr) : State := { s with mbr := x }
def State.setSlots (s : State) (x : Vector Slot 32) : State := { s with slots := x }
def State.setFlg (s : State) (x : Flg) : State := { s with flg := x }
def State.setHlt (s : State) (x : Hlt) : State := { s with hlt := x }
def State.setPin (s : State) (x : Pin) : State := { s with pin := x }
def State.setLog (s : State) (x : Log) : State := { s with log := x }
def State.setNtf (s : State) (x : Ntf) : State := { s with ntf := x }
def State.setCmd (s : State) (x : Cmd) : State := { s with cmd := x }
def State.setTsc (s : State) (x : Tsc) : State := { s with tsc := x }
def State.setBus (s : State) (x : Bus) : State := { s with bus := x }
def State.setSpi (s : State) (x : Spi) : State := { s with spi := x }
def State.setPending (s : State) (x : List Instr) : State := { s with pending := x }

/-! ### Reset -/

/-- The line interface after a station reset: DETACHED, drivers released (R1, R4). The levels and counts the spec does
not give are log 3's. -/
def Lif.reset : Lif :=
  { link := .detached, stbDrive := .released, datDrive := .released, stb := .high, dat := .high, stbFilter := 0,
    datFilter := 0, stbPin := .high, datPin := .high, begun := false, idleTimer := 0, tLow := none, tHigh := none,
    stbStuck := 0, datStuck := 0, stbLast := 0, datLast := 0, stbExempt := false, datExempt := false, bothLow := 0,
    armed := false, ownPulse := false, pulse := none, stretch := false, startDetector := false }

/-- The machine right after the internal reset of a station strapped `number`, with the given input pin levels
(table of R184). -/
def State.afterReset (cause : ResetCause) (number : StationNo) (pins : Vector Level 4) : State :=
  { cfg := .default
    lif := .reset
    rnd := { requests := [], round := none }
    mbr := { number := number, membership := .offline, roster := 0#32, rollTimer := 0, nonce := none }
    slots := Vector.replicate 32 .reset
    flg := { word := 0#32, sync := .unsynced, setReq := 0#32, clearReq := 0#32 }
    hlt := { condition := .running, request := none, commandHold := false, heldCause := none, inputHold := 0#4,
             resumePending := false }
    pin := { cfg := .default, inputs := mapAll Input.reset pins, outputs := Vector.replicate 4 .reset }
    log := { records := [], next := 0#8 }
    ntf := { pendA := 0#9, pendB := 0#9, maskA := 0#9, maskB := 0#9 }
    cmd := { transfer := none, last := .ok, snapshot := [], sdo := [] }
    tsc := { power := .active, oscillator := true, waking := false, time := 0#32, subTicks := 0, autoSleep := 0,
             cause := cause, inReset := false, resetnLow := false }
    bus := { stb := .high, dat := .high, feed := [] }
    spi := { sck := .low, sdi := .low, feed := [] }
    pending := [] }

/-- The machine right after a power-on reset of a station strapped 0 with its input pins low (logs 1, 2, 5). -/
def State.reset : State := State.afterReset .powerOn 0 (Vector.replicate 4 .low)

end Sys2Proof.Machine
end

