-- ==== Sys2Proof/Machine/Ops.lean ====
section
/-! DEFINITION. Shared operations: sets, the request list, events, the log, slots, inputs and outputs as seen at the pins, and the sleep conditions. -/

namespace Sys2Proof.Machine

/-! ### Sets -/

/-- The set of one member. -/
def only (n : Fin 32) : Set32 := 1#32 <<< n.val

/-- Every member of `a` is in `b`. -/
abbrev Covers (b a : Set32) : Prop := a &&& b = a

/-- The number of members of a set. -/
def card (a : Set32) : Nat := (List.range 32).countP fun n => a.getLsbD n

/-- The selector or target that a byte known to be below 32 stands for. -/
def low5 (b : Byte) : Fin 32 := Fin.ofNat 32 b.toNat

/-! ### Codes -/

/-- Class codes (2.3). -/
def Class.code : Class → Nat
  | .halt => 0
  | .resume => 1
  | .join => 2
  | .arrive => 3
  | .flags => 4
  | .roll => 5

/-- Membership codes (12.3). -/
def Membership.code : Membership → Nat
  | .offline => 0
  | .joining => 1
  | .online => 2
  | .leaving => 3

/-- Outcome codes (R167). -/
def Code.code : Code → Nat
  | .ok => 0
  | .pending => 1
  | .discarded => 2
  | .unknown => 3
  | .state => 4
  | .halted => 5
  | .operand => 6
  | .notMember => 7
  | .already => 8

/-- Record kind codes (12.5). -/
def Kind.code : Kind → Nat
  | .complete => 1
  | .progress => 2
  | .fault => 3
  | .timeout => 4
  | .aborted => 5
  | .withdrawn => 6
  | .tooLate => 7
  | .joined => 8
  | .joinRefused => 9
  | .left => 10
  | .roster => 11
  | .halt => 12
  | .resume => 13
  | .resumeRefused => 14
  | .flags => 15
  | .void => 16
  | .dropped => 17
  | .framing => 18
  | .busReset => 19
  | .busFault => 20

/-- Filter groups (9.3). -/
def Kind.group : Kind → Nat
  | .complete => 0
  | .progress => 1
  | .fault | .timeout | .aborted => 2
  | .withdrawn | .tooLate => 3
  | .joined | .joinRefused | .left | .roster => 4
  | .halt | .resume | .resumeRefused => 5
  | .flags => 6
  | .void | .dropped | .framing | .busReset | .busFault => 7

/-- Bit numbers of the event kinds (12.2). -/
def Event.bit : Event → Nat
  | .slot => 0
  | .record => 1
  | .overrun => 2
  | .halt => 3
  | .resume => 4
  | .flags => 5
  | .roster => 6
  | .member => 7
  | .bus => 8

/-- The set of one event kind. -/
def Event.set (e : Event) : EventSet := 1#9 <<< e.bit

/-! Tag values (12.5). -/

def causeRound : Byte := 1#8
def causeJoin : Byte := 2#8
def causeRoll : Byte := 3#8
def causeBusReset : Byte := 4#8
def causeDropped : Byte := 5#8
def reasonHalt : Byte := 1#8
def reasonBusReset : Byte := 2#8
def reasonOffline : Byte := 3#8
def reasonDuplicate : Byte := 1#8
def reasonRetries : Byte := 2#8

/-- tSTUCK in ticks (R3). -/
def StuckTime.ticks : StuckTime → Nat
  | .ms8 => 8 * Config.ticksPerMs
  | .ms16 => 16 * Config.ticksPerMs
  | .ms32 => 32 * Config.ticksPerMs
  | .ms64 => 64 * Config.ticksPerMs

/-! ### Conditions on the station -/

/-- The oscillator runs for the blocks and no internal reset is in progress: filters, timers and the line interface
work (R141, R176, R180, R184). -/
abbrev State.Running (s : State) : Prop := s.tsc.power = .active ∧ s.tsc.inReset = false

/-- The station takes effects of accepted rounds as a member (R40). -/
abbrev State.IsMember (s : State) : Prop := s.mbr.membership = .online ∨ s.mbr.membership = .leaving

/-- The station takes part in the bus (R5). -/
abbrev State.OnBus (s : State) : Prop := s.mbr.membership ≠ .offline

/-! ### The request list (2.4) -/

/-- The 8-bit identity of a class and selector, as a number (R27, R28). -/
def identityOf (c : Class) (n : Fin 32) : Nat := 32 * c.code + n.val

/-- The identity of an entry. -/
def Entry.identity (e : Entry) : Nat := identityOf e.cls e.sel

/-- The entry is the one of class `c` and selector `n`. -/
def Entry.is (e : Entry) (c : Class) (n : Fin 32) : Bool := e.cls == c && e.sel == n

/-- The entry of a class and selector, if the list holds one. -/
def findEntry (l : List Entry) (c : Class) (n : Fin 32) : Option Entry := l.find? fun e => e.is c n

/-- The list holds an entry of the class and selector. -/
def hasEntry (l : List Entry) (c : Class) (n : Fin 32) : Bool := l.any fun e => e.is c n

/-- Put an entry at its place in ascending identity. -/
def insertEntry : List Entry → Entry → List Entry
  | [], e => [e]
  | x :: xs, e => if e.identity < x.identity then e :: x :: xs else x :: insertEntry xs e

/-- Placement (R29): an entry already held is left as it stands. -/
def placeEntry (l : List Entry) (c : Class) (n : Fin 32) : List Entry :=
  if hasEntry l c n then l else insertEntry l { cls := c, sel := n, voids := 0 }

/-- Removal (R30): without effect if the list does not hold the entry. -/
def removeEntry (l : List Entry) (c : Class) (n : Fin 32) : List Entry := l.filter fun e => !e.is c n

/-- Set the void count of an entry. -/
def setVoids (l : List Entry) (c : Class) (n : Fin 32) (v : Nat) : List Entry :=
  l.map fun e => if e.is c n then { e with voids := v } else e

/-- Place an entry in the station's list (R29). -/
def State.place (s : State) (c : Class) (n : Fin 32) : State :=
  s.setRnd { s.rnd with requests := placeEntry s.rnd.requests c n }

/-- Remove an entry from the station's list (R30). -/
def State.remove (s : State) (c : Class) (n : Fin 32) : State :=
  s.setRnd { s.rnd with requests := removeEntry s.rnd.requests c n }

/-- Set an entry's void count to 0 (R40). -/
def State.zeroVoids (s : State) (c : Class) (n : Fin 32) : State :=
  s.setRnd { s.rnd with requests := setVoids s.rnd.requests c n 0 }

/-- The station's list holds the entry. -/
abbrev State.Holds (s : State) (c : Class) (n : Fin 32) : Prop := hasEntry s.rnd.requests c n = true

/-! ### Events and records (ch. 9) -/

/-- Raise an event into both pending sets (R161). -/
def State.raise (s : State) (e : Event) : State :=
  s.setNtf { s.ntf with pendA := s.ntf.pendA ||| e.set, pendB := s.ntf.pendB ||| e.set }

/-- The filter lets records of the kind be produced (R156). -/
def passes (cfg : StationConfig) (k : Kind) : Bool := cfg.filter.getLsbD k.group

/-- Offer a record (R155): filtered out without a trace, or produced with the next sequence number and appended with a
RECORD event, or dropped with an OVERRUN event when the log holds 16 records. -/
def State.offer (s : State) (kind : Kind) (sel : Fin 32) (tag : Byte) (set : Set32) (value : Half) : State :=
  if passes s.cfg kind = false then s
  else if s.log.records.length < Config.logCapacity then
    (s.setLog
      { records := s.log.records ++
          [{ seq := s.log.next, kind := kind, sel := sel, tag := tag, set := set, value := value, time := s.tsc.time }]
        next := s.log.next + 1 }).raise .record
  else (s.setLog { s.log with next := s.log.next + 1 }).raise .overrun

/-! ### Slots -/

/-- Slot `i`. -/
def State.slot (s : State) (i : SlotNo) : Slot := s.slots[i]

/-- Replace slot `i`. -/
def State.setSlot (s : State) (i : SlotNo) (x : Slot) : State := s.setSlots (s.slots.set i x)

/-- Do `f` for every slot in ascending order of slot number (R84). -/
def forSlots (f : SlotNo → State → State) (s : State) : State := (List.finRange 32).foldl (fun t i => f i t) s

/-- Do `f` for every input in ascending order of input number (log 22). -/
def forInputs (f : Fin 4 → State → State) (s : State) : State := (List.finRange 4).foldl (fun t i => f i t) s

/-- Raise a SLOT event of slot `i` into the sets its notify switches name (R68, R161). -/
def State.raiseSlot (s : State) (i : SlotNo) : State :=
  s.setNtf
    { s.ntf with
      pendA := if (s.slot i).cfg.notifyA then s.ntf.pendA ||| Event.slot.set else s.ntf.pendA
      pendB := if (s.slot i).cfg.notifyB then s.ntf.pendB ||| Event.slot.set else s.ntf.pendB }

/-- Produce a slot record with its SLOT event (R68): one of COMPLETE, FAULT, TIMEOUT, ABORTED, WITHDRAWN, TOO_LATE. -/
def State.offerSlot (s : State) (i : SlotNo) (kind : Kind) (tag : Byte) (set : Set32) (value : Half) : State :=
  (if (s.slot i).cfg.logRecords then s.offer kind i tag set value else s).raiseSlot i

/-- An epoch as a tag. -/
def epochTag (e : BitVec 4) : Byte := e.setWidth 8

/-- The required set outside a round: the mask, or the roster as it stands (R72). -/
def State.requiredNow (s : State) (i : SlotNo) : Set32 :=
  match (s.slot i).cfg.participation with
  | .fixed => (s.slot i).cfg.mask
  | .roster => s.mbr.roster

/-- The station is a member of the slot (R72). -/
abbrev State.MemberOf (s : State) (i : SlotNo) : Prop := (s.requiredNow i).getLsbD s.mbr.number = true

/-- A slot without its arrival: the arrival record and everything that stands only while it is held is gone (R69). The
caller sets the state. -/
def Slot.dropArrival (x : Slot) : Slot :=
  { x with arrival := none, published := false, committed := false, withdrawPending := false, timeoutPending := false,
           timer := 0, probe := false }

/-- The value of the arrival held, 0 where none is. -/
def Slot.arrivalValue (x : Slot) : Half :=
  match x.arrival with
  | some a => a.value
  | none => 0#16

/-! ### Inputs (ch. 8) -/

/-- The active level of a detection mode (R142). -/
def Detection.active : Detection → Level
  | .rising | .both | .high => .high
  | .falling | .low => .low

/-- HIGH and LOW are the level modes (R142). -/
def Detection.isLevel : Detection → Bool
  | .high | .low => true
  | .rising | .falling | .both => false

/-- An accepted change to `l` is reported as an edge (R142). -/
def Detection.isEdge : Detection → Level → Bool
  | .rising, .high => true
  | .falling, .low => true
  | .both, _ => true
  | _, _ => false

/-- Configuration of input `i`. -/
def State.inputCfg (s : State) (i : Fin 4) : InputConfig := s.pin.cfg.inputs[i]

/-- Running state of input `i`. -/
def State.input (s : State) (i : Fin 4) : Input := s.pin.inputs[i]

/-- Replace the running state of input `i`. -/
def State.setInput (s : State) (i : Fin 4) (x : Input) : State :=
  s.setPin { s.pin with inputs := s.pin.inputs.set i x }

/-- Input `i` is at its active level (R142). -/
abbrev State.InputActive (s : State) (i : Fin 4) : Prop := (s.input i).filtered = (s.inputCfg i).detection.active

/-- Input `i` is level-armed: bound to ARRIVE in a level mode (R144). -/
abbrev State.LevelArmed (s : State) (i : Fin 4) : Prop :=
  (s.inputCfg i).binding = .arrive ∧ (s.inputCfg i).detection.isLevel = true

/-- Disarm a level-armed input, which takes effect only while it is at its active level (R144). -/
def State.disarm (s : State) (i : Fin 4) : State :=
  if s.LevelArmed i ∧ s.InputActive i then s.setInput i { s.input i with armed := false } else s

/-- Disarm the input that is the source of an arrival which leaves WAITING other than by a completion (R144). -/
def State.disarmSource (s : State) (a : Option Arrival) : State :=
  match a with
  | some { source := .input k, .. } => s.disarm k
  | _ => s

/-! ### Outputs and notification lines -/

/-- Configuration of output `i`. -/
def State.outputCfg (s : State) (i : Fin 4) : OutputConfig := s.pin.cfg.outputs[i]

/-- Running state of output `i`. -/
def State.output (s : State) (i : Fin 4) : Output := s.pin.outputs[i]

/-- Replace the running state of output `i`. -/
def State.setOutput (s : State) (i : Fin 4) (x : Output) : State :=
  s.setPin { s.pin with outputs := s.pin.outputs.set i x }

/-- The logical state of output `i` (8.8); inactive while the internal reset runs (R150). -/
def State.outputActive (s : State) (i : Fin 4) : Bool :=
  if s.tsc.inReset then false
  else
    match (s.outputCfg i).mode with
    | .off => false
    | .pulse | .toggle => (s.output i).active
    | .waitLevel => (s.slot (low5 (s.outputCfg i).target)).state == .waiting
    | .flag => s.flg.word.getLsbD (s.outputCfg i).target.toNat && s.flg.sync == .synced
    | .halted => s.hlt.condition == .halted
    | .online => s.mbr.membership == .online

/-- The level output `i` drives (R150); low while the internal reset runs. -/
def State.outputPin (s : State) (i : Fin 4) : Level :=
  if s.tsc.inReset then .low
  else
    match (s.outputCfg i).polarity, s.outputActive i with
    | .activeHigh, true => .high
    | .activeHigh, false => .low
    | .activeLow, true => .low
    | .activeLow, false => .high

/-- The station pulls NA low (R164); released while the internal reset runs. -/
def State.naLow (s : State) : Bool := !s.tsc.inReset && (s.ntf.pendA &&& s.ntf.maskA != 0#9)

/-- The station pulls NB low (R164). -/
def State.nbLow (s : State) : Bool := !s.tsc.inReset && (s.ntf.pendB &&& s.ntf.maskB != 0#9)

/-- Act on a completion of slot `i` with output `o`: a PULSE output starts or restarts its pulse (R151), a TOGGLE output
changes (R152). -/
def State.actOnCompletion (s : State) (i : SlotNo) (o : Fin 4) : State :=
  match (s.outputCfg o).mode with
  | .pulse => if low5 (s.outputCfg o).target = i then s.setOutput o { active := true, pulse := some 0 } else s
  | .toggle =>
    if low5 (s.outputCfg o).target = i then s.setOutput o { s.output o with active := !(s.output o).active } else s
  | _ => s

/-- Every output acts on a completion of slot `i`. -/
def State.outputsOnCompletion (s : State) (i : SlotNo) : State :=
  (List.finRange 4).foldl (fun t o => t.actOnCompletion i o) s

/-! ### Sleep conditions and the auto-sleep timer (11.3) -/

/-- The sleep conditions (R178). -/
def State.sleepOk (s : State) : Bool :=
  (List.finRange 32).all (fun i => (s.slot i).state != .waiting)
    && s.rnd.requests.isEmpty
    && (s.lif.link == .idle || s.lif.link == .detached)
    && (s.ntf.pendA &&& s.ntf.maskA) == 0#9
    && (s.ntf.pendB &&& s.ntf.maskB) == 0#9
    && s.cmd.transfer.isNone
    && (List.finRange 4).all (fun o => (s.output o).pulse.isNone)

/-- The auto-sleep timer is set to zero whenever a sleep condition fails or the auto-sleep time is 0 (R179). It keeps its
count in SLEEP (R180). -/
def State.settle (s : State) : State :=
  if s.tsc.power = .active ∧ (s.sleepOk = false ∨ s.cfg.autoSleep = 0) then s.setTsc { s.tsc with autoSleep := 0 }
  else s

/-- The answer of every meaning: the state after the row's effect, with the auto-sleep timer held at zero where R179
says so. -/
def done (s : State) : Host.Outcome State Fault Refusal := .next s.settle

/-! ### The line interface -/

/-- Release both drivers, the wake stretch with them (R5). -/
def Lif.release (x : Lif) : Lif := { x with stbDrive := .released, datDrive := .released, stretch := false }

/-- Leave any handshake: the drivers are released and no handshake timer runs. -/
def Lif.quiet (x : Lif) : Lif := { x.release with begun := false, tLow := none, tHigh := none }

/-- The end of a bus-reset pulse, or of what it interrupts: drivers released, no pulse running, and with it no line exempt from
the stuck test (R15, R17). -/
def Lif.endPulse (x : Lif) : Lif := { x.quiet with pulse := none, stbExempt := false, datExempt := false }

/-- Enter SEEKING: drivers released, the idle timer restarted (R6, R7, R14, R18). -/
def Lif.seek (x : Lif) : Lif := { x.quiet with link := .seeking, idleTimer := 0 }

end Sys2Proof.Machine
end

