-- ==== Sys2Proof/Machine/Operands.lean ====
section
/-! DEFINITION. Operand forms and layouts of ch. 12: slot and line operands, the three configurations read and written, and the snapshots of every read. -/

namespace Sys2Proof.Machine

/-! ### Operands -/

/-- A slot operand: none for a number above 31 (R169). -/
def slotOf (b : Byte) : Option SlotNo := if h : b.toNat < 32 then some ⟨b.toNat, h⟩ else none

/-- The two notification lines. -/
inductive NotifyLine
  | a | b
  deriving DecidableEq, Repr

/-- A line operand: 0 for A, 1 for B, any other code names none (12.2). -/
def lineOf (x : Byte) : Option NotifyLine :=
  match x.toNat with
  | 0 => some .a
  | 1 => some .b
  | _ => none

/-- The event kinds named by a 16-bit operand: bits 15 to 9 are ignored (12.2, R162). -/
def kindsOf (x : Half) : EventSet := x.setWidth 9

/-- An event set as 16 bits (12.3). -/
def kindsHalf (x : EventSet) : Half := x.setWidth 16

/-- Bit `n` of a byte. -/
def bit (b : Byte) (n : Nat) : Bool := b.getLsbD n

/-- `width` bits of a byte from bit `n` up, as a number. -/
def bits (b : Byte) (n width : Nat) : Nat := (b.extractLsb' n width).toNat

/-- 1 for yes. -/
def oneIf (b : Bool) : Nat := if b then 1 else 0

/-- A byte from its value. -/
def byte (n : Nat) : Byte := BitVec.ofNat 8 n

/-! ### Station configuration (12.6) -/

/-- tSTUCK codes. -/
def stuckTimeOf : Nat → Option StuckTime
  | 0 => some .ms8
  | 1 => some .ms16
  | 2 => some .ms32
  | 3 => some .ms64
  | _ => none

def StuckTime.code : StuckTime → Nat
  | .ms8 => 0
  | .ms16 => 1
  | .ms32 => 2
  | .ms64 => 3

/-- The checks of R173 on a station configuration (R3, R41, R179). -/
def StationConfig.valid (c : StationConfig) : Bool :=
  4 ≤ c.tLow.toNat && 4 ≤ c.tHigh.toNat && 8 ≤ c.tIdle.toNat && c.tHigh.toNat < c.tIdle.toNat && c.retry ≤ 3
    && c.autoSleep ≤ 15

/-- The 7 bytes of a station configuration: none if a field fails its check (R173). Bits 7 and 3 of byte 3 are ignored
(R185). -/
def parseStationConfig : List Byte → Option StationConfig
  | [b0, b1, b2, b3, b4, b5, b6] =>
    match stuckTimeOf (bits b3 0 3) with
    | none => none
    | some t =>
      let c : StationConfig :=
        { tLow := b0, tHigh := b1, tIdle := b2, tStuck := t, retry := bits b3 4 3, rollPeriod := b4, filter := b5,
          autoSleep := b6.toNat }
      if c.valid then some c else none
  | _ => none

/-- The 7 bytes READ STATION CONFIG gives. -/
def stationConfigBytes (c : StationConfig) : List Byte :=
  [c.tLow, c.tHigh, c.tIdle, byte (16 * c.retry + c.tStuck.code), c.rollPeriod, c.filter, byte c.autoSleep]

/-! ### Slot configuration (12.6) -/

def participationOf : Nat → Option Participation
  | 0 => some .fixed
  | 1 => some .roster
  | _ => none

def Participation.code : Participation → Nat
  | .fixed => 0
  | .roster => 1

def policyOf : Nat → Option TimeoutPolicy
  | 0 => some .onlyLocal
  | 1 => some .halt
  | _ => none

def TimeoutPolicy.code : TimeoutPolicy → Nat
  | .onlyLocal => 0
  | .halt => 1

/-- The checks of R67 on a slot configuration: a retry limit of at most 3, and no enabled STATIC slot with an empty
mask. -/
def SlotConfig.valid (c : SlotConfig) : Bool :=
  c.retry ≤ 3 && !(c.enabled && c.participation == .fixed && c.mask == 0#32)

/-- The 8 bytes of a slot configuration: none if a field fails its check (R67). -/
def parseSlotConfig : List Byte → Option SlotConfig
  | [b0, b1, m3, m2, m1, m0, t1, t0] =>
    match participationOf (bits b0 4 2), policyOf (bits b0 0 2) with
    | some p, some q =>
      let c : SlotConfig :=
        { enabled := bit b0 7, participation := p, mask := word m3 m2 m1 m0, timeout := half t1 t0, policy := q,
          retry := bits b1 0 3, notifyA := bit b1 4, notifyB := bit b1 5, logRecords := bit b1 6,
          logProgress := bit b1 7 }
      if c.valid then some c else none
    | _, _ => none
  | _ => none

/-- The 8 bytes READ SLOT CONFIG gives for a slot. -/
def slotConfigBytes (c : SlotConfig) : List Byte :=
  [byte (128 * oneIf c.enabled + 16 * c.participation.code + c.policy.code),
   byte (128 * oneIf c.logProgress + 64 * oneIf c.logRecords + 32 * oneIf c.notifyB
     + 16 * oneIf c.notifyA + c.retry)]
    ++ wordBytes c.mask ++ halfBytes c.timeout

/-! ### Pin configuration (12.6) -/

def detectionOf : Nat → Option Detection
  | 0 => some .rising
  | 1 => some .falling
  | 2 => some .both
  | 3 => some .high
  | 4 => some .low
  | _ => none

def Detection.code : Detection → Nat
  | .rising => 0
  | .falling => 1
  | .both => 2
  | .high => 3
  | .low => 4

def bindingOf : Nat → Option Binding
  | 0 => some .off
  | 1 => some .arrive
  | 2 => some .flagSet
  | 3 => some .flagClear
  | 4 => some .flagFollow
  | 5 => some .halt
  | _ => none

def Binding.code : Binding → Nat
  | .off => 0
  | .arrive => 1
  | .flagSet => 2
  | .flagClear => 3
  | .flagFollow => 4
  | .halt => 5

/-- Bindings that use the target byte (R185). -/
def Binding.usesTarget : Binding → Bool
  | .arrive | .flagSet | .flagClear | .flagFollow => true
  | .off | .halt => false

def modeOf : Nat → Option Mode
  | 0 => some .off
  | 1 => some .pulse
  | 2 => some .toggle
  | 3 => some .waitLevel
  | 4 => some .flag
  | 5 => some .halted
  | 6 => some .online
  | _ => none

def Mode.code : Mode → Nat
  | .off => 0
  | .pulse => 1
  | .toggle => 2
  | .waitLevel => 3
  | .flag => 4
  | .halted => 5
  | .online => 6

/-- Modes that use the target byte (R185). -/
def Mode.usesTarget : Mode → Bool
  | .pulse | .toggle | .waitLevel | .flag => true
  | .off | .halted | .online => false

/-- The 5 bytes of an input configuration: a target above 31 is refused where the binding uses it, and stored as written
where it does not (R185). -/
def parseInput (b0 b1 b2 b3 b4 : Byte) : Option InputConfig :=
  match detectionOf (bits b0 0 3), bindingOf (bits b1 0 3) with
  | some d, some k =>
    if k.usesTarget = true ∧ 32 ≤ b2.toNat then none
    else some { detection := d, debounce := bit b0 4, wake := bit b0 5, binding := k, target := b2, value := half b3 b4 }
  | _, _ => none

/-- The 3 bytes of an output configuration: a pulse width of 0 is refused (R140). -/
def parseOutput (b0 b1 b2 : Byte) : Option OutputConfig :=
  match modeOf (bits b0 0 3) with
  | some m =>
    if m.usesTarget = true ∧ 32 ≤ b1.toNat then none
    else if b2 = 0#8 then none
    else some { polarity := if bit b0 7 then .activeLow else .activeHigh, mode := m, target := b1, width := b2 }
  | none => none

/-- The input configuration in bytes 5i to 5i+4 of a pin configuration. -/
def parseInputAt (bytes : List Byte) (i : Nat) : Option InputConfig :=
  match bytes.drop (5 * i) with
  | b0 :: b1 :: b2 :: b3 :: b4 :: _ => parseInput b0 b1 b2 b3 b4
  | _ => none

/-- The output configuration in bytes 20+3i to 20+3i+2 of a pin configuration. -/
def parseOutputAt (bytes : List Byte) (i : Nat) : Option OutputConfig :=
  match bytes.drop (20 + 3 * i) with
  | b0 :: b1 :: b2 :: _ => parseOutput b0 b1 b2
  | _ => none

/-- The 33 bytes of a pin configuration: none if a field fails its check (R140, R185). -/
def parsePinConfig (bytes : List Byte) : Option PinConfig :=
  if bytes.length ≠ 33 then none
  else
    match parseInputAt bytes 0, parseInputAt bytes 1, parseInputAt bytes 2, parseInputAt bytes 3 with
    | some i0, some i1, some i2, some i3 =>
      match parseOutputAt bytes 0, parseOutputAt bytes 1, parseOutputAt bytes 2, parseOutputAt bytes 3 with
      | some u0, some u1, some u2, some u3 =>
        some { inputs := #v[i0, i1, i2, i3], outputs := #v[u0, u1, u2, u3], debounce := bytes.getD 32 0#8 }
      | _, _, _, _ => none
    | _, _, _, _ => none

/-- The 5 bytes of an input configuration as read. -/
def inputConfigBytes (c : InputConfig) : List Byte :=
  [byte (32 * oneIf c.wake + 16 * oneIf c.debounce + c.detection.code), byte c.binding.code, c.target]
    ++ halfBytes c.value

/-- The 3 bytes of an output configuration as read. -/
def outputConfigBytes (c : OutputConfig) : List Byte :=
  [byte ((match c.polarity with | .activeHigh => 0 | .activeLow => 128) + c.mode.code), c.target, c.width]

/-- The 33 bytes READ PIN CONFIG gives. -/
def pinConfigBytes (c : PinConfig) : List Byte :=
  ((List.finRange 4).flatMap fun i => inputConfigBytes c.inputs[i])
    ++ ((List.finRange 4).flatMap fun o => outputConfigBytes c.outputs[o]) ++ [c.debounce]

/-! ### Snapshots of the reads (12.3 to 12.5) -/

/-- Reset cause codes. -/
def ResetCause.code : ResetCause → Nat
  | .powerOn => 0
  | .pin => 1
  | .soft => 2

/-- Link codes. -/
def Link.code : Link → Nat
  | .detached => 0
  | .seeking => 1
  | .idle => 2
  | .round => 3
  | .closing => 4
  | .resetting => 5
  | .fault => 6

/-- Slot state codes. -/
def SlotState.code : SlotState → Nat
  | .disabled => 0
  | .ready => 1
  | .waiting => 2
  | .fault => 3

/-- Arrival source codes (12.4). -/
def Source.code : Source → Nat
  | .command => 0
  | .input i => 1 + i.val

/-- Four yes/no items as bits 3 to 0, item `i` at bit `i`. -/
def nibble (f : Fin 4 → Bool) : Nat := 8 * oneIf (f 3) + 4 * oneIf (f 2) + 2 * oneIf (f 1) + oneIf (f 0)

/-- The 11 bytes of READ STATUS (R172, 12.3). -/
def statusBytes (s : State) : List Byte :=
  [byte (64 * s.tsc.cause.code + s.mbr.number.val),
   byte (64 * s.mbr.membership.code + s.lif.link.code),
   byte (128 * oneIf (s.hlt.condition == .halted) + 64 * oneIf s.hlt.commandHold
     + 32 * oneIf s.hlt.resumePending + s.hlt.inputHold.toNat),
   byte s.rnd.requests.length,
   byte s.log.records.length,
   byte (16 * nibble (fun i => (s.input i).armed) + nibble (fun i => (s.input i).filtered == .high)),
   byte (nibble s.outputActive)]
    ++ wordBytes s.tsc.time

/-- The 4 bytes of READ ROSTER. -/
def rosterBytes (s : State) : List Byte := wordBytes s.mbr.roster

/-- The 13 bytes of READ FLAGS (R112). -/
def flagsBytes (s : State) : List Byte :=
  wordBytes s.flg.word ++ [byte (oneIf (s.flg.sync == .synced))] ++ wordBytes s.flg.setReq ++ wordBytes s.flg.clearReq

/-- The 8 bytes of READ EVENTS (R161). -/
def eventsBytes (s : State) : List Byte :=
  halfBytes (kindsHalf s.ntf.pendA) ++ halfBytes (kindsHalf s.ntf.pendB) ++ halfBytes (kindsHalf s.ntf.maskA)
    ++ halfBytes (kindsHalf s.ntf.maskB)

/-- The 26 bytes of READ SLOT for one slot (12.4, R186). -/
def slotBytes (s : State) (i : SlotNo) : List Byte :=
  let x := s.slot i
  let entry := findEntry s.rnd.requests .arrive i
  [byte i.val,
   byte (16 * x.epoch.toNat + 4 * oneIf (x.sync == .synced) + x.state.code),
   byte (64 * (match entry with | some e => e.voids | none => 0) + 32 * oneIf x.result.isSome
     + 16 * oneIf (x.state == .waiting) + 8 * oneIf x.timeoutPending + 4 * oneIf x.withdrawPending
     + 2 * oneIf x.committed + oneIf x.published)]
    ++ (match x.arrival with
        | some a => [byte a.source.code] ++ halfBytes a.value ++ wordBytes a.time
        | none => List.replicate 7 0#8)
    ++ wordBytes x.lastSeen
    ++ (match x.result with
        | some r => [byte r.epoch.toNat] ++ wordBytes r.arrived ++ halfBytes r.agreed ++ wordBytes r.time
        | none => List.replicate 11 0#8)
    ++ [byte (2 * oneIf (x.probe && entry.isSome) + oneIf entry.isSome)]

/-- The 14 bytes of a log record (12.5). -/
def recordBytes (r : Record) : List Byte :=
  [r.seq, byte r.kind.code, byte r.sel.val, r.tag] ++ wordBytes r.set ++ halfBytes r.value ++ wordBytes r.time

/-- The 14 bytes of a NONE record: its sequence field carries the next number, its stamp the station time (R157). -/
def noneBytes (s : State) : List Byte :=
  [s.log.next, 0#8, 0#8, 0#8] ++ wordBytes 0#32 ++ halfBytes 0#16 ++ wordBytes s.tsc.time

/-- The slot `j` places after `i`, from 31 to 0 (R171). -/
def slotAfter (i : SlotNo) (j : Nat) : SlotNo := Fin.ofNat 32 (i.val + j)

/-- The bytes a record's snapshot holds: the oldest record of the log, or NONE where it is empty (R157). -/
def logBytes (s : State) : List Byte :=
  match s.log.records with
  | r :: _ => recordBytes r
  | [] => noneBytes s

end Sys2Proof.Machine
end

