-- ==== Sys2Proof/Machine/Port.lean ====
section
/-! DEFINITION. The command port: the start of a transfer, its bytes clocked by SCK edge and by byte, the snapshots of reads taken as their bytes begin, and its end (ch. 10). -/

namespace Sys2Proof.Machine

/-! ### CSN falls -/

/-- The status byte (R166, 12.3): 0xFF during the internal reset, outcome ASLEEP in SLEEP. -/
def State.statusByte (s : State) : Byte :=
  if s.tsc.inReset then 0xFF#8
  else
    let outcome := if s.tsc.power = .sleep then 14 else s.cmd.last.code
    let halted := if s.hlt.condition = .halted then 1 else 0
    let nonEmpty := if s.log.records = [] then 0 else 1
    BitVec.ofNat 8 (16 * outcome + 4 * s.mbr.membership.code + 2 * halted + nonEmpty)

/-- How a transfer is handled whose CSN falls now (R174, R175). -/
def State.handling (s : State) : Handling :=
  if s.tsc.inReset then .ignored
  else
    match s.tsc.power with
    | .active => .active
    | .sleep => .asleep

/-- Replace the transfer in progress. -/
def State.setTransfer (s : State) (x : Option Transfer) : State := s.setCmd { s.cmd with transfer := x }

/-- A transfer as CSN falls (R165, R166): its mode and handling are fixed, and the status byte is on SDO. -/
def State.newTransfer (s : State) (sck : Level) : Transfer :=
  { mode := (match sck with | .low => .mode0 | .high => .mode3), handling := s.handling, received := [], bits := []
    out := s.statusByte, clocked := 0, sent := [], record := false }

/-- CSN falls (R165). CSN low breaks the sleep conditions, so the auto-sleep timer is set to zero (R179), except in SLEEP
where it keeps its count. Without effect while a transfer is in progress. -/
def State.openTransfer (s : State) (sck : Level) : State :=
  match s.cmd.transfer with
  | some _ => s
  | none =>
    let tsc := if s.tsc.power = .active then { s.tsc with autoSleep := 0 } else s.tsc
    (s.setTsc tsc).setTransfer (some (s.newTransfer sck))

/-! ### Bytes on SDO and SDI -/

/-- `n` bytes 0x00, as SDO shifts them during operand bytes and where a command has no data (R165). -/
def zeros (n : Nat) : List Byte := List.replicate n 0#8

/-- What a read gives for the data byte that follows `n` others: the byte's place in its snapshot, and what the snapshot
holds if it is taken now. A write command, and a slot read with an operand above 31, have no data (R157, R170, R171). -/
def dataDue (s : State) : Instr → Option (Nat × List Byte)
  | .readStatus n => some (n, statusBytes s)
  | .readRoster n => some (n, rosterBytes s)
  | .readFlags n => some (n, flagsBytes s)
  | .readEvents n => some (n, eventsBytes s)
  | .readStationConfig n => some (n, stationConfigBytes s.cfg)
  | .readPinConfig n => some (n, pinConfigBytes s.pin.cfg)
  | .readLog n => some (n % 14, logBytes s)
  | .readSlot slot n => (slotOf slot).map fun i => (n % 26, slotBytes s (slotAfter i (n / 26)))
  | .readSlotConfig slot n => (slotOf slot).map fun i => (n % 8, slotConfigBytes (s.slot (slotAfter i (n / 8))).cfg)
  | _ => none

/-- What the bytes received so far call for in the byte that begins now (R165). -/
def dataFor (s : State) : List Byte → Option (Nat × List Byte)
  | opcode :: rest => (decodeCommand opcode rest).bind (dataDue s)
  | [] => none

/-- The transfer is READ LOG, from its opcode (12.2). -/
def readsLog (received : List Byte) : Bool := received.head? == some 0x06#8

/-- The transfer with the next byte begun on SDO. -/
def Transfer.start (x : Transfer) (b : Byte) : Transfer := { x with out := b, clocked := 0 }

/-- The first bit of the next byte is placed on SDO: data where the command has some, its snapshot taken as its first byte
begins (R157, R170, R171), and 0x00 otherwise (R165); 0x00 in SLEEP (R175); 0xFF in an ignored transfer, for as long as CSN
is low (R174). -/
def State.beginByte (s : State) : State :=
  match s.cmd.transfer with
  | none => s
  | some x =>
    match x.handling with
    | .active =>
      match dataFor s x.received with
      | some (place, fresh) =>
        let copy := if place = 0 then fresh else s.cmd.snapshot
        let record := if place = 0 then readsLog x.received && !s.log.records.isEmpty else x.record
        s.setCmd { s.cmd with snapshot := copy, transfer := some { x.start (copy.getD place 0#8) with record := record } }
      | none => s.setTransfer (some (x.start 0#8))
    | .asleep => s.setTransfer (some (x.start 0#8))
    | .ignored => s.setTransfer (some (x.start 0xFF#8))

/-- The last bit of the byte on SDO has been shifted out, and SDI has brought in `b`: the bytes received are then those
given. -/
def Transfer.finish (x : Transfer) (received : List Byte) : Transfer :=
  { x with received := received, bits := [], clocked := 8, sent := x.sent ++ [x.out] }

/-- The fourteenth byte of a record has been shifted out with the last of these bytes (R157, R158). -/
def endsRecord (received : List Byte) : Bool :=
  readsLog received && received.length != 1 && received.length % 14 == 1

/-- A byte is complete (R165): the record whose last bit has been shifted out is removed (R157). An ignored transfer takes
nothing from SDI (R174). -/
def State.endByte (b : Byte) (s : State) : State :=
  match s.cmd.transfer with
  | none => s
  | some x =>
    match x.handling with
    | .active =>
      let received := x.received ++ [b]
      if x.record && endsRecord received then
        (s.setTransfer (some { x.finish received with record := false })).setLog
          { s.log with records := s.log.records.drop 1 }
      else s.setTransfer (some (x.finish received))
    | .asleep => s.setTransfer (some (x.finish (x.received ++ [b])))
    | .ignored => s.setTransfer (some (x.finish []))

/-- The byte in progress, or the next one where the last is complete. -/
def State.readyByte (s : State) : State :=
  match s.cmd.transfer with
  | some x => if x.clocked < 8 then s else s.beginByte
  | none => s

/-- The rest of a byte `b` of SDI is clocked. -/
def State.clockByte (s : State) (b : Byte) : State := s.readyByte.endByte b

/-! ### SCK edges (R165) -/

/-- A rising edge of SCK: SDI is sampled, and the eighth completes the byte. -/
def State.sckRise (s : State) (sdi : Level) : State :=
  match s.cmd.transfer with
  | none => s
  | some x =>
    if x.clocked < 7 then
      let bits := match x.handling with | .ignored => [] | .active | .asleep => x.bits ++ [sdi]
      s.setTransfer (some { x with clocked := x.clocked + 1, bits := bits })
    else s.endByte (byteOf (x.bits ++ [sdi]))

/-- A falling edge of SCK: SDO changes to the next bit, which begins the next byte where one is complete. -/
def State.sckFall (s : State) : State := s.readyByte

/-- SCK and SDI take the levels that the board processor gives next (log 31); an edge counts while CSN is low. -/
def State.clockPort (s : State) : State :=
  match s.spi.feed with
  | [] => s
  | (sck, sdi) :: rest =>
    let t := s.setSpi { sck := sck, sdi := sdi, feed := rest }
    match s.spi.sck, sck with
    | .low, .high => t.sckRise sdi
    | .high, .low => t.sckFall
    | _, _ => t

/-- The level of SDO: the bit to be sampled next while SCK is low, the one last sampled while it is high. None while CSN is
high: SDO is released (R165). -/
def State.sdoPin (s : State) : Option Level :=
  s.cmd.transfer.map fun x =>
    let n := match s.spi.sck with | .low => x.clocked | .high => x.clocked - 1
    if x.out.getLsbD (7 - n) then .high else .low

/-! ### The internal reset (R174) -/

/-- The first `k` bits of `a` and the others of `b`, most significant first. -/
def splice (a b : Byte) (k : Nat) : Byte := (a &&& ~~~(0xFF#8 >>> k)) ||| (b &&& (0xFF#8 >>> k))

/-- A transfer ignored from now on: its framing state is cleared, and SDO shifts 0xFF. R174 does not speak of the byte on SDO at
that moment; its bits not yet clocked are 1 (log 14). -/
def Transfer.cut (x : Transfer) : Transfer :=
  { x with handling := .ignored, received := [], bits := [], out := splice x.out 0xFF#8 x.clocked, record := false }

/-! ### CSN rises -/

/-- Record the outcome of the transfer (R167). -/
def State.setLast (s : State) (c : Code) : State := s.setCmd { s.cmd with last := c }

/-- CSN rises: the transfer is over, and what is kept of it are the bytes SDO shifted out in full. -/
def State.deselect (s : State) : State :=
  match s.cmd.transfer with
  | some x => s.setCmd { s.cmd with transfer := none, sdo := x.sent }
  | none => s

/-- The bits SDI has carried. -/
def Transfer.levels (x : Transfer) : List Level := x.received.flatMap bitsOf ++ x.bits

/-- A transfer can end with `lead`, then `n` bytes and `extra` bits that are not examined, as what SDI carried in all. -/
def Transfer.agrees (x : Transfer) (lead : List Byte) (n extra : Nat) : Bool :=
  let total := 8 * (lead.length + n) + extra
  match x.handling with
  | .ignored => 8 * x.sent.length + x.clocked % 8 ≤ total
  | .active | .asleep =>
    x.levels.length ≤ total && x.levels.take (8 * lead.length) == (lead.flatMap bitsOf).take x.levels.length

/-- The end of a transfer that carries `lead`, then `n` bytes and `extra` bits: what is still to come of it is clocked, CSN
rises, and `body` is done as the transfer was handled. The transfer is opened here if none is in progress (log 10); one
that has carried something else does not end so (log 7). -/
def State.transfer (s : State) (lead : List Byte) (n extra : Nat) (body : Handling → State → State) : State :=
  let a := s.openTransfer .low
  match a.cmd.transfer with
  | none => s
  | some x =>
    if x.agrees lead n extra then
      let b := ((lead ++ zeros n).drop x.sent.length).foldl State.clockByte a
      body x.handling (if extra = 0 then b else b.readyByte).deselect
    else s

/-- At the rise of CSN of a transfer handled in ACTIVE, `body` is done and the outcome it gives recorded; in SLEEP, and in
an ignored transfer, nothing is (R174, R175). -/
def whenActive (body : State → State × Code) (h : Handling) (s : State) : State :=
  match h with
  | .active => (body s).1.setLast (body s).2
  | .asleep | .ignored => s

/-- The whole transfer of the command `c`, which does `body` at the rise of CSN (R168, R169). -/
def State.command (s : State) (c : Instr) (body : State → State × Code) : State :=
  s.transfer (leadBytes c) (dataBytes c) 0 (whenActive body)

/-- A command refused with an outcome: it changes nothing (R169). -/
def refuse (c : Code) (s : State) : State × Code := (s, c)

end Sys2Proof.Machine
end

