-- ==== Sys2Proof/Machine/Flags.lean ====
section
/-! DEFINITION. The flag unit: requests, changes of the shared flag word with their records, and the word's part in rounds (ch. 6). -/

namespace Sys2Proof.Machine

/-- Requests that add `m` to S and remove it from C (R113). -/
def Flg.askSet (f : Flg) (m : Set32) : Flg :=
  { f with setReq := f.setReq ||| m, clearReq := f.clearReq &&& ~~~m }

/-- Requests that add `m` to C and remove it from S (R113). -/
def Flg.askClear (f : Flg) (m : Set32) : Flg :=
  { f with clearReq := f.clearReq ||| m, setReq := f.setReq &&& ~~~m }

/-- S and C together are empty (R114). -/
abbrev Flg.Quiet (f : Flg) : Prop := f.setReq ||| f.clearReq = 0#32

/-- The FLAGS entry is held exactly while S and C together are non-empty (R114): place it, or remove it. -/
def State.syncFlagsEntry (s : State) : State :=
  if s.flg.Quiet then s.remove .flags 0 else s.place .flags 0

/-- A set request of the bits of `m`, taken only while ONLINE (R113, R146). -/
def State.requestSet (s : State) (m : Set32) : State :=
  if s.mbr.membership = .online then (s.setFlg (s.flg.askSet m)).syncFlagsEntry else s

/-- A clear request of the bits of `m`, taken only while ONLINE (R113, R146). -/
def State.requestClear (s : State) (m : Set32) : State :=
  if s.mbr.membership = .online then (s.setFlg (s.flg.askClear m)).syncFlagsEntry else s

/-- Discard both masks and remove the FLAGS entry (R117, R122). -/
def State.discardFlags (s : State) : State :=
  (s.setFlg { s.flg with setReq := 0#32, clearReq := 0#32 }).remove .flags 0

/-- Give the word a new value. If it differs from the old, a FLAGS record with the cause and a FLAGS event follow
(R116, R120, R121, R123). -/
def State.changeWord (s : State) (new : Word) (cause : Byte) : State :=
  let old := s.flg.word
  let t := s.setFlg { s.flg with word := new, sync := .synced }
  if new = old then t
  else (t.offer .flags s.mbr.number cause new (BitVec.ofNat 16 (card (old ^^^ new)))).raise .flags

/-- The word after an accepted FLAGS round: the sampled sets, then the sampled clears (R116). -/
def wordAfter (w : Word) (sets clears : Set32) : Word := (w ||| sets) &&& ~~~clears

/-- The effects of an accepted FLAGS round in the order of R116. -/
def State.applyFlags (s : State) (sets clears latchS latchC : Set32) : State :=
  let f := { s.flg with setReq := s.flg.setReq &&& ~~~latchS, clearReq := s.flg.clearReq &&& ~~~latchC }
  let t := s.setFlg f
  let u := if f.Quiet then t.remove .flags 0 else t.zeroVoids .flags 0
  u.changeWord (wordAfter s.flg.word sets clears) causeRound

end Sys2Proof.Machine
end

