-- ==== Sys2Proof/Machine/Slots.lean ====
section
/-! DEFINITION. The slot table and the halt unit's sources: arrivals taken, withdrawn, timed out, aborted; halt requests and holds (ch. 4, 7). -/

namespace Sys2Proof.Machine

/-! ### Halt sources (7.2) -/

/-- Record a cause for the halt request, or lower it, and place the HALT entry (R125). -/
def State.requestHalt (s : State) (cause : Half) : State :=
  let c :=
    match s.hlt.request with
    | none => cause
    | some old => if cause.toNat < old.toNat then cause else old
  (s.setHlt { s.hlt with request := some c }).place .halt 0

/-- A halt source without a hold, a timeout or an edge-mode input: a request while RUNNING, nothing while HALTED; taken
only while ONLINE (R125). -/
def State.haltSource (s : State) (cause : Half) : State :=
  if s.mbr.membership = .online ∧ s.hlt.condition = .running then s.requestHalt cause else s

/-- The cause of a timeout of slot `i` (R81). -/
def timeoutCause (i : SlotNo) : Half := BitVec.ofNat 16 (0x8000 + i.val)

/-- The cause of input `i` (R148). -/
def inputCause (i : Fin 4) : Half := BitVec.ofNat 16 (0x8100 + i.val)

/-- The lower of a held cause and a new one (R125). -/
def lowerCause (held : Option Half) (cause : Half) : Half :=
  match held with
  | none => cause
  | some old => if cause.toNat < old.toNat then cause else old

/-- The HALT command as a source, while ONLINE: the command hold is set; while RUNNING a halt request is made; while
HALTED the cause is recorded as, or lowers, the held cause (R125, R126). -/
def State.commandHalt (s : State) (cause : Half) : State :=
  match s.hlt.condition with
  | .running =>
    let t := s.requestHalt cause
    t.setHlt { t.hlt with commandHold := true }
  | .halted => s.setHlt { s.hlt with commandHold := true, heldCause := some (lowerCause s.hlt.heldCause cause) }

/-- The set of input `i` alone. -/
def inputBit (i : Fin 4) : BitVec 4 := 1#4 <<< i.val

/-- A level-mode input goes active, while ONLINE: a source that joins the input hold set (R127, R148). -/
def State.inputHalt (s : State) (i : Fin 4) : State :=
  if s.mbr.membership = .online then
    let t := s.haltSource (inputCause i)
    t.setHlt { t.hlt with inputHold := t.hlt.inputHold ||| inputBit i }
  else s

/-- A level-mode input goes inactive: it leaves the input hold set in any membership and condition (R127). -/
def State.inputUnhalt (s : State) (i : Fin 4) : State :=
  s.setHlt { s.hlt with inputHold := s.hlt.inputHold &&& ~~~inputBit i }

/-- Remove the halt request with its HALT entry (R129, R137). -/
def State.dropHaltRequest (s : State) : State := (s.setHlt { s.hlt with request := none }).remove .halt 0

/-- The halt unit's values with nothing requested or held and the given condition. -/
def Hlt.clear (c : Condition) : Hlt :=
  { condition := c, request := none, commandHold := false, heldCause := none, inputHold := 0#4, resumePending := false }

/-- The halt unit at LEAVE (R138): request, holds and pending resume go with their entries; the condition stays. -/
def State.leaveHalt (s : State) : State :=
  ((s.setHlt (Hlt.clear s.hlt.condition)).remove .halt 0).remove .resume 0

/-! ### Arrivals (4.3) -/

/-- The tests of R75 after the slot number, in their order; `ok` when all of R74 hold. -/
def State.arrivalTest (s : State) (i : SlotNo) : Code :=
  if s.mbr.membership ≠ .online then .state
  else if (s.slot i).cfg.enabled = false then .operand
  else if (s.slot i).state = .fault then .state
  else if s.hlt.condition = .halted then .halted
  else if ¬s.MemberOf i then .notMember
  else if (s.slot i).state = .waiting then .already
  else .ok

/-- An arrival is taken (R74). -/
def State.takeArrival (s : State) (i : SlotNo) (value : Half) (source : Source) : State :=
  (s.setSlot i
    { (s.slot i).dropArrival with
      state := .waiting
      arrival := some { value := value, source := source, time := s.tsc.time } }).place .arrive i

/-- An arrival attempt: taken, or refused with the outcome of the first failing test (R74, R75). -/
def State.attempt (s : State) (i : SlotNo) (value : Half) (source : Source) : State × Code :=
  match s.arrivalTest i with
  | .ok => (s.takeArrival i value source, .ok)
  | c => (s, c)

/-- The attempt of a level-armed input: a refused one disarms it (R144). -/
def State.levelAttempt (s : State) (k : Fin 4) : State :=
  let r := s.attempt (low5 (s.inputCfg k).target) (s.inputCfg k).value (.input k)
  if r.2 = .ok then r.1 else s.disarm k

/-- The arrival of slot `i` leaves WAITING with the slot READY, by a cause other than a completion: its ARRIVE entry is
removed, its timer cancelled and its source disarmed (R79, R86, R144). -/
def State.removeArrival (s : State) (i : SlotNo) : State :=
  ((s.setSlot i { (s.slot i).dropArrival with state := .ready }).remove .arrive i).disarmSource (s.slot i).arrival

/-- A withdrawal takes effect (R79); the record is WITHDRAWN, or TIMEOUT where an expiry takes effect (R81). -/
def State.withdrawNow (s : State) (i : SlotNo) (kind : Kind) : State :=
  let x := s.slot i
  (s.removeArrival i).offerSlot i kind (epochTag x.epoch) x.lastSeen x.arrivalValue

/-- A timeout takes effect (R81): TIMEOUT, and under policy HALT a halt request with cause 0x8000 plus the slot. -/
def State.timeoutNow (s : State) (i : SlotNo) : State :=
  let t := s.withdrawNow i .timeout
  match (s.slot i).cfg.policy with
  | .halt => t.haltSource (timeoutCause i)
  | .onlyLocal => t

/-- An abort of a WAITING slot with its ABORTED record (R84, R86, R87, R88). -/
def State.abortNow (s : State) (i : SlotNo) (reason : Byte) : State :=
  let x := s.slot i
  (s.removeArrival i).offerSlot i .aborted reason x.lastSeen x.arrivalValue

/-- Halt abort of one slot (R86): an arrival is aborted, and the last-seen set of an enabled slot emptied. -/
def State.haltAbortSlot (i : SlotNo) (s : State) : State :=
  let t := if (s.slot i).state = .waiting then s.abortNow i reasonHalt else s
  if (t.slot i).cfg.enabled then t.setSlot i { t.slot i with lastSeen := 0#32 } else t

/-- Halt abort (R86): every WAITING slot in ascending order, and every enabled slot's last-seen set. -/
def State.haltAbort (s : State) : State := forSlots State.haltAbortSlot s

/-- Commitment of slot `i` resolved for a round that did not complete it (R78): a pending withdrawal takes effect, else
a pending timeout does; the arrival stops being committed. -/
def State.resolveUncompleted (s : State) (i : SlotNo) : State :=
  let x := s.slot i
  if x.state = .waiting ∧ x.committed = true then
    if x.withdrawPending then s.withdrawNow i .withdrawn
    else if x.timeoutPending then s.timeoutNow i
    else s.setSlot i { x with committed := false }
  else s

/-- A slot put back by a bus reset or by going OFFLINE: READY with epoch 0 and an empty last-seen set (R87, R88). -/
def Slot.rebase (x : Slot) (sync : Sync) : Slot :=
  { x.dropArrival with state := .ready, sync := sync, epoch := 0#4, lastSeen := 0#32 }

/-- One enabled slot at a bus reset or on going OFFLINE, its arrival aborted with the reason (R87, R88). -/
def State.rebaseSlot (reason : Byte) (sync : Sync) (i : SlotNo) (s : State) : State :=
  if (s.slot i).cfg.enabled then
    let t := if (s.slot i).state = .waiting then s.abortNow i reason else s
    t.setSlot i ((t.slot i).rebase sync)
  else s

/-! ### Resume (7.4) -/

/-- A hold found set at a successful resume was set after SETB began: it is taken as a fresh source (R134). The held
cause, where there is one, renews the request; a request already present stays (log 27). -/
def State.renewCommandHold (s : State) (old : Hlt) : State :=
  if s.mbr.membership = .online ∧ old.commandHold = true then
    let t :=
      match old.heldCause with
      | some c => s.requestHalt c
      | none => s
    t.setHlt { t.hlt with commandHold := true, heldCause := none }
  else s

/-- An input that joined the hold set during the round and is still in it is a fresh source (R134). -/
def State.renewInputHold (old : Hlt) (i : Fin 4) (s : State) : State :=
  if old.inputHold.getLsbD i then s.inputHalt i else s

/-- A successful resume (R134): RUNNING, holds cleared, the RESUME record and event, then the fresh sources. -/
def State.resumeNow (s : State) (requesters : Set32) : State :=
  let old := s.hlt
  let t := s.setHlt { Hlt.clear .running with request := s.hlt.request }
  let t := (t.offer .resume s.mbr.number causeRound requesters 0#16).raise .resume
  forInputs (State.renewInputHold old) (t.renewCommandHold old)

end Sys2Proof.Machine
end

