-- ==== Sys2Proof/Machine/Membership.lean ====
section
/-! DEFINITION. The membership controller: roster changes, going OFFLINE, stuck lines, a recognised bus reset (ch. 3, and what the other chapters do at those moments). -/

namespace Sys2Proof.Machine

/-- Change the membership with its MEMBER event (R48). -/
def State.enter (s : State) (m : Membership) : State := (s.setMbr { s.mbr with membership := m }).raise .member

/-- Give the roster a new value; if it changes, a ROSTER record with selector and cause and a ROSTER event follow
(R54, R58, R64, R65). -/
def State.changeRoster (s : State) (new : Set32) (sel : Fin 32) (cause : Byte) : State :=
  if new = s.mbr.roster then s
  else
    ((s.setMbr { s.mbr with roster := new }).offer .roster sel cause new (BitVec.ofNat 16 (card new))).raise .roster

/-- The link on going OFFLINE: DETACHED with both drivers released, but from FAULT or RESETTING it stays (R4). -/
def Lif.detach (x : Lif) : Lif :=
  match x.link with
  | .fault | .resetting => x
  | _ => { x.quiet with link := .detached, idleTimer := 0, startDetector := false }

/-- The common effects of going OFFLINE, after the cause's record (R62, R31, R122, R138, R88). -/
def State.goOffline (s : State) : State :=
  let a := s.enter .offline
  let b := a.setMbr { a.mbr with roster := 0#32, rollTimer := 0, nonce := none }
  let c := (b.setRnd { requests := [], round := none }).setLif b.lif.detach
  let d := c.setFlg { word := 0#32, sync := .unsynced, setReq := 0#32, clearReq := 0#32 }
  let e := d.setHlt (Hlt.clear .running)
  forSlots (State.rebaseSlot reasonOffline .unsynced) e

/-- A LEFT record and going OFFLINE (R58, R59, R64, R65). -/
def State.leaveBus (s : State) (cause : Byte) : State :=
  (s.offer .left s.mbr.number cause s.mbr.roster 0#16).goOffline

/-- The join nonce as a record value, 0 where none is held. -/
def Mbr.nonceValue (m : Mbr) : Half :=
  match m.nonce with
  | some v => v
  | none => 0#16

/-- A JOIN_REFUSED record and going OFFLINE (R53, R55, R65). -/
def State.refuseJoin (s : State) (reason : Byte) (set : Set32) : State :=
  (s.offer .joinRefused s.mbr.number reason set s.mbr.nonceValue).goOffline

/-! ### Stuck lines (R15, R63) -/

/-- The tag of a BUS_FAULT record (12.5). -/
def stuckTag (stb dat : Bool) : Byte :=
  match stb, dat with
  | true, true => 3#8
  | true, false => 1#8
  | false, _ => 2#8

/-- The membership controller's part of a stuck line: the BUS_FAULT record and BUS event, and OFFLINE for a station that
takes part in the bus (R63). -/
def State.busFault (s : State) (stb dat : Bool) : State :=
  let t := (s.offer .busFault s.mbr.number (stuckTag stb dat) s.mbr.roster 0#16).raise .bus
  if s.OnBus then t.goOffline else t

/-! ### Bus reset (R64) -/

/-- The request list at a recognised bus reset (R31): only a JOIN entry stays, with void count 0. -/
def busResetRequests (l : List Entry) : List Entry :=
  (l.filter fun e => e.cls == .join).map fun e => { e with voids := 0 }

/-- A FLAG_FOLLOW input at a moment when the word has been set afresh (R147): a set request at its active level, and at
its inactive level a clear request where `clears`. -/
def State.followInput (clears : Bool) (i : Fin 4) (s : State) : State :=
  if (s.inputCfg i).binding = .flagFollow then
    if s.InputActive i then s.requestSet (only (low5 (s.inputCfg i).target))
    else if clears then s.requestClear (only (low5 (s.inputCfg i).target))
    else s
  else s

/-- The flag unit at a bus reset while ONLINE (R121): requests emptied, word 0 and SYNCED, a FLAGS record if it was not. -/
def State.busResetFlags (s : State) : State :=
  (s.setFlg { s.flg with setReq := 0#32, clearReq := 0#32 }).changeWord 0#32 causeBusReset

/-- The halt unit at a bus reset while ONLINE (R138): RUNNING, nothing held; a RESUME record if it was HALTED. -/
def State.busResetHalt (s : State) : State :=
  let t := s.setHlt (Hlt.clear .running)
  match s.hlt.condition with
  | .halted => (t.offer .resume s.mbr.number causeBusReset 0#32 0#16).raise .resume
  | .running => t

/-- The blocks of an ONLINE station at a recognised bus reset, after the BUS_RESET record: roster, roll timer and ROLL
entry (R64), slots (R87), flag word (R121), condition (R138), FLAG_FOLLOW inputs (R147). -/
def State.busResetOnline (s : State) : State :=
  let a := s.changeRoster (only s.mbr.number) s.mbr.number causeBusReset
  let b := (a.setMbr { a.mbr with rollTimer := 0 }).place .roll 0
  let c := forSlots (State.rebaseSlot reasonBusReset .synced) b
  forInputs (State.followInput false) c.busResetFlags.busResetHalt

/-- Every block at a recognised bus reset (R46, R64): the BUS_RESET record and BUS event, the request list, then the
effect of the membership at recognition. -/
def State.busResetEffects (s : State) : State :=
  let t :=
    (s.offer .busReset s.mbr.number (BitVec.ofNat 8 s.mbr.membership.code) s.mbr.roster 0#16).raise .bus
  match s.mbr.membership with
  | .offline => t
  | .joining => t.setRnd { t.rnd with requests := busResetRequests t.rnd.requests }
  | .online => (t.setRnd { t.rnd with requests := busResetRequests t.rnd.requests }).busResetOnline
  | .leaving => (t.setRnd { t.rnd with requests := busResetRequests t.rnd.requests }).leaveBus causeBusReset

end Sys2Proof.Machine
end

