-- ==== Sys2Proof/Machine/RoundEngine.lean ====
section
/-! DEFINITION. The round engine: sampled fields, identity, check, what the class owners drive and latch as each field begins, dissent, and abandoned rounds (ch. 2, and the drives of ch. 3, 5, 6, 7). -/

namespace Sys2Proof.Machine

/-! ### Sampled fields (2.1, 2.2) -/

/-- The current position (R22): the number of positions sampled. -/
def Round.position (r : Round) : Nat := r.samples.length

/-- A number in an arbitrated or value field: `width` positions from `base`, most significant bit first, a recessive
sample reading 1 (R23, R25). -/
def sampledNumber (l : List Level) (base width : Nat) : Nat :=
  ((l.drop base).take width).foldl (fun n x => 2 * n + (if x = .high then 1 else 0)) 0

/-- The set in a claim field: member n where position base+n was sampled dominant (R24). -/
def sampledSet (l : List Level) (base : Nat) : Set32 :=
  BitVec.ofNat 32 (((List.range 32).map fun n => if l[base + n]? = some .low then 2 ^ n else 0).sum)

/-- CLASS+SEL (R27). -/
def Round.identity (r : Round) : Nat := sampledNumber r.samples 0 8

/-- TAG. -/
def Round.tag (r : Round) : BitVec 4 := BitVec.ofNat 4 (sampledNumber r.samples 8 4)

/-- SETA as a claim field. -/
def Round.setA (r : Round) : Set32 := sampledSet r.samples 12

/-- SETB as a claim field. -/
def Round.setB (r : Round) : Set32 := sampledSet r.samples 44

/-- SETB as the flag word in a value field: bit n is 1 where position 44+n was sampled recessive (R119, 12.1). -/
def Round.wordB (r : Round) : Word := ~~~sampledSet r.samples 44

/-- VAL. -/
def Round.val (r : Round) : Half := BitVec.ofNat 16 (sampledNumber r.samples 76 16)

/-- CHK. -/
def Round.chk (r : Round) : Byte := BitVec.ofNat 8 (sampledNumber r.samples 92 8)

/-- The condition bit of TAG in JOIN and ROLL rounds reads HALTED: bit 3 low (R136). -/
def Round.tagHalted (r : Round) : Bool := r.tag.getLsbD 3 == false

/-- The class a 3-bit code names (2.3). -/
def classOf : Nat → Option Class
  | 0 => some .halt
  | 1 => some .resume
  | 2 => some .join
  | 3 => some .arrive
  | 4 => some .flags
  | 5 => some .roll
  | _ => none

/-- The class carries a selector other than 0 (R27). -/
def Class.hasSelector : Class → Bool
  | .join | .arrive => true
  | .halt | .resume | .flags | .roll => false

/-- The round an identity names, if it names one (R27). -/
def namedRound (identity : Nat) : Option (Class × Fin 32) :=
  match classOf (identity / 32) with
  | some c =>
    if c.hasSelector = false ∧ identity % 32 ≠ 0 then none else some (c, Fin.ofNat 32 identity)
  | none => none

/-- The class and selector of the round, once positions 0 to 7 have been sampled and they name a round (R27). -/
def Round.named (r : Round) : Option (Class × Fin 32) :=
  if 8 ≤ r.samples.length then namedRound r.identity else none

/-! ### Check (R36) -/

/-- One sampled position enters the check accumulator: generator x^8 + x^2 + x + 1, toward the most significant end. -/
def checkStep (acc : Byte) (l : Level) : Byte :=
  let shifted := acc <<< 1
  if acc.msb != (l == .high) then shifted ^^^ 0x07#8 else shifted

/-! ### Drives (2.2) -/

/-- Bit `width - 1 - i` of a number as a driver: 1 recessive, 0 dominant. -/
def driveBit (width n i : Nat) : Driver := if n.testBit (width - 1 - i) then .released else .low

/-- The drive of the `i`-th position of a field. -/
def FieldDrive.at : FieldDrive → Nat → Driver
  | .recessive, _ => .released
  | .contend width n, i => driveBit width n i
  | .value width n, i => driveBit width n i
  | .claim members, i => if members.getLsbD i then .low else .released
  | .flagWord w, i => if w.getLsbD i then .released else .low

/-- The field is one in which the station contends. -/
def FieldDrive.isContend : FieldDrive → Bool
  | .contend _ _ => true
  | _ => false

/-- The first position of the field that a position lies in (2.1). -/
def fieldBase (p : Nat) : Nat :=
  if p < 8 then 0
  else if p < 12 then 8
  else if p < 44 then 12
  else if p < 76 then 44
  else if p < 92 then 76
  else if p < 100 then 92
  else 100

/-- The drive of the current position: a station that has lost the field drives recessive (R23). -/
def Round.driveNow (r : Round) : Driver :=
  if r.lost then .released else r.field.at (r.position - fieldBase r.position)

/-- Slot `i` takes part in an ARRIVE round: an ONLINE or LEAVING station with the slot READY or WAITING (R90). -/
abbrev State.Participates (s : State) (i : SlotNo) : Prop :=
  s.IsMember ∧ ((s.slot i).state = .ready ∨ (s.slot i).state = .waiting)

/-- The condition as TAG carries it: bit 3 low for HALTED, positions 9 to 11 recessive (R136). -/
def Condition.tag : Condition → Nat
  | .running => 15
  | .halted => 7

/-- TAG as the class owner directs (R52, R57, R91, R136). -/
def State.driveTag (s : State) (c : Class) (n : Fin 32) : FieldDrive :=
  match c with
  | .arrive => if s.Participates n ∧ (s.slot n).sync = .synced then .contend 4 (s.slot n).epoch.toNat else .recessive
  | .join | .roll => if s.IsMember then .value 4 s.hlt.condition.tag else .recessive
  | .halt | .resume | .flags => .recessive

/-- What is latched at the beginning of SETA (R58, R77, R115, R128). -/
def State.latchSetA (s : State) (r : Round) (c : Class) (n : Fin 32) : State × Round :=
  match c with
  | .arrive =>
    if s.IsMember ∧ (s.slot n).state = .waiting then (s.setSlot n { s.slot n with committed := true }, r) else (s, r)
  | .flags =>
    if s.IsMember then (s, { r with latchS := s.flg.setReq, latchC := s.flg.clearReq }) else (s, r)
  | .halt => if s.IsMember then (s, { r with latchHalt := s.hlt.request }) else (s, r)
  | .roll => (s, { r with leavingAtSeta := s.mbr.membership == .leaving })
  | .resume | .join => (s, r)

/-- SETA as the class owner directs, after its latch (R52, R57, R92, R115, R128, R133). -/
def State.driveSetA (s : State) (r : Round) (c : Class) (n : Fin 32) : FieldDrive :=
  match c with
  | .halt => if r.latchHalt.isSome then .claim (only s.mbr.number) else .recessive
  | .resume => if s.IsMember ∧ s.Holds .resume 0 then .claim (only s.mbr.number) else .recessive
  | .join => if s.IsMember then .claim (only s.mbr.number) else .recessive
  | .arrive => if s.IsMember ∧ (s.slot n).committed = true then .claim (only s.mbr.number) else .recessive
  | .flags => .claim r.latchS
  | .roll => if s.mbr.membership = .online then .claim (only s.mbr.number) else .recessive

/-- What is latched at the beginning of SETB: the required set of an enabled participant (R93) and the objection
(R133). -/
def State.latchSetB (s : State) (r : Round) (c : Class) (n : Fin 32) : Round :=
  match c with
  | .arrive => if s.Participates n then { r with required := some (s.requiredNow n) } else r
  | .resume => { r with objection := s.IsMember && (s.hlt.commandHold || s.hlt.inputHold != 0#4) }
  | .halt | .join | .flags | .roll => r

/-- SETB as the class owner directs, after its latch (R93, R115, R119, R133). -/
def State.driveSetB (s : State) (r : Round) (c : Class) : FieldDrive :=
  match c with
  | .arrive =>
    match r.required with
    | some required => .claim (~~~required)
    | none => .recessive
  | .resume => if r.objection then .claim (only s.mbr.number) else .recessive
  | .flags => .claim r.latchC
  | .join | .roll => if s.IsMember then .flagWord s.flg.word else .recessive
  | .halt => .recessive

/-- VAL as the class owner directs (R52, R94, R128). -/
def State.driveVal (s : State) (r : Round) (c : Class) (n : Fin 32) : FieldDrive :=
  match c with
  | .halt =>
    match r.latchHalt with
    | some cause => .contend 16 cause.toNat
    | none => .recessive
  | .join =>
    match s.mbr.nonce with
    | some nonce => if s.mbr.membership = .joining ∧ s.mbr.number = n then .contend 16 nonce.toNat else .recessive
    | none => .recessive
  | .arrive => if s.IsMember ∧ (s.slot n).committed = true then .contend 16 (s.slot n).arrivalValue.toNat else .recessive
  | .resume | .flags | .roll => .recessive

/-- The station dissents (R39). -/
def Dissent.any (d : Dissent) : Bool := d.check || d.drive || d.cls || d.exclusion || d.skew

/-- The tag of a VOID record: the first reason that holds in the order CHECK, DRIVE, CLASS, EXCLUSION, SKEW, or REMOTE
(R42, 12.5). -/
def Dissent.tag (d : Dissent) : Byte :=
  if d.check then 1#8
  else if d.drive then 2#8
  else if d.cls then 3#8
  else if d.exclusion then 4#8
  else if d.skew then 5#8
  else 0#8

/-- A field begins with the given drive; its contention is open. -/
def Round.open (r : Round) (d : FieldDrive) : Round := { r with field := d, lost := false }

/-- CLASS+SEL begins: the head of the request list is latched and contended with (R32). -/
def State.beginHead (s : State) (r : Round) : Round :=
  match s.rnd.requests with
  | [] => { r with head := none }.open .recessive
  | e :: _ => { r with head := some e }.open (.contend 8 e.identity)

/-- What comes about when the current position is the first of a field (R22, R26): the owner of the class latches and
gives the field's drive; the round engine gives its own for CLASS+SEL, CHK and DIS. A round whose identity names none is
driven recessive from TAG to VAL (R27). -/
def State.beginField (s : State) (r : Round) : State × Round :=
  if r.position = 0 then (s, s.beginHead r)
  else if r.position = 92 then (s, r.open (.value 8 r.check.toNat))
  else if r.position = 100 then (s, r.open (if r.dissent.any then .claim (only 0) else .recessive))
  else
    match r.named with
    | none => if r.position = fieldBase r.position then (s, r.open .recessive) else (s, r)
    | some (c, n) =>
      if r.position = 8 then (s, r.open (s.driveTag c n))
      else if r.position = 12 then
        let x := s.latchSetA r c n
        (x.1, x.2.open (x.1.driveSetA x.2 c n))
      else if r.position = 44 then
        let q := s.latchSetB r c n
        (s, q.open (s.driveSetB q c))
      else if r.position = 76 then (s, r.open (s.driveVal r c n))
      else (s, r)

/-! ### Sampling a position (R11) -/

/-- The round after a sample: the sample and the own drive kept, the check updated for positions 0 to 91 (R36), a failed
drive check noted (R38), a lost contention noted (R23). -/
def Round.sample (r : Round) (own : Driver) (l : Level) : Round :=
  { r with
    samples := r.samples ++ [l]
    drives := r.drives ++ [own]
    check := if r.position < 92 then checkStep r.check l else r.check
    lost := r.lost || (r.field.isContend && own == .released && l == .low)
    dissent := { r.dissent with drive := r.dissent.drive || (own == .low && l == .high) } }

/-- The dissent conditions that become known when the position just sampled was the last of its field (R39): CLASS after
7, SKEW after 11 (R95), EXCLUSION after 75 (R96), CHECK after 99 (R37). `r` is the round after the sample. -/
def Round.judge (r : Round) : Round :=
  if r.position = 8 then { r with dissent := { r.dissent with cls := (namedRound r.identity).isNone } }
  else if r.position = 12 then
    match r.named with
    | some (.arrive, _) => { r with dissent := { r.dissent with skew := r.field.isContend && r.lost } }
    | _ => r
  else if r.position = 76 then
    match r.required with
    | some required => { r with dissent := { r.dissent with exclusion := (r.setB &&& required) != 0#32 } }
    | none => r
  else if r.position = 100 then { r with dissent := { r.dissent with check := r.chk != r.check } }
  else r

/-! ### Abandoned rounds (R44) -/

/-- The owner resolves what it latched for a round, abandoned or void, whose identity was known: the slot table its
commitment (R42, R78, R106). The flag unit's and the halt unit's latches go with the round. -/
def State.resolveLatches (s : State) (r : Round) : State :=
  match r.named with
  | some (.arrive, n) => s.resolveUncompleted n
  | _ => s

/-- The FRAMING record and its BUS event (R44, R160). -/
def State.framingRecord (s : State) (r : Round) : State :=
  let position := BitVec.ofNat 16 r.position
  match r.named with
  | some (c, n) => (s.offer .framing n (BitVec.ofNat 8 c.code) 0#32 position).raise .bus
  | none => (s.offer .framing 0 0xFF#8 0#32 position).raise .bus

/-- Abandon the round in progress, if there is one (R44); a FRAMING record for a framing violation only. The record
follows the hand-over to the owner (log 15). -/
def State.abandon (s : State) (framing : Bool) : State :=
  match s.rnd.round with
  | none => s
  | some r =>
    let t := (s.setRnd { s.rnd with round := none }).resolveLatches r
    if framing then t.framingRecord r else t

end Sys2Proof.Machine
end

