-- ==== Sys2Proof/Machine/Lines.lean ====
section
/-! DEFINITION. The events of the line interface: START, positions, closing, framing, idle, stuck lines and the bus-reset detector (ch. 1). -/

namespace Sys2Proof.Machine

/-! ### Levels seen -/

/-- The bus-reset detector works (R18). -/
abbrev Lif.Detects (x : Lif) : Prop := x.link ≠ .detached ∨ x.ownPulse = true

/-- STB is seen at `l`: a new low starts its stuck timer with the filter's 2 ticks, and the both-low count when DAT is low
too; a new high ends its low interval and the both-low count (R2, R15, R18, R19). -/
def Lif.seeStb (x : Lif) (l : Level) : Lif :=
  match x.stb, l with
  | .low, .high => { x with stb := .high, stbLast := x.stbStuck, stbStuck := 0, stbExempt := false, bothLow := 0 }
  | .high, .low =>
    { x with stb := .low, stbStuck := Config.filterTicks
             bothLow := if x.dat = .low ∧ x.Detects then Config.filterTicks else 0 }
  | _, _ => x

/-- DAT is seen at `l`, as `seeStb` for STB. -/
def Lif.seeDat (x : Lif) (l : Level) : Lif :=
  match x.dat, l with
  | .low, .high => { x with dat := .high, datLast := x.datStuck, datStuck := 0, datExempt := false, bothLow := 0 }
  | .high, .low =>
    { x with dat := .low, datStuck := Config.filterTicks
             bothLow := if x.stb = .low ∧ x.Detects then Config.filterTicks else 0 }
  | _, _ => x

/-- tSTUCK in ticks (R3). -/
def State.stuckTicks (s : State) : Nat := s.cfg.tStuck.ticks

/-- STB stands at tSTUCK or above (R15). -/
abbrev State.StbStuck (s : State) : Prop := s.lif.stb = .low ∧ s.stuckTicks ≤ s.lif.stbStuck

/-- DAT stands at tSTUCK or above (R15). -/
abbrev State.DatStuck (s : State) : Prop := s.lif.dat = .low ∧ s.stuckTicks ≤ s.lif.datStuck

/-! ### Round start (1.5) -/

/-- START_ISSUED (R8, R34): while the round engine asks and the bus is idle, the station pulls DAT low. -/
def execStartIssued (s : State) : Host.Outcome State Fault Refusal :=
  if s.Running ∧ s.OnBus ∧ s.lif.link = .idle ∧ s.rnd.requests ≠ [] ∧ s.cfg.tIdle.toNat ≤ s.lif.idleTimer
      ∧ s.lif.datDrive = .released then
    done (s.setLif { s.lif with datDrive := .low })
  else .next s

/-- ROUND_START (R9): ROUND at position 0, tHIGH counted from the DAT fall. -/
def execRoundStart (s : State) : Host.Outcome State Fault Refusal :=
  if s.Running ∧ s.OnBus ∧ s.lif.link = .idle then
    let x := (s.lif.seeStb .high).seeDat .low
    done ((s.setLif { x with link := .round, begun := false, idleTimer := 0, tLow := none, tHigh := some Config.filterTicks }).setRnd
      { s.rnd with round := some .fresh })
  else .next s

/-- UNFRAMED_ACTIVITY (R7): SEEKING, nothing driven, the idle timer restarted; no round is started or abandoned. -/
def execUnframedActivity (s : State) : Host.Outcome State Fault Refusal :=
  if s.Running ∧ s.lif.link = .idle then done (s.setLif (s.lif.seeStb .low).seek) else .next s

/-! ### The bit handshake (1.6) -/

/-- The low phase of a position, or of closing, begins as STB is seen low: STB is pulled if it is not already, and tLOW counts
from the station's own pull where it came first, else from the fall at the pin (R2, R10, log 24). -/
def Lif.beginLow (x : Lif) (dat : Driver) : Lif :=
  let y := x.seeStb .low
  { y with stbDrive := .low, datDrive := dat, begun := true, tHigh := none, tLow := some (x.tLow.getD Config.filterTicks) }

/-- A position begins: the field's latches and drive where it is the first of a field, then STB is pulled and DAT driven
(R10, R22, R26, R32). -/
def State.beginPosition (s : State) (r : Round) : State :=
  let b := s.beginField r
  let t := b.1.setRnd { b.1.rnd with round := some b.2 }
  t.setLif (t.lif.beginLow b.2.driveNow)

/-- POSITION_BEGINS (R10, R11, R13): STB is seen low for the next position. In ROUND the position begins; in CLOSING the low
phase of closing, in which DAT is released. The station's own pull at the end of tHIGH comes before it, in the tick
(log 24). -/
def execPositionBegins (s : State) : Host.Outcome State Fault Refusal :=
  if s.Running ∧ s.OnBus ∧ s.lif.begun = false then
    match s.lif.link, s.rnd.round with
    | .round, some r => done (s.beginPosition r)
    | .closing, _ => done (s.setLif (s.lif.beginLow .released))
    | _, _ => .next s
  else .next s

/-- A position has begun and the station has released STB, so that STB can rise (R1, R10). -/
abbrev State.LowPhase (s : State) : Prop := s.Running ∧ s.lif.begun = true ∧ s.lif.stbDrive = .released

/-- POSITION_SAMPLED (R11): DAT is sampled, the position advances, tHIGH is counted from the rise. -/
def execPositionSampled (dat : Level) (s : State) : Host.Outcome State Fault Refusal :=
  match s.rnd.round with
  | some r =>
    if s.LowPhase ∧ s.lif.link = .round ∧ r.position < 100 then
      let x := (s.lif.seeStb .high).seeDat dat
      done ((s.setRnd { s.rnd with round := some (r.sample s.lif.datDrive dat).judge }).setLif
        { x with begun := false, tLow := none, tHigh := some Config.filterTicks })
    else .next s
  | none => .next s

/-- TLOW_EXPIRED (R10, R13, R182): the station releases STB, the wake stretch with it. -/
def execTlowExpired (s : State) : Host.Outcome State Fault Refusal :=
  if s.Running ∧ s.lif.begun = true ∧ s.lif.stbDrive = .low ∧ (s.lif.link = .round ∨ s.lif.link = .closing) then
    done (s.setLif { s.lif with stbDrive := .released, stretch := false, tLow := none })
  else .next s

/-! ### Closing (1.7) -/

/-- CLOSING_END (R13): IDLE with the idle timer started from the rise if DAT is high, SEEKING otherwise. -/
def execClosingEnd (dat : Level) (s : State) : Host.Outcome State Fault Refusal :=
  if s.LowPhase ∧ s.lif.link = .closing then
    let x := (s.lif.seeStb .high).seeDat dat
    match dat with
    | .high => done (s.setLif { x.quiet with link := .idle, idleTimer := Config.filterTicks })
    | .low => done (s.setLif x.seek)
  else .next s

/-- DAT_FALL_IN_CLOSING (R13): in the closing high phase it ends CLOSING; the round keeps its outcome. -/
def execDatFallInClosing (s : State) : Host.Outcome State Fault Refusal :=
  if s.Running ∧ s.lif.link = .closing ∧ s.lif.begun = false then done (s.setLif (s.lif.seeDat .low).seek) else .next s

/-! ### Framing violations and idle (1.4, 1.8) -/

/-- SEEKING from a DAT transition: the idle timer starts with the filter's 2 ticks where the transition has left both lines
high, and at zero while a line is low (R2, R6). -/
def Lif.seekFromEdge (x : Lif) : Lif :=
  { x.seek with idleTimer := if x.stb = .high ∧ x.dat = .high then Config.filterTicks else 0 }

/-- FRAMING_VIOLATION (R14): drivers released, the round abandoned with a FRAMING record, SEEKING. -/
def execFramingViolation (s : State) : Host.Outcome State Fault Refusal :=
  if s.Running ∧ s.lif.link = .round then done ((s.setLif s.lif.seekFromEdge).abandon true) else .next s

/-- BUS_IDLE (R6, R16): SEEKING becomes IDLE, IDLE may issue START, FAULT becomes DETACHED. -/
def execBusIdle (s : State) : Host.Outcome State Fault Refusal :=
  if s.Running ∧ s.lif.stbDrive = .released ∧ s.lif.datDrive = .released then
    let x := (s.lif.seeStb .high).seeDat .high
    let idle := max s.lif.idleTimer s.cfg.tIdle.toNat
    match s.lif.link with
    | .seeking | .idle => done (s.setLif { x with link := .idle, idleTimer := idle })
    | .fault => done (s.setLif { x with link := .detached, idleTimer := 0 })
    | _ => .next s
  else .next s

/-! ### Stuck lines (1.9) -/

/-- The link states in which a line can be found stuck (R15). -/
def Link.findsStuck : Link → Bool
  | .seeking | .idle | .round | .closing | .resetting => true
  | .detached | .fault => false

/-- Lines found stuck (R15, R18, R63): drivers released, any pulse ended, the detector disarmed, FAULT, the round
abandoned without a FRAMING record, and the report to the membership controller. -/
def State.stuckNow (s : State) (stb dat : Bool) : State :=
  let x := { s.lif.endPulse with link := .fault, idleTimer := 0, armed := false, ownPulse := false }
  ((s.setLif x).abandon false).busFault stb dat

/-- The line is one of those named. -/
def namesLine : StuckLine → Line → Bool
  | .both, _ => true
  | .stb, .stb => true
  | .dat, .dat => true
  | _, _ => false

/-- The state in which the named lines have been low for tSTUCK. -/
def State.lowFor (s : State) (line : StuckLine) : State :=
  let a := if namesLine line .stb then { s.lif.seeStb .low with stbStuck := max (s.lif.seeStb .low).stbStuck s.stuckTicks } else s.lif
  let b := if namesLine line .dat then { a.seeDat .low with datStuck := max (a.seeDat .low).datStuck s.stuckTicks } else a
  s.setLif b

/-- LINE_STUCK (R15): the report names every line that stands at tSTUCK by then; a line exempt from the test during a pulse
is not found stuck. -/
def execLineStuck (line : StuckLine) (s : State) : Host.Outcome State Fault Refusal :=
  let t := s.lowFor line
  let stb := decide t.StbStuck && !t.lif.stbExempt
  let dat := decide t.DatStuck && !t.lif.datExempt
  if s.Running ∧ s.lif.link.findsStuck = true ∧ (stb || dat) = true then done (t.stuckNow stb dat) else .next s

/-! ### Bus reset (1.10) -/

/-- BUS_RESET_PULSE_END (R17): both drivers released, the exemption from the stuck test over (R15); SEEKING at a station on the bus, DETACHED at an OFFLINE one, where
the detector goes on working for this pulse (R18). -/
def execBusResetPulseEnd (s : State) : Host.Outcome State Fault Refusal :=
  if s.Running ∧ s.lif.link = .resetting then
    let x := ((s.lif.seeDat .low).seeStb .low).endPulse
    done (s.setLif { x with link := if s.OnBus then .seeking else .detached, idleTimer := 0, ownPulse := true })
  else .next s

/-- The state in which both lines have been low for 4 ms. -/
def Lif.lowForArming (x : Lif) : Lif :=
  let y := (x.seeDat .low).seeStb .low
  { y with bothLow := max y.bothLow Config.armTicks, stbStuck := max y.stbStuck Config.armTicks,
           datStuck := max y.datStuck Config.armTicks }

/-- BUS_RESET_ARMED (R18): the detector is armed; in SEEKING, IDLE, ROUND and CLOSING the drivers are released, any round
abandoned without a FRAMING record, and the link SEEKING. -/
def execBusResetArmed (s : State) : Host.Outcome State Fault Refusal :=
  if s.Running ∧ s.lif.Detects ∧ s.lif.armed = false then
    let x := { s.lif.lowForArming with armed := true }
    match s.lif.link with
    | .seeking | .idle | .round | .closing => done ((s.setLif x.seek).abandon false)
    | .detached | .resetting | .fault => done (s.setLif x)
  else .next s

/-- The low interval of STB as it stands, or the last one (R19). -/
def Lif.stbInterval (x : Lif) : Nat :=
  match x.stb with
  | .low => x.stbStuck
  | .high => x.stbLast

/-- The low interval of DAT as it stands, or the last one (R19). -/
def Lif.datInterval (x : Lif) : Nat :=
  match x.dat with
  | .low => x.datStuck
  | .high => x.datLast

/-- The idle timer counts in this link state (R6). -/
def Link.countsIdle : Link → Bool
  | .seeking | .idle | .fault => true
  | .detached | .round | .closing | .resetting => false

/-- The line interface at a recognised bus reset: both lines high, the detector disarmed, the link state kept (R18,
R19). -/
def Lif.recognise (x : Lif) : Lif :=
  let y := (x.seeStb .high).seeDat .high
  { y with armed := false, ownPulse := false, bothLow := 0,
           idleTimer := if x.link.countsIdle then Config.filterTicks else x.idleTimer }

/-- BUS_RESET_RECOGNISED (R19): the armed detector sees both lines high after low intervals shorter than tSTUCK; every
block applies its effects. -/
def execBusResetRecognised (s : State) : Host.Outcome State Fault Refusal :=
  if s.Running ∧ s.lif.armed = true ∧ s.lif.stbDrive = .released ∧ s.lif.datDrive = .released
      ∧ s.lif.stbInterval < s.stuckTicks ∧ s.lif.datInterval < s.stuckTicks then
    done (s.setLif s.lif.recognise).busResetEffects
  else .next s

/-- The line interface when the detector disarms because `line` went high and low again (R18): its low interval and the
both-low count start afresh. -/
def Lif.disarmDetector (x : Lif) (line : Line) : Lif :=
  let y :=
    match line with
    | .stb => { x.seeStb .low with stbStuck := Config.filterTicks, stbExempt := false }
    | .dat => { x.seeDat .low with datStuck := Config.filterTicks, datExempt := false }
  { y with armed := false, ownPulse := false
           bothLow := if y.link ≠ .detached ∧ y.stb = .low ∧ y.dat = .low then Config.filterTicks else 0 }

/-- BUS_RESET_DETECTOR_DISARMED (R18). -/
def execBusResetDetectorDisarmed (line : Line) (s : State) : Host.Outcome State Fault Refusal :=
  if s.Running ∧ s.lif.armed = true then done (s.setLif (s.lif.disarmDetector line)) else .next s

end Sys2Proof.Machine
end

