-- ==== Sys2Proof/Machine/RoundEnds.lean ====
section
/-! DEFINITION. The round ends: the six accepted classes and the void round (2.7, 2.8, and the effects of ch. 3, 5, 6, 7). -/

namespace Sys2Proof.Machine

/-- The round whose DIS is being sampled: STB rises in position 100 (R45). -/
def State.endingRound (s : State) : Option Round :=
  match s.rnd.round with
  | some r => if s.LowPhase ∧ s.lif.link = .round ∧ r.position = 100 then some r else none
  | none => none

/-- The round end: the per-round state is discarded (R22), the link is CLOSING and tHIGH is counted from the rise
(R13). -/
def State.endRound (s : State) (dis : Level) : State :=
  let x := (s.lif.seeStb .high).seeDat dis
  (s.setRnd { s.rnd with round := none }).setLif
    { x with link := .closing, begun := false, tLow := none, tHigh := some Config.filterTicks }

/-- The round and its selector, when it is of class `c` and the station has not dissented (R39, R40). -/
def State.acceptedRound (s : State) (c : Class) : Option (Round × Fin 32) :=
  match s.endingRound with
  | none => none
  | some r =>
    match r.named with
    | some (c', n) => if c' = c ∧ r.dissent.any = false then some (r, n) else none
    | none => none

/-- Apply the effects of an accepted round of class `c` at its round end, DIS having been sampled recessive. -/
def State.accept (s : State) (c : Class) (effects : Round → Fin 32 → State → State) : Host.Outcome State Fault Refusal :=
  match s.acceptedRound c with
  | some (r, n) => done (effects r n (s.endRound .high))
  | none => .next s

/-! ### HALT and RESUME -/

/-- The station becomes HALTED with a HALT record and event, and every arrival is aborted (R129, R137). -/
def State.haltNow (s : State) (cause : Byte) (set : Set32) (value : Half) : State :=
  let t := (s.setHlt { s.hlt with condition := .halted }).dropHaltRequest
  ((t.offer .halt s.mbr.number cause set value).raise .halt).haltAbort

/-- The effects of an accepted HALT round (R129). -/
def haltEffects (r : Round) (_ : Fin 32) (s : State) : State :=
  if s.IsMember ∧ r.setA ≠ 0#32 then s.haltNow causeRound r.setA r.val else s.zeroVoids .halt 0

/-- HALT_ROUND (R129). -/
def execHaltRound (s : State) : Host.Outcome State Fault Refusal := s.accept .halt haltEffects

/-- The effects of an accepted RESUME round (R134). -/
def resumeEffects (r : Round) (_ : Fin 32) (s : State) : State :=
  if s.IsMember ∧ r.setA ≠ 0#32 then
    let t := (s.setHlt { s.hlt with resumePending := false }).remove .resume 0
    if r.setB = 0#32 then t.resumeNow r.setA
    else (t.offer .resumeRefused s.mbr.number 0#8 r.setB (BitVec.ofNat 16 (card r.setA))).raise .resume
  else s.zeroVoids .resume 0

/-- RESUME_ROUND (R134). -/
def execResumeRound (s : State) : Host.Outcome State Fault Refusal := s.accept .resume resumeEffects

/-! ### JOIN -/

/-- The flag word a joiner adopts (R120). -/
def Round.joinWord (r : Round) : Word := if r.setA = 0#32 then 0#32 else r.wordB

/-- The condition a joiner adopts, with its HALT record (R136). -/
def State.adoptCondition (s : State) (r : Round) : State :=
  if r.setA ≠ 0#32 ∧ r.tagHalted = true then
    ((s.setHlt { s.hlt with condition := .halted }).offer .halt s.mbr.number causeJoin 0#32 0#16).raise .halt
  else s

/-- One slot at an admission (R53, R88): enabled slots READY and UNSYNCED with epoch 0. -/
def State.admitSlot (i : SlotNo) (s : State) : State :=
  if (s.slot i).cfg.enabled then s.setSlot i { s.slot i with state := .ready, sync := .unsynced, epoch := 0#4 } else s

/-- Admission (R53, R120, R136, R147): ONLINE with its roster, the JOINED record, the flag word, the condition, the slots,
then the requests of FLAG_FOLLOW inputs. -/
def State.admitJoiner (s : State) (r : Round) : State :=
  let roster := r.setA ||| only s.mbr.number
  let a := s.enter .online
  let b := (a.setMbr { a.mbr with roster := roster, rollTimer := 0, nonce := none }).remove .join s.mbr.number
  let c := b.offer .joined s.mbr.number 0#8 roster s.mbr.nonceValue
  let d := (c.changeWord r.joinWord causeJoin).adoptCondition r
  forInputs (State.followInput true) (forSlots State.admitSlot d)

/-- A joiner's own JOIN round (R53): refused if its number is in SETA or a lower nonce won VAL, else admitted. -/
def State.ownJoin (s : State) (r : Round) : State :=
  if r.setA.getLsbD s.mbr.number = true ∨ r.val ≠ s.mbr.nonceValue then s.refuseJoin reasonDuplicate r.setA
  else s.admitJoiner r

/-- A member at a JOIN round of station `n` (R54). -/
def State.memberJoin (s : State) (r : Round) (n : Fin 32) : State :=
  let t := if r.setA.getLsbD n then s else s.changeRoster (r.setA ||| only n) n causeJoin
  t.setMbr { t.mbr with rollTimer := 0 }

/-- The effects of an accepted JOIN round (R53, R54): a JOINING station of another number takes nothing. -/
def joinEffects (r : Round) (n : Fin 32) (s : State) : State :=
  match s.mbr.membership with
  | .joining => if s.mbr.number = n then s.ownJoin r else s
  | .online | .leaving => s.memberJoin r n
  | .offline => s

/-- JOIN_ROUND (R53, R54). -/
def execJoinRound (s : State) : Host.Outcome State Fault Refusal := s.accept .join joinEffects

/-! ### ARRIVE -/

/-- Epoch adoption (R98): an UNSYNCED slot takes the sampled TAG and is SYNCED. -/
def Slot.adopt (x : Slot) (tag : BitVec 4) : Slot :=
  match x.sync with
  | .unsynced => { x with epoch := tag, sync := .synced }
  | .synced => x

/-- A slot at its completion (R99, R100, R101): the result record, the epoch, the last-seen set, and a committed arrival
released. An arrival taken after SETA began is kept. -/
def Slot.complete (x : Slot) (r : Round) (time : Word) : Slot :=
  let y :=
    { x with result := some { epoch := x.epoch, arrived := r.setA, agreed := r.val, time := time }
             epoch := x.epoch + 1, lastSeen := 0#32 }
  if x.committed then { y.dropArrival with state := .ready } else y

/-- A slot at a round that does not complete it (R102). -/
def Slot.advance (x : Slot) (r : Round) (number : StationNo) : Slot :=
  { x with lastSeen := r.setA
           published := x.published || (r.setA.getLsbD number && x.state == .waiting) }

/-- Resolution of a commitment after a completion (R78): a withdrawal is too late, a timeout discarded. `x` is the slot
before the completion. -/
def State.resolveCompleted (s : State) (i : SlotNo) (x : Slot) (r : Round) : State :=
  if x.committed = true ∧ x.withdrawPending = true then
    s.offerSlot i .tooLate (epochTag x.epoch) r.setA x.arrivalValue
  else s

/-- The level re-attempt (R144): a completion removed an arrival whose source is a level-armed input that is still active
and armed. -/
def State.reattempt (s : State) (x : Slot) : State :=
  match x.committed, x.arrival with
  | true, some { source := .input k, .. } =>
    if s.LevelArmed k ∧ s.InputActive k ∧ (s.input k).armed = true then s.levelAttempt k else s
  | _, _ => s

/-- A completion of slot `i` at a station, `x` being the slot after any adoption (R99, R103, R78, R144). -/
def State.completeSlot (s : State) (i : SlotNo) (x : Slot) (r : Round) : State :=
  let y := x.complete r s.tsc.time
  let a := (s.setSlot i y).outputsOnCompletion i
  let b := a.offerSlot i .complete (epochTag x.epoch) r.setA r.val
  let c := if y.state = .waiting then b.zeroVoids .arrive i else b.remove .arrive i
  (c.resolveCompleted i x r).reattempt x

/-- The PROGRESS record, without an event (R68, R111). -/
def State.offerProgress (s : State) (i : SlotNo) (r : Round) : State :=
  if (s.slot i).cfg.logProgress then s.offer .progress i (epochTag (s.slot i).epoch) r.setA r.val else s

/-- A round on slot `i` that does not complete it, `x` being the slot after any adoption (R102, R103, R78). -/
def State.progressSlot (s : State) (i : SlotNo) (x : Slot) (r : Round) : State :=
  let y := x.advance r s.mbr.number
  let a := (s.setSlot i (if y.published then { y with probe := false } else y)).offerProgress i r
  let b := if y.published then a.remove .arrive i else a.zeroVoids .arrive i
  b.resolveUncompleted i

/-- The completion test (R99). -/
abbrev Completes (required setA : Set32) : Prop := required ≠ 0#32 ∧ Covers setA required

/-- The effects of an accepted ARRIVE round on slot `n` (R97): only a station whose slot was an enabled participant when
SETB began evaluates it; any other keeps its entry. -/
def arriveEffects (r : Round) (n : Fin 32) (s : State) : State :=
  match r.required with
  | some required =>
    let x := (s.slot n).adopt r.tag
    if Completes required r.setA then s.completeSlot n x r else s.progressSlot n x r
  | none => s.zeroVoids .arrive n

/-- ARRIVE_ROUND (R97). -/
def execArriveRound (s : State) : Host.Outcome State Fault Refusal := s.accept .arrive arriveEffects

/-! ### FLAGS -/

/-- The effects of an accepted FLAGS round (R116). -/
def flagsEffects (r : Round) (_ : Fin 32) (s : State) : State :=
  if s.IsMember then s.applyFlags r.setA r.setB r.latchS r.latchC else s

/-- FLAGS_ROUND (R116). -/
def execFlagsRound (s : State) : Host.Outcome State Fault Refusal := s.accept .flags flagsEffects

/-! ### ROLL -/

/-- The condition repair (R137): a RUNNING station becomes HALTED if bit 3 of TAG is low. -/
def State.repairCondition (s : State) (r : Round) : State :=
  if s.hlt.condition = .running ∧ r.tagHalted = true then s.haltNow causeRoll 0#32 0#16 else s

/-- The check of one slot for a roster-triggered completion (R108): an ARRIVE entry is placed, a probe where none was
held. -/
def State.probeSlot (i : SlotNo) (s : State) : State :=
  let x := s.slot i
  if x.cfg.enabled = true ∧ x.cfg.participation = .roster ∧ x.state = .waiting ∧ s.mbr.roster ≠ 0#32
      ∧ Covers x.lastSeen s.mbr.roster then
    if s.Holds .arrive i then s else (s.setSlot i { x with probe := true }).place .arrive i
  else s

/-- A station that takes an accepted ROLL round as an ONLINE station does: the roster, the flag word, the condition, then
the probes if the roster changed (R58, R120, R137, R108). -/
def State.takeRoll (s : State) (r : Round) : State :=
  let a := s.changeRoster r.setA s.mbr.number causeRoll
  let b := (a.changeWord r.wordB causeRoll).repairCondition r
  if r.setA = s.mbr.roster then b else forSlots State.probeSlot b

/-- The effects of an accepted ROLL round (R58). A station LEAVING when SETA began goes OFFLINE; one that took LEAVE after
it applies the round, and its ROLL entry stays with void count 0. -/
def rollEffects (r : Round) (_ : Fin 32) (s : State) : State :=
  match s.mbr.membership with
  | .online => ((s.setMbr { s.mbr with rollTimer := 0 }).remove .roll 0).takeRoll r
  | .leaving =>
    if r.leavingAtSeta then s.leaveBus causeRoll
    else ((s.setMbr { s.mbr with rollTimer := 0 }).zeroVoids .roll 0).takeRoll r
  | .joining | .offline => s

/-- ROLL_ROUND (R58). -/
def execRollRound (s : State) : Host.Outcome State Fault Refusal := s.accept .roll rollEffects

/-! ### Void rounds -/

/-- The VOID record and its BUS event (R42, log 17): the selector, the station's own dissent reason or REMOTE, SETA, the
class code. -/
def State.voidRecord (s : State) (r : Round) : State :=
  (s.offer .void (Fin.ofNat 32 r.identity) r.dissent.tag r.setA (BitVec.ofNat 16 (r.identity / 32))).raise .bus

/-- A DROPPED record and its BUS event (R43, R160). -/
def State.droppedRecord (s : State) (c : Class) (n : Fin 32) (limit : Nat) : State :=
  ((s.remove c n).offer .dropped n (BitVec.ofNat 8 c.code) 0#32 (BitVec.ofNat 16 limit)).raise .bus

/-- A slot enters FAULT (R105). -/
def State.faultSlot (s : State) (i : SlotNo) : State :=
  let x := s.slot i
  let t := ((s.setSlot i { x.dropArrival with state := .fault }).remove .arrive i).disarmSource x.arrival
  t.offerSlot i .fault (epochTag x.epoch) x.lastSeen x.arrivalValue

/-- An entry is dropped past its retry limit and its owner acts (R43, R55, R59, R105, R117, R131, R135). -/
def State.dropEntry (s : State) (c : Class) (n : Fin 32) (limit : Nat) : State :=
  match c with
  | .arrive => s.faultSlot n
  | .join => s.refuseJoin reasonRetries 0#32
  | .halt =>
    let t := s.droppedRecord .halt n limit
    t.setHlt { t.hlt with request := none, commandHold := false, heldCause := none }
  | .resume =>
    let t := s.droppedRecord .resume n limit
    t.setHlt { t.hlt with resumePending := false }
  | .flags =>
    let t := s.droppedRecord .flags n limit
    t.setFlg { t.flg with setReq := 0#32, clearReq := 0#32 }
  | .roll =>
    let t := s.droppedRecord .roll n limit
    if s.mbr.membership = .leaving then t.leaveBus causeDropped else t

/-- The retry limit of an entry: the slot's for ARRIVE, the station's for the rest (R41). -/
def State.retryLimit (s : State) (c : Class) (n : Fin 32) : Nat :=
  match c with
  | .arrive => (s.slot n).cfg.retry
  | _ => s.cfg.retry

/-- A void is counted on the entry of the round's identity, if one is held (R41). -/
def State.countVoid (s : State) (c : Class) (n : Fin 32) : State :=
  match findEntry s.rnd.requests c n with
  | none => s
  | some e =>
    if s.retryLimit c n < e.voids + 1 then s.dropEntry c n (s.retryLimit c n)
    else s.setRnd { s.rnd with requests := setVoids s.rnd.requests c n (e.voids + 1) }

/-- The effects of a void round (R41, R42, R43, R104): the VOID record, the void counted, the owner's latches resolved. -/
def voidEffects (r : Round) (s : State) : State :=
  let t := s.voidRecord r
  match r.named with
  | none => t
  | some (c, n) => (t.countVoid c n).resolveLatches r

/-- VOID_ROUND (R39, R41): DIS was sampled dominant, or the station itself dissented. -/
def execVoidRound (dis : Level) (s : State) : Host.Outcome State Fault Refusal :=
  match s.endingRound with
  | none => .next s
  | some r => if dis = .low ∨ r.dissent.any = true then done (voidEffects r (s.endRound dis)) else .next s

end Sys2Proof.Machine
end

