-- ==== Sys2Proof/Machine/Timers.lean ====
section
/-! DEFINITION. Timer expiries and the pins: the roll timer, slot timeouts, event inputs, pulses (ch. 3, 4, 8). -/

namespace Sys2Proof.Machine

/-- ROLL_TIMER_EXPIRY (R56): a ROLL entry is placed and the timer starts again from zero. -/
def execRollTimerExpiry (s : State) : Host.Outcome State Fault Refusal :=
  if s.Running ∧ s.IsMember ∧ s.cfg.rollPeriod ≠ 0#8 then
    done ((s.setMbr { s.mbr with rollTimer := 0 }).place .roll 0)
  else .next s

/-- The timeout of a slot's configuration in microseconds. -/
def Slot.timeoutMicros (x : Slot) : Nat := 1000 * x.cfg.timeout.toNat

/-- TIMEOUT (R81, R82): the timer of a WAITING slot reaches its timeout. An uncommitted arrival is withdrawn with TIMEOUT
at once; a committed one becomes timeout pending. -/
def execTimeout (i : SlotNo) (s : State) : Host.Outcome State Fault Refusal :=
  let x := s.slot i
  if s.Running ∧ x.state = .waiting ∧ x.cfg.timeout ≠ 0#16 then
    if x.committed then
      done (s.setSlot i { x with timeoutPending := true, timer := max x.timer x.timeoutMicros })
    else done (s.timeoutNow i)
  else .next s

/-! ### Event inputs -/

/-- The wake by an input in SLEEP is in Machine/Power.lean; here the pin moves and, while the filters run, the debounce
timer stops at the filtered level and restarts at any other change (R141). -/
def State.movePin (s : State) (i : Fin 4) (l : Level) : State :=
  let x := s.input i
  if x.pin = l then s
  else if s.Running then
    s.setInput i { x with pin := l, timer := if l = x.filtered then none else some 0 }
  else s.setInput i { x with pin := l }

/-- What an input bound to ARRIVE does at an accepted change to `l`: an edge attempts in an edge mode (R143); in a level
mode a transition into the active level attempts if the input is armed, and a refusal disarms it (R144). -/
def State.inputArrive (s : State) (i : Fin 4) (l : Level) : State :=
  let c := s.inputCfg i
  if c.detection.isLevel then
    if l = c.detection.active ∧ (s.input i).armed = true then s.levelAttempt i else s
  else if c.detection.isEdge l then (s.attempt (low5 c.target) c.value (.input i)).1
  else s

/-- An input bound to FLAG_SET or FLAG_CLEAR asks at each accepted edge, or at each transition into the active level in a
level mode (R146). -/
def InputConfig.asks (c : InputConfig) (l : Level) : Bool :=
  if c.detection.isLevel then l == c.detection.active else c.detection.isEdge l

/-- The binding acts on an accepted change to `l` (8.3 to 8.5). -/
def State.actOnBinding (s : State) (i : Fin 4) (l : Level) : State :=
  let c := s.inputCfg i
  match c.binding with
  | .off => s
  | .arrive => s.inputArrive i l
  | .flagSet => if c.asks l then s.requestSet (only (low5 c.target)) else s
  | .flagClear => if c.asks l then s.requestClear (only (low5 c.target)) else s
  | .flagFollow =>
    if l = c.detection.active then s.requestSet (only (low5 c.target)) else s.requestClear (only (low5 c.target))
  | .halt =>
    if c.detection.isLevel then
      if l = c.detection.active then s.inputHalt i else s.inputUnhalt i
    else if c.detection.isEdge l then s.haltSource (inputCause i)
    else s

/-- The pin's level becomes the filtered level; a transition into the inactive level rearms (R141, R144). -/
def State.acceptLevel (s : State) (i : Fin 4) : State :=
  let x := s.input i
  s.setInput i
    { x with filtered := x.pin, timer := none
             armed := x.armed || x.pin != (s.inputCfg i).detection.active }

/-- INPUT_ACCEPTED (R141, R142): a pin level that differs from the filtered level has stood for the acceptance time. -/
def execInputAccepted (i : Fin 4) (s : State) : Host.Outcome State Fault Refusal :=
  if s.Running ∧ (s.input i).pin ≠ (s.input i).filtered then
    done ((s.acceptLevel i).actOnBinding i (s.input i).pin)
  else .next s

/-- PULSE_END (R151): the pulse timer reaches the width and the output goes inactive. -/
def execPulseEnd (o : Fin 4) (s : State) : Host.Outcome State Fault Refusal :=
  if s.Running ∧ (s.output o).pulse.isSome = true then done (s.setOutput o { active := false, pulse := none }) else .next s

end Sys2Proof.Machine
end

