-- ==== Sys2Proof/Machine/Power.lean ====
section
/-! DEFINITION. Sleep, wake, the wake sources and the station reset (ch. 11), and INPUT_CHANGE, which can wake. -/

namespace Sys2Proof.Machine

/-! ### Sleep entry (11.3) -/

/-- Sleep entry (R180): the power state is SLEEP, everything timed stops with its count, the wake detectors of wake-enabled
inputs are armed, and the asynchronous start detector at a station on the bus with its link IDLE, from the levels the
station last saw. Both drivers stay released. A line filter keeps the tick it has counted of a new level (log 41, the model's
choice). -/
def State.enterSleep (s : State) : State :=
  let a := s.setTsc { s.tsc with power := .sleep }
  let b :=
    a.setLif
      { a.lif.quiet with startDetector := decide (s.OnBus ∧ s.lif.link = .idle), stbPin := a.lif.stb, datPin := a.lif.dat }
  forInputs (fun i t => t.setInput i { t.input i with wakeArmed := (t.inputCfg i).wake }) b

/-- AUTO_SLEEP_EXPIRY (R179): entry exactly as for a SLEEP command, with no outcome recorded. -/
def execAutoSleepExpiry (s : State) : Host.Outcome State Fault Refusal :=
  if s.Running ∧ s.cfg.autoSleep ≠ 0 ∧ s.sleepOk = true then done s.enterSleep else .next s

/-- OSCILLATOR_STOP (R180): without effect if a wake source came first. -/
def execOscillatorStop (s : State) : Host.Outcome State Fault Refusal :=
  if s.tsc.power = .sleep ∧ s.tsc.waking = false ∧ s.tsc.inReset = false then
    done (s.setTsc { s.tsc with oscillator := false })
  else .next s

/-! ### Wake (11.1, 11.4) -/

/-- The debounce timer an input resumes with (R149): none where pin and filtered level agree (R141), and from zero where they
differ, also where SLEEP has held a count: R149 is the owner's over R176 (log 16). -/
def Input.resumed (x : Input) : Option Nat := if x.pin = x.filtered then none else some 0

/-- Each filter resumes from its held filtered level (R149, R176). The wake detector is disarmed. -/
def State.resumeInput (s : State) (i : Fin 4) : State :=
  s.setInput i { s.input i with timer := (s.input i).resumed, wakeArmed := false }

/-- The line interface resumes (R21): idle and stuck timers from zero, and tLOW counted from here where the wake stretch is
held (R182). That the both-low count, of which R21 and R180 say only that it stops, is from zero too is the model's choice
(log 36), and so is that a line filter goes on with the tick it had counted (log 41). -/
def Lif.resume (x : Lif) : Lif :=
  { x with idleTimer := 0, stbStuck := 0, datStuck := 0, bothLow := 0, startDetector := false
           tLow := if x.stretch then some 0 else none }

/-- Steps 2 and 3 of a wake (R176): ACTIVE, timers counting on from their held counts, filters and line interface resumed,
the auto-sleep timer from zero. -/
def State.awake (s : State) : State :=
  let a := s.setTsc { s.tsc with power := .active, oscillator := true, waking := false, autoSleep := 0 }
  forInputs (fun i t => t.resumeInput i) (a.setLif a.lif.resume)

/-- A wake source (R176, R180): with the oscillator still running the wake is at once; otherwise step 1 begins. Without
effect on a wake in progress. -/
def State.startWake (s : State) : State :=
  if s.tsc.power = .active then s
  else if s.tsc.waking then s
  else if s.tsc.oscillator then s.awake
  else s.setTsc { s.tsc with waking := true }

/-- OSCILLATOR_RUNS (R176): the end of step 1. -/
def execOscillatorRuns (s : State) : Host.Outcome State Fault Refusal :=
  if s.tsc.power = .sleep ∧ s.tsc.waking = true ∧ s.tsc.inReset = false then done s.awake else .next s

/-- The round as an asynchronous start begins it: ROUND at position 0, STB pulled at once, the head latched, DAT released
(R21, R182, log 19). -/
def State.asyncRound (s : State) : State :=
  let a := s.setRnd { s.rnd with round := some (s.beginHead .fresh) }
  a.setLif
    { a.lif with link := .round, stbDrive := .low, datDrive := .released, begun := true, stretch := true
                 startDetector := false, stb := .low, dat := .low, tHigh := none, tLow := none }

/-- ASYNC_START (R182): taken by the armed detector, also during sleep entry and during a wake in progress. -/
def execAsyncStart (s : State) : Host.Outcome State Fault Refusal :=
  if s.tsc.power = .sleep ∧ s.tsc.inReset = false ∧ s.lif.startDetector = true ∧ s.OnBus ∧ s.lif.link = .idle then
    done s.asyncRound.startWake
  else .next s

/-- The raw edge of a pin in SLEEP (R149): it wakes the station where the input's wake detector is armed. -/
def State.rawEdge (s : State) (i : Fin 4) (l : Level) : State :=
  let armed := (s.input i).wakeArmed
  let t := s.movePin i l
  if armed = true ∧ (s.input i).pin ≠ l ∧ s.tsc.inReset = false then t.startWake else t

/-- The other level. -/
def otherLevel : Level → Level
  | .low => .high
  | .high => .low

/-- WAKE_INPUT_EDGE (R149): a change of level at the pin of an input whose wake detector is armed. -/
def execWakeInputEdge (i : Fin 4) (s : State) : Host.Outcome State Fault Refusal :=
  if s.tsc.power = .sleep ∧ s.tsc.inReset = false ∧ (s.input i).wakeArmed = true then
    done (s.rawEdge i (otherLevel (s.input i).pin))
  else .next s

/-- INPUT_CHANGE (R141, R149): the pin moves; while ACTIVE the debounce timer starts, restarts or stops; in SLEEP the change
is a raw edge. -/
def execInputChange (i : Fin 4) (l : Level) (s : State) : Host.Outcome State Fault Refusal :=
  match s.tsc.power with
  | .active => done (s.movePin i l)
  | .sleep => done (s.rawEdge i l)

/-! ### Station reset (11.5) -/

/-- An output configuration with its default polarity (R184). -/
def OutputConfig.defaultPolarity (c : OutputConfig) : OutputConfig := { c with polarity := .activeHigh }

/-- The start of the internal reset (R184): drivers released, every output inactive with its default polarity, NA and NB
released (they are computed so while the reset runs), the transfer in progress ignored from now on with SDO shifting 0xFF
(R174), the oscillator started. The other reset values are taken at its end (log 21). -/
def State.startReset (s : State) (cause : ResetCause) : State :=
  let a := s.setTsc { s.tsc with cause := cause, inReset := true, oscillator := true, waking := false }
  let b := a.setLif { a.lif.endPulse with startDetector := false }
  let c :=
    b.setPin { b.pin with outputs := Vector.replicate 4 .reset
                          cfg := { b.pin.cfg with outputs := mapAll OutputConfig.defaultPolarity b.pin.cfg.outputs } }
  c.setTransfer (c.cmd.transfer.map Transfer.cut)

/-- POWER_ON (R183): starts, or restarts, the internal reset with cause POWER_ON. -/
def execPowerOn (s : State) : Host.Outcome State Fault Refusal := done (s.startReset .powerOn)

/-- RESETN (R183): starts or restarts the internal reset with cause PIN; during a power-on reset it holds that reset
without restarting it. -/
def execResetn (s : State) : Host.Outcome State Fault Refusal :=
  let t := s.setTsc { s.tsc with resetnLow := true }
  if s.tsc.inReset = true ∧ s.tsc.cause = .powerOn then done t else done (t.startReset .pin)

/-- The levels at the four input pins. -/
def State.pinLevels (s : State) : Vector Level 4 := mapAll Input.pin s.pin.inputs

/-- The number strapped on ID4 to ID0, ID4 the most significant bit (R47); a high pin reads 1 (log 1). -/
def strapNumber (p : Straps) : StationNo :=
  let bit (l : Level) : Nat := match l with | .low => 0 | .high => 1
  Fin.ofNat 32 (16 * bit p.id4 + 8 * bit p.id3 + 4 * bit p.id2 + 2 * bit p.id1 + bit p.id0)

/-- The port at the end of the internal reset (R174): the framing state is cleared, and a transfer whose CSN fell before stays
ignored to its end, SDO shifting 0xFF. -/
def Cmd.afterReset (x : Cmd) : Cmd := { x with transfer := x.transfer.map Transfer.cut, last := .ok }

/-- INTERNAL_RESET_END (R184, R47, R141): every block has its reset values, the number is read from the straps, filtered
levels from the pins; a transfer whose CSN fell before stays ignored. What is outside the station stays: the bus, the
board processor's levels, the queue. RESETN is released, or the reset would have held (log 25). -/
def execInternalResetEnd (straps : Straps) (s : State) : Host.Outcome State Fault Refusal :=
  if s.tsc.inReset = true then
    let fresh := State.afterReset s.tsc.cause (strapNumber straps) s.pinLevels
    done
      { fresh with
        cmd := s.cmd.afterReset
        bus := s.bus, spi := s.spi, pending := s.pending }
  else .next s

end Sys2Proof.Machine
end

