-- ==== Sys2Proof/Machine/Reads.lean ====
section
/-! DEFINITION. The nine reads of the command port: their data are served as their bytes begin (Machine/Port.lean), and OK is recorded at the end (10.3). -/

namespace Sys2Proof.Machine

/-- READ STATUS with `n` data bytes (R170, R172). -/
def execReadStatus (n : Nat) (s : State) : Host.Outcome State Fault Refusal := done (s.command (.readStatus n) (refuse .ok))

/-- READ ROSTER (R49, R170). -/
def execReadRoster (n : Nat) (s : State) : Host.Outcome State Fault Refusal := done (s.command (.readRoster n) (refuse .ok))

/-- READ FLAGS (R112, R170). -/
def execReadFlags (n : Nat) (s : State) : Host.Outcome State Fault Refusal := done (s.command (.readFlags n) (refuse .ok))

/-- READ EVENTS (R161, R170). -/
def execReadEvents (n : Nat) (s : State) : Host.Outcome State Fault Refusal := done (s.command (.readEvents n) (refuse .ok))

/-- READ LOG (R157, R171). -/
def execReadLog (n : Nat) (s : State) : Host.Outcome State Fault Refusal := done (s.command (.readLog n) (refuse .ok))

/-- READ STATION CONFIG (R170). -/
def execReadStationConfig (n : Nat) (s : State) : Host.Outcome State Fault Refusal :=
  done (s.command (.readStationConfig n) (refuse .ok))

/-- READ PIN CONFIG (R170). -/
def execReadPinConfig (n : Nat) (s : State) : Host.Outcome State Fault Refusal :=
  done (s.command (.readPinConfig n) (refuse .ok))

/-- The outcome of a slot read: OPERAND for a number above 31 (R171). -/
def slotReadCode (slot : Byte) : Code := if (slotOf slot).isSome then .ok else .operand

/-- READ SLOT (R171, R186). -/
def execReadSlot (slot : Byte) (n : Nat) (s : State) : Host.Outcome State Fault Refusal :=
  done (s.command (.readSlot slot n) (refuse (slotReadCode slot)))

/-- READ SLOT CONFIG (R171). -/
def execReadSlotConfig (slot : Byte) (n : Nat) (s : State) : Host.Outcome State Fault Refusal :=
  done (s.command (.readSlotConfig slot n) (refuse (slotReadCode slot)))

end Sys2Proof.Machine
end

