-- ==== Sys2Proof/Machine/Commands.lean ====
section
/-! DEFINITION. The write commands of the command port: the tests in their order and the effects (R169). -/

namespace Sys2Proof.Machine

/-! ### Membership and bus -/

/-- A JOIN that is taken (R50); a line that already stands at tSTUCK is stuck at that moment (R15). -/
def State.joinNow (s : State) : State :=
  let a := s.setMbr { s.mbr with nonce := some (s.tsc.time.setWidth 16) }
  let b := a.enter .joining
  let c := (b.setLif b.lif.seek).place .join s.mbr.number
  if s.StbStuck ∨ s.DatStuck then c.stuckNow (decide s.StbStuck) (decide s.DatStuck) else c

/-- JOIN (R50). -/
def execJoin (s : State) : Host.Outcome State Fault Refusal :=
  done (s.command .join fun t =>
    if t.mbr.membership = .offline ∧ t.lif.link = .detached then (t.joinNow, .ok) else (t, .state))

/-- WITHDRAW applied to a WAITING slot with its deferral (R79, R80, R60). -/
def State.withdrawOrDefer (i : SlotNo) (s : State) : State :=
  let x := s.slot i
  match x.state with
  | .waiting => if x.committed then s.setSlot i { x with withdrawPending := true } else s.withdrawNow i .withdrawn
  | .disabled | .ready | .fault => s

/-- A LEAVE that is taken, in the steps of R60. -/
def State.leaveNow (s : State) : State :=
  ((((forSlots State.withdrawOrDefer s).discardFlags).leaveHalt).enter .leaving).place .roll 0

/-- LEAVE (R60). -/
def execLeave (s : State) : Host.Outcome State Fault Refusal :=
  done (s.command .leave fun t => if t.mbr.membership = .online then (t.leaveNow, .ok) else (t, .state))

/-- The line interface that begins a bus-reset pulse: DAT is pulled, and STB too if DAT is already seen low (R17). Lines
that stand at tSTUCK are exempt from the stuck test where the link was DETACHED or FAULT (R15). -/
def Lif.beginPulse (x : Lif) (stuckTicks : Nat) : Lif :=
  let outside := x.link == .detached || x.link == .fault
  { x.quiet with
    link := .resetting, idleTimer := 0, startDetector := false
    datDrive := .low
    stbDrive := (match x.dat with | .low => .low | .high => .released)
    pulse := if x.stb = .low ∧ x.dat = .low then some 0 else none
    stbExempt := outside && x.stb == .low && decide (stuckTicks ≤ x.stbStuck)
    datExempt := outside && x.dat == .low && decide (stuckTicks ≤ x.datStuck) }

/-- BUS RESET (R17): any round is abandoned without a FRAMING record (R44). -/
def execBusReset (s : State) : Host.Outcome State Fault Refusal :=
  done (s.command .busReset fun t =>
    if t.lif.link = .resetting then (t, .already)
    else ((t.setLif (t.lif.beginPulse t.stuckTicks)).abandon false, .ok))

/-! ### Slots -/

/-- ARRIVE (R74, R75). -/
def execArrive (slot : Byte) (value : Half) (s : State) : Host.Outcome State Fault Refusal :=
  done (s.command (.arrive slot value) fun t =>
    match slotOf slot with
    | none => (t, .operand)
    | some i => t.attempt i value .command)

/-- A WITHDRAW on slot `i` (R79, R80). -/
def State.withdrawCommand (s : State) (i : SlotNo) : State × Code :=
  let x := s.slot i
  if x.cfg.enabled = false then (s, .operand)
  else if x.state ≠ .waiting then (s, .state)
  else if x.withdrawPending then (s, .already)
  else if x.committed then (s.setSlot i { x with withdrawPending := true }, .pending)
  else (s.withdrawNow i .withdrawn, .ok)

/-- WITHDRAW (R79, R80). -/
def execWithdraw (slot : Byte) (s : State) : Host.Outcome State Fault Refusal :=
  done (s.command (.withdraw slot) fun t =>
    match slotOf slot with
    | none => (t, .operand)
    | some i => t.withdrawCommand i)

/-- A taken CLEAR SLOT disarms input `k` where it is level-armed and bound to slot `i` (R144). -/
def State.disarmBound (i : SlotNo) (k : Fin 4) (s : State) : State :=
  if (s.inputCfg k).binding = .arrive ∧ low5 (s.inputCfg k).target = i then s.disarm k else s

/-- A CLEAR SLOT on slot `i` (R85). -/
def State.clearCommand (s : State) (i : SlotNo) : State × Code :=
  let x := s.slot i
  if x.cfg.enabled = false then (s, .operand)
  else if x.state ≠ .fault then (s, .state)
  else
    (forInputs (State.disarmBound i) (s.setSlot i { x with state := .ready, sync := .unsynced, lastSeen := 0#32 }), .ok)

/-- CLEAR SLOT (R85). -/
def execClearSlot (slot : Byte) (s : State) : Host.Outcome State Fault Refusal :=
  done (s.command (.clearSlot slot) fun t =>
    match slotOf slot with
    | none => (t, .operand)
    | some i => t.clearCommand i)

/-! ### Flags, halt and resume -/

/-- SET FLAGS (R113). -/
def execSetFlags (mask : Set32) (s : State) : Host.Outcome State Fault Refusal :=
  done (s.command (.setFlags mask) fun t => if t.mbr.membership = .online then (t.requestSet mask, .ok) else (t, .state))

/-- CLEAR FLAGS (R113). -/
def execClearFlags (mask : Set32) (s : State) : Host.Outcome State Fault Refusal :=
  done (s.command (.clearFlags mask) fun t => if t.mbr.membership = .online then (t.requestClear mask, .ok) else (t, .state))

/-- HALT (R126). -/
def execHalt (cause : Half) (s : State) : Host.Outcome State Fault Refusal :=
  done (s.command (.halt cause) fun t =>
    if cause.toNat = 0 ∨ 0x8000 ≤ cause.toNat then (t, .operand)
    else if t.mbr.membership ≠ .online then (t, .state)
    else (t.commandHalt cause, .ok))

/-- A RESUME that is taken (R132); the held cause goes with the command hold (R126). -/
def State.askResume (s : State) : State :=
  (s.setHlt { s.hlt with commandHold := false, heldCause := none, resumePending := true }).place .resume 0

/-- RESUME (R132). -/
def execResume (s : State) : Host.Outcome State Fault Refusal :=
  done (s.command .resume fun t =>
    if t.mbr.membership = .online ∧ t.hlt.condition = .halted then (t.askResume, .ok) else (t, .state))

/-! ### Notification -/

/-- The notification unit with kinds removed from the pending set of a line (R162). -/
def Ntf.clear (x : Ntf) (l : NotifyLine) (k : EventSet) : Ntf :=
  match l with
  | .a => { x with pendA := x.pendA &&& ~~~k }
  | .b => { x with pendB := x.pendB &&& ~~~k }

/-- The notification unit with kinds added to the mask of a line (R163). -/
def Ntf.unmask (x : Ntf) (l : NotifyLine) (k : EventSet) : Ntf :=
  match l with
  | .a => { x with maskA := x.maskA ||| k }
  | .b => { x with maskB := x.maskB ||| k }

/-- The notification unit with kinds removed from the mask of a line (R163). -/
def Ntf.hide (x : Ntf) (l : NotifyLine) (k : EventSet) : Ntf :=
  match l with
  | .a => { x with maskA := x.maskA &&& ~~~k }
  | .b => { x with maskB := x.maskB &&& ~~~k }

/-- CLEAR EVENTS (R162). -/
def execClearEvents (line : Byte) (kinds : Half) (s : State) : Host.Outcome State Fault Refusal :=
  done (s.command (.clearEvents line kinds) fun t =>
    match lineOf line with
    | none => (t, .operand)
    | some l => (t.setNtf (t.ntf.clear l (kindsOf kinds)), .ok))

/-- SET MASK (R163). -/
def execSetMask (line : Byte) (kinds : Half) (s : State) : Host.Outcome State Fault Refusal :=
  done (s.command (.setMask line kinds) fun t =>
    match lineOf line with
    | none => (t, .operand)
    | some l => (t.setNtf (t.ntf.unmask l (kindsOf kinds)), .ok))

/-- CLEAR MASK (R163). -/
def execClearMask (line : Byte) (kinds : Half) (s : State) : Host.Outcome State Fault Refusal :=
  done (s.command (.clearMask line kinds) fun t =>
    match lineOf line with
    | none => (t, .operand)
    | some l => (t.setNtf (t.ntf.hide l (kindsOf kinds)), .ok))

/-! ### Configuration -/

/-- WRITE STATION CONFIG (R173). -/
def execWriteStationConfig (bytes : List Byte) (s : State) : Host.Outcome State Fault Refusal :=
  done (s.command (.writeStationConfig bytes) fun t =>
    if bytes.length ≠ 7 then (t, .discarded)
    else if t.mbr.membership ≠ .offline ∨ t.lif.link = .resetting ∨ t.lif.link = .fault then (t, .state)
    else
      match parseStationConfig bytes with
      | none => (t, .operand)
      | some c => (t.setCfg c, .ok))

/-- The runtime record that a configuration write sets up (R67, R69, R71, R73): the result record is kept. -/
def Slot.configure (x : Slot) (c : SlotConfig) : Slot :=
  { x.dropArrival with
    cfg := c, state := if c.enabled then .ready else .disabled, sync := .unsynced, epoch := 0#4, lastSeen := 0#32 }

/-- WRITE SLOT CONFIG (R67, R173). -/
def execWriteSlotConfig (slot : Byte) (bytes : List Byte) (s : State) : Host.Outcome State Fault Refusal :=
  done (s.command (.writeSlotConfig slot bytes) fun t =>
    if bytes.length ≠ 8 then (t, .discarded)
    else if t.mbr.membership ≠ .offline then (t, .state)
    else
      match slotOf slot, parseSlotConfig bytes with
      | some i, some c => (t.setSlot i ((t.slot i).configure c), .ok)
      | _, _ => (t, .operand))

/-- An input at a pin configuration write (R140): a running debounce timer restarts, the input is armed. -/
def Input.reconfigure (x : Input) : Input := { x with timer := x.timer.map fun _ => 0, armed := true }

/-- The pin unit at a pin configuration write (R140). -/
def Pin.configure (p : Pin) (c : PinConfig) : Pin :=
  { cfg := c, inputs := mapAll Input.reconfigure p.inputs, outputs := Vector.replicate 4 .reset }

/-- WRITE PIN CONFIG (R140, R173). -/
def execWritePinConfig (bytes : List Byte) (s : State) : Host.Outcome State Fault Refusal :=
  done (s.command (.writePinConfig bytes) fun t =>
    if bytes.length ≠ 33 then (t, .discarded)
    else if t.mbr.membership ≠ .offline then (t, .state)
    else
      match parsePinConfig bytes with
      | none => (t, .operand)
      | some c => (t.setPin (t.pin.configure c), .ok))

/-! ### Power -/

/-- SLEEP (R178): the conditions are judged with the port deselected. -/
def execSleep (s : State) : Host.Outcome State Fault Refusal :=
  done (s.command .sleep fun t => if t.sleepOk then (t.enterSleep, .ok) else (t, .state))

/-- A whole WAKE at the rise of CSN (R175): it starts a wake in SLEEP, changes nothing else in ACTIVE, and records OK in
both. -/
def wakeTaken (h : Handling) (s : State) : State :=
  match h with
  | .active | .asleep => s.startWake.setLast .ok
  | .ignored => s

/-- WAKE (R175). -/
def execWake (s : State) : Host.Outcome State Fault Refusal := done (s.transfer [0x61#8] 0 0 wakeTaken)

/-- SOFT RESET (R183): it starts the internal reset and records no outcome. -/
def execSoftReset (s : State) : Host.Outcome State Fault Refusal :=
  done (s.command .softReset fun t => (t.startReset .soft, t.cmd.last))

end Sys2Proof.Machine
end

