-- ==== Sys2Proof/Machine/Transfers.lean ====
section
/-! DEFINITION. Port framing as commands of its own: the start of a transfer, and the transfers that carry no whole command (R165 to R168). -/

namespace Sys2Proof.Machine

/-- TRANSFER_START (R165, R166): CSN falls; SCK low means SPI mode 0, high mode 3. -/
def execTransferStart (sck : Level) (s : State) : Host.Outcome State Fault Refusal :=
  match s.cmd.transfer with
  | some _ => .next s
  | none => done ((s.openTransfer sck).setSpi { s.spi with sck := sck })

/-- TRANSFER_DISCARDED (R168): with no SCK edge nothing is recorded; off a byte boundary or with the wrong number of
operand bytes DISCARDED is. Bytes that carry a whole command or an unknown opcode are other rows' (log 7). -/
def execTransferDiscarded (sdi : List Byte) (extraBits : Nat) (s : State) : Host.Outcome State Fault Refusal :=
  match judge sdi extraBits with
  | .noEdge => done (s.transfer [] 0 0 fun _ t => t)
  | .discarded => done (s.transfer sdi 0 extraBits (whenActive (refuse .discarded)))
  | .unknown | .whole _ => .next s

/-- UNKNOWN_OPCODE (R168): UNKNOWN whatever the length, nothing handed on. -/
def execUnknownOpcode (opcode : Byte) (n : Nat) (s : State) : Host.Outcome State Fault Refusal :=
  if namesCommand opcode then .next s else done (s.transfer [opcode] n 0 (whenActive (refuse .unknown)))

end Sys2Proof.Machine
end

