-- ==== Sys2Proof/Machine/Tick.lean ====
section
/-! DEFINITION. One tick of the oscillator: the input filters, the timers, and the events that come due at it, put into the queue (R2, R6, R15 to R19, R177; logs 8, 9). -/

namespace Sys2Proof.Machine

/-! ### Levels at the pins -/

/-- The level of a line: low while any station holds it low (R1). -/
def lineLevel (own : Driver) (peers : Level) : Level :=
  match own with
  | .low => .low
  | .released => peers

/-- The level at the STB pin. -/
def State.stbAtPin (s : State) : Level := lineLevel s.lif.stbDrive s.bus.stb

/-- The level at the DAT pin. -/
def State.datAtPin (s : State) : Level := lineLevel s.lif.datDrive s.bus.dat

/-- The peers' levels of the next tick; the present ones stand on when the list is used up (log 9). -/
def Bus.advance (b : Bus) : Bus :=
  match b.feed with
  | [] => b
  | (stb, dat) :: rest => { stb := stb, dat := dat, feed := rest }

/-! ### Filters and line timers -/

/-- The STB filter at a tick (R2): a new level is accepted when the pin has held it for 2 ticks. -/
def Lif.filterStb (x : Lif) (pin : Level) : Lif :=
  if pin = x.stb then { x with stbPin := pin, stbFilter := 0 }
  else if x.stbFilter + 1 < Config.filterTicks then { x with stbPin := pin, stbFilter := x.stbFilter + 1 }
  else { x with stbPin := pin, stbFilter := 0 }.seeStb pin

/-- The DAT filter at a tick (R2). -/
def Lif.filterDat (x : Lif) (pin : Level) : Lif :=
  if pin = x.dat then { x with datPin := pin, datFilter := 0 }
  else if x.datFilter + 1 < Config.filterTicks then { x with datPin := pin, datFilter := x.datFilter + 1 }
  else { x with datPin := pin, datFilter := 0 }.seeDat pin

/-- A timer that has run through the tick. -/
def bump (t : Option Nat) : Option Nat := t.map fun n => n + 1

/-- The idle timer after a tick (R6): it counts while both lines are high and starts with the filter's 2 ticks. -/
def idleAfter (x y : Lif) : Nat :=
  if y.link.countsIdle = false then y.idleTimer
  else if y.stb = .low ∨ y.dat = .low then 0
  else if x.stb = .low ∨ x.dat = .low then Config.filterTicks
  else y.idleTimer + 1

/-- The both-low count after a tick (R18): it counts while the detector works and both lines are low. Where both were low
already when the detector begins to work, at a JOIN or a BUS RESET from DETACHED, it counts from 0 at that moment:
the model's choice (log 34). -/
def bothLowAfter (x y : Lif) : Nat :=
  if y.Detects ∧ y.stb = .low ∧ y.dat = .low then
    if x.stb = .low ∧ x.dat = .low then y.bothLow + 1 else y.bothLow
  else 0

/-- The pulse timer after a tick (R17): it starts when both lines are seen low and counts from there. -/
def pulseAfter (y : Lif) : Option Nat :=
  if y.link ≠ .resetting then none
  else
    match y.pulse with
    | some n => some (n + 1)
    | none => if y.stb = .low ∧ y.dat = .low then some 0 else none

/-- The line timers after a tick; `x` is the line interface before its filters have read the pins, `y` after. A sender
that sees DAT low pulls STB (R17). -/
def Lif.count (x y : Lif) : Lif :=
  { y with
    stbStuck := if x.stb = .low ∧ y.stb = .low then y.stbStuck + 1 else y.stbStuck
    datStuck := if x.dat = .low ∧ y.dat = .low then y.datStuck + 1 else y.datStuck
    idleTimer := idleAfter x y
    bothLow := bothLowAfter x y
    tLow := bump y.tLow
    tHigh := bump y.tHigh
    pulse := pulseAfter y
    stbDrive := if y.link = .resetting ∧ y.dat = .low then .low else y.stbDrive }

/-- The armed detector sees both lines high, but a low interval was not shorter than tSTUCK: nothing is recognised, and
the detector disarms (R19, log 8). -/
def State.releaseTooLate (s : State) (y : Lif) : Bool :=
  y.armed && y.stb == .high && y.dat == .high
    && (decide (s.stuckTicks ≤ y.stbInterval) || decide (s.stuckTicks ≤ y.datInterval))

/-- tHIGH has passed with STB still seen high: the station pulls STB for the next position, or for closing (R9, R11,
R13). -/
def State.pullsStb (s : State) (y : Lif) : Bool :=
  decide s.OnBus && (y.link == .round || y.link == .closing) && !y.begun && y.stb == .high && y.stbDrive == .released
    && match y.tHigh with
      | some n => decide (s.cfg.tHigh.toNat ≤ n)
      | none => false

/-- The line interface after a tick. tLOW counts from the station's own pull (R10). -/
def State.lifAfter (s : State) : Lif :=
  let y := s.lif.count ((s.lif.filterStb s.stbAtPin).filterDat s.datAtPin)
  let z := if s.releaseTooLate y then { y with armed := false, ownPulse := false } else y
  if s.pullsStb z then { z with stbDrive := .low, tLow := some 0, tHigh := none } else z

/-! ### Timers on station time -/

/-- The input filters' timers after a tick (R141), counted in ticks from their own start (log 40, the model's choice). -/
def Input.count (x : Input) : Input := { x with timer := bump x.timer }

/-- A slot's timeout timer after a microsecond (R81). -/
def Slot.count (x : Slot) : Slot :=
  if x.state = .waiting ∧ x.cfg.timeout ≠ 0#16 then { x with timer := x.timer + 1 } else x

/-- An output's pulse timer after a tick (R151), counted in ticks from the round end (log 40, the model's choice). -/
def Output.count (x : Output) : Output := { x with pulse := bump x.pulse }

/-- The roll timer after a microsecond (R56). -/
def State.rollAfter (s : State) : Nat :=
  if s.IsMember ∧ s.cfg.rollPeriod ≠ 0#8 then s.mbr.rollTimer + 1 else s.mbr.rollTimer

/-- The auto-sleep timer after a microsecond (R179). -/
def State.autoSleepAfter (s : State) : Nat :=
  if s.cfg.autoSleep ≠ 0 ∧ s.sleepOk = true then s.tsc.autoSleep + 1 else s.tsc.autoSleep

/-- A microsecond of station time has passed (R177). The roll, timeout and auto-sleep timers step with it, so that the
microsecond under way as one of them starts counts whole: the model's choice (log 40). -/
def State.countMicro (s : State) : State :=
  let auto := s.autoSleepAfter
  let a := s.setTsc { s.tsc with subTicks := 0, time := s.tsc.time + 1, autoSleep := auto }
  let b := a.setMbr { a.mbr with rollTimer := s.rollAfter }
  b.setSlots (mapAll Slot.count b.slots)

/-- The counts after a tick, with whether a microsecond of station time ended at it. -/
def State.countTick (s : State) : State × Bool :=
  let a := s.setLif s.lifAfter
  let b := a.setPin { a.pin with inputs := mapAll Input.count a.pin.inputs, outputs := mapAll Output.count a.pin.outputs }
  if b.tsc.subTicks + 1 < Config.ticksPerMicro then (b.setTsc { b.tsc with subTicks := b.tsc.subTicks + 1 }, false)
  else (b.countMicro, true)

/-! ### Events that come due; `x` is the line interface before the tick, `s` the station after it -/

/-- A list with one event where the condition holds. -/
def dueIf (c : Bool) (i : Instr) : List Instr := if c then [i] else []

/-- STB was seen to rise at the tick. -/
def stbRose (x y : Lif) : Bool := x.stb == .low && y.stb == .high

/-- STB was seen to fall at the tick. -/
def stbFell (x y : Lif) : Bool := x.stb == .high && y.stb == .low

/-- DAT was seen to fall at the tick. -/
def datFell (x y : Lif) : Bool := x.dat == .high && y.dat == .low

/-- DAT was seen to change while STB stayed high. Where both lines change in one tick, STB is not taken to be high at the DAT
transition: it is no framing violation (R14), and at a rise of STB the new level of DAT is sampled (R11): the model's choice
(log 38). -/
def datChangedInHigh (x y : Lif) : Bool := x.dat != y.dat && x.stb == .high && y.stb == .high

/-- The bus-reset detector (R18, R19) and the pulse (R17). -/
def State.resetDue (x : Lif) (s : State) : List Instr :=
  let y := s.lif
  dueIf (y.armed && y.stb == .high && y.dat == .high) .busResetRecognised
    ++ dueIf (y.armed && stbFell x y) (.busResetDetectorDisarmed .stb)
    ++ dueIf (y.armed && datFell x y) (.busResetDetectorDisarmed .dat)
    ++ dueIf (!y.armed && y.bothLow == Config.armTicks) .busResetArmed
    ++ dueIf (y.link == .resetting && y.pulse == some Config.pulseTicks) .busResetPulseEnd

/-- Stuck lines (R15). -/
def State.stuckDue (s : State) : List Instr :=
  let stb := decide s.StbStuck && !s.lif.stbExempt
  let dat := decide s.DatStuck && !s.lif.datExempt
  if s.lif.link.findsStuck then
    match stb, dat with
    | true, true => [.lineStuck .both]
    | true, false => [.lineStuck .stb]
    | false, true => [.lineStuck .dat]
    | false, false => []
  else []

/-- The round end that the sampled DIS makes of a round (R39). -/
def roundEndRow (r : Round) (dis : Level) : Instr :=
  if dis = .low ∨ r.dissent.any = true then .voidRound dis
  else
    match r.named with
    | some (.halt, _) => .haltRound
    | some (.resume, _) => .resumeRound
    | some (.join, _) => .joinRound
    | some (.arrive, _) => .arriveRound
    | some (.flags, _) => .flagsRound
    | some (.roll, _) => .rollRound
    | none => .voidRound dis

/-- The next position, or the low phase of closing, begins: STB is seen low for it (R10, R13). -/
def State.beginsNow (s : State) : Bool := !s.lif.begun && s.lif.stb == .low

/-- The edges in ROUND (R10, R11, R14). -/
def State.roundDue (x : Lif) (s : State) (r : Round) : List Instr :=
  let y := s.lif
  if datChangedInHigh x y then [.framingViolation]
  else if y.begun then
    if stbRose x y && y.stbDrive == .released then
      if r.position < 100 then [.positionSampled y.dat] else [roundEndRow r y.dat]
    else []
  else dueIf s.beginsNow .positionBegins

/-- The edges in CLOSING (R13). -/
def State.closingDue (x : Lif) (s : State) : List Instr :=
  let y := s.lif
  if y.begun then dueIf (stbRose x y && y.stbDrive == .released) (.closingEnd y.dat)
  else if datChangedInHigh x y && y.dat == .low then [.datFallInClosing]
  else dueIf s.beginsNow .positionBegins

/-- The edges in IDLE (R7, R9). Where DAT and STB are seen to fall in one tick, the fall of DAT is taken as unframed activity
and not as a START: the model's choice (log 37). -/
def State.idleDue (x : Lif) (s : State) : List Instr :=
  let y := s.lif
  if datChangedInHigh x y && y.dat == .low then [.roundStart]
  else dueIf (y.stb == .low && (stbFell x y || datFell x y)) .unframedActivity

/-- The edges of the tick, by the link state. -/
def State.edgesDue (x : Lif) (s : State) : List Instr :=
  match s.lif.link, s.rnd.round with
  | .idle, _ => s.idleDue x
  | .round, some r => s.roundDue x r
  | .closing, _ => s.closingDue x
  | _, _ => []

/-- The tLOW timer has reached tLOW (R10). -/
def State.tLowDue (s : State) : List Instr :=
  match s.lif.tLow with
  | some n => dueIf (s.lif.begun && s.lif.stbDrive == .low && decide (s.cfg.tLow.toNat ≤ n)) .tlowExpired
  | none => []

/-- The bus becomes idle (R6), and a START is issued where one is asked for (R8, R34). -/
def State.busIdleDue (s : State) : List Instr :=
  let y := s.lif
  let idle := decide (s.cfg.tIdle.toNat ≤ y.idleTimer)
  let opens := y.link == .seeking || y.link == .fault
  let starts := (y.link == .idle || y.link == .seeking) && !s.rnd.requests.isEmpty && y.datDrive == .released
  dueIf (idle && (opens || (y.link == .idle && y.idleTimer == s.cfg.tIdle.toNat))) .busIdle
    ++ dueIf (idle && starts && s.mbr.membership != .offline && y.stb == .high && y.dat == .high) .startIssued

/-- The acceptance time of input `i`, in ticks (R141). -/
def State.acceptTicks (s : State) (i : Fin 4) : Nat :=
  if (s.inputCfg i).debounce then (s.pin.cfg.debounce.toNat + 1) * 32 * Config.ticksPerMicro else Config.filterTicks

/-- Inputs whose new level is accepted (R141), in ascending order (log 22). -/
def State.inputsDue (s : State) : List Instr :=
  (List.finRange 4).flatMap fun i =>
    match (s.input i).timer with
    | some n => dueIf ((s.input i).pin != (s.input i).filtered && decide (s.acceptTicks i ≤ n)) (.inputAccepted i)
    | none => []

/-- Outputs whose pulse has lasted its width (R151). -/
def State.pulsesDue (s : State) : List Instr :=
  (List.finRange 4).flatMap fun o =>
    match (s.output o).pulse with
    | some n => dueIf (decide (Config.ticksPerMicro * (s.outputCfg o).width.toNat ≤ n)) (.pulseEnd o)
    | none => []

/-- Slots whose timeout timer reaches the timeout (R81). -/
def State.timeoutsDue (s : State) : List Instr :=
  (List.finRange 32).flatMap fun i =>
    let x := s.slot i
    dueIf (x.state == .waiting && x.cfg.timeout != 0#16 && x.timer == x.timeoutMicros) (.timeout i)

/-- The roll timer has reached the roll period (R56). -/
def State.rollDue (s : State) : List Instr :=
  dueIf (decide s.IsMember && s.cfg.rollPeriod != 0#8 && decide (10000 * s.cfg.rollPeriod.toNat ≤ s.mbr.rollTimer))
    .rollTimerExpiry

/-- The auto-sleep timer has reached the auto-sleep time (R179). -/
def State.autoSleepDue (s : State) : List Instr :=
  dueIf (s.cfg.autoSleep != 0 && s.sleepOk && decide (8000 * s.cfg.autoSleep ≤ s.tsc.autoSleep)) .autoSleepExpiry

/-- The expiries of the tick: those of timers that count microseconds as one ends, and the ends of pulses. -/
def State.expiriesDue (micro : Bool) (s : State) : List Instr :=
  (if micro then s.rollDue ++ s.timeoutsDue else []) ++ s.pulsesDue

/-- The events of the lines. -/
def State.linesDue (x : Lif) (s : State) : List Instr :=
  s.resetDue x ++ s.stuckDue ++ s.edgesDue x ++ s.tLowDue ++ s.busIdleDue

/-- Every event of the tick, in the order of log 8. The expiries come first, so that each row meets the timer that made it
due. -/
def State.due (x : Lif) (micro : Bool) (s : State) : List Instr :=
  s.expiriesDue micro ++ s.linesDue x ++ s.inputsDue ++ (if micro then s.autoSleepDue else [])

/-! ### The tick -/

/-- A tick at a station whose oscillator runs the blocks. -/
def State.runTick (s : State) : State :=
  let r := s.countTick
  (r.1.setPending (s.pending ++ r.1.due s.lif r.2)).settle

/-- The asynchronous start detector sees DAT fall while STB is high (R182): DAT high at the last tick and low at this one, and
STB high at this one. Where both lines have fallen since the last tick it sees none: the model's choice (log 35). -/
def State.seesStart (s : State) : Bool :=
  s.lif.startDetector && s.lif.datPin == .high && s.datAtPin == .low && s.stbAtPin == .high

/-- The same span of time in SLEEP: only the asynchronous start detector looks at the lines (R21). -/
def State.sleepTick (s : State) : State :=
  (s.setLif { s.lif with stbPin := s.stbAtPin, datPin := s.datAtPin }).setPending
    (s.pending ++ dueIf s.seesStart .asyncStart)

/-- What happens as a tick's time passes with no command waiting (log 8): the levels from outside advance, the command port
in every power state (R175), and then the blocks. -/
def State.tick (s : State) : State :=
  let t := (s.setBus s.bus.advance).clockPort
  if t.Running then t.runTick
  else if t.tsc.power = .sleep ∧ t.tsc.inReset = false then t.sleepTick
  else t

end Sys2Proof.Machine
end

