-- ==== Sys2Proof/Machine/Dispatch.lean ====
section
/-! DEFINITION. The dispatcher: one arm per command, each a direct call of its meaning. -/

namespace Sys2Proof.Machine

/-- The meaning of every command and event. -/
def exec (i : Instr) (s : State) : Host.Outcome State Fault Refusal :=
  match i with
  | .readStatus n => Sys2Proof.Machine.execReadStatus n s
  | .readRoster n => Sys2Proof.Machine.execReadRoster n s
  | .readFlags n => Sys2Proof.Machine.execReadFlags n s
  | .readEvents n => Sys2Proof.Machine.execReadEvents n s
  | .readSlot slot n => Sys2Proof.Machine.execReadSlot slot n s
  | .readLog n => Sys2Proof.Machine.execReadLog n s
  | .readStationConfig n => Sys2Proof.Machine.execReadStationConfig n s
  | .readSlotConfig slot n => Sys2Proof.Machine.execReadSlotConfig slot n s
  | .readPinConfig n => Sys2Proof.Machine.execReadPinConfig n s
  | .join => Sys2Proof.Machine.execJoin s
  | .leave => Sys2Proof.Machine.execLeave s
  | .busReset => Sys2Proof.Machine.execBusReset s
  | .arrive slot value => Sys2Proof.Machine.execArrive slot value s
  | .withdraw slot => Sys2Proof.Machine.execWithdraw slot s
  | .clearSlot slot => Sys2Proof.Machine.execClearSlot slot s
  | .setFlags mask => Sys2Proof.Machine.execSetFlags mask s
  | .clearFlags mask => Sys2Proof.Machine.execClearFlags mask s
  | .halt cause => Sys2Proof.Machine.execHalt cause s
  | .resume => Sys2Proof.Machine.execResume s
  | .clearEvents line kinds => Sys2Proof.Machine.execClearEvents line kinds s
  | .setMask line kinds => Sys2Proof.Machine.execSetMask line kinds s
  | .clearMask line kinds => Sys2Proof.Machine.execClearMask line kinds s
  | .writeStationConfig bytes => Sys2Proof.Machine.execWriteStationConfig bytes s
  | .writeSlotConfig slot bytes => Sys2Proof.Machine.execWriteSlotConfig slot bytes s
  | .writePinConfig bytes => Sys2Proof.Machine.execWritePinConfig bytes s
  | .sleep => Sys2Proof.Machine.execSleep s
  | .wake => Sys2Proof.Machine.execWake s
  | .softReset => Sys2Proof.Machine.execSoftReset s
  | .transferStart sck => Sys2Proof.Machine.execTransferStart sck s
  | .transferDiscarded sdi extraBits => Sys2Proof.Machine.execTransferDiscarded sdi extraBits s
  | .unknownOpcode opcode n => Sys2Proof.Machine.execUnknownOpcode opcode n s
  | .startIssued => Sys2Proof.Machine.execStartIssued s
  | .roundStart => Sys2Proof.Machine.execRoundStart s
  | .unframedActivity => Sys2Proof.Machine.execUnframedActivity s
  | .haltRound => Sys2Proof.Machine.execHaltRound s
  | .resumeRound => Sys2Proof.Machine.execResumeRound s
  | .joinRound => Sys2Proof.Machine.execJoinRound s
  | .arriveRound => Sys2Proof.Machine.execArriveRound s
  | .flagsRound => Sys2Proof.Machine.execFlagsRound s
  | .rollRound => Sys2Proof.Machine.execRollRound s
  | .voidRound dis => Sys2Proof.Machine.execVoidRound dis s
  | .closingEnd dat => Sys2Proof.Machine.execClosingEnd dat s
  | .framingViolation => Sys2Proof.Machine.execFramingViolation s
  | .busIdle => Sys2Proof.Machine.execBusIdle s
  | .lineStuck line => Sys2Proof.Machine.execLineStuck line s
  | .busResetPulseEnd => Sys2Proof.Machine.execBusResetPulseEnd s
  | .busResetArmed => Sys2Proof.Machine.execBusResetArmed s
  | .busResetRecognised => Sys2Proof.Machine.execBusResetRecognised s
  | .rollTimerExpiry => Sys2Proof.Machine.execRollTimerExpiry s
  | .timeout slot => Sys2Proof.Machine.execTimeout slot s
  | .inputChange input level => Sys2Proof.Machine.execInputChange input level s
  | .inputAccepted input => Sys2Proof.Machine.execInputAccepted input s
  | .pulseEnd output => Sys2Proof.Machine.execPulseEnd output s
  | .autoSleepExpiry => Sys2Proof.Machine.execAutoSleepExpiry s
  | .oscillatorStop => Sys2Proof.Machine.execOscillatorStop s
  | .asyncStart => Sys2Proof.Machine.execAsyncStart s
  | .wakeInputEdge input => Sys2Proof.Machine.execWakeInputEdge input s
  | .oscillatorRuns => Sys2Proof.Machine.execOscillatorRuns s
  | .powerOn => Sys2Proof.Machine.execPowerOn s
  | .resetn => Sys2Proof.Machine.execResetn s
  | .internalResetEnd straps => Sys2Proof.Machine.execInternalResetEnd straps s
  | .positionBegins => Sys2Proof.Machine.execPositionBegins s
  | .positionSampled dat => Sys2Proof.Machine.execPositionSampled dat s
  | .tlowExpired => Sys2Proof.Machine.execTlowExpired s
  | .datFallInClosing => Sys2Proof.Machine.execDatFallInClosing s
  | .busResetDetectorDisarmed line => Sys2Proof.Machine.execBusResetDetectorDisarmed line s

end Sys2Proof.Machine
end

