-- ==== Sys2Proof/Machine/Step.lean ====
section
/-! DEFINITION. One step: the command at the front of the queue, or a tick where none waits. -/

namespace Sys2Proof.Machine

/-- The command at the front of the queue is executed with the queue's rest; with no command waiting a tick passes
(log 8). -/
def step (s : State) : Host.Outcome State Fault Refusal :=
  match s.pending with
  | [] => .next s.tick
  | i :: rest => exec i (s.setPending rest)

/-- `s` with the command that a word spells at the front of its queue; the opcode table spells no command in bits
(log 32). -/
def State.withFetchWord (s : State) (nbits w : Nat) : State :=
  match decodeTableWord nbits w with
  | some i => s.setPending (i :: s.pending)
  | none => s

end Sys2Proof.Machine
end

