-- ==== Sys2Proof/Safety.lean ====
section
/-! DEFINITION. What the statements speak of: which blocks a command leaves alone, how the port answers, and the properties that every step keeps. -/

namespace Sys2Proof.Machine

/-! ### Frames -/

/-- The fields of State. -/
inductive Block
  | cfg | lif | rnd | mbr | slots | flg | hlt | pin | log | ntf | cmd | tsc | bus | spi | pending
  deriving DecidableEq, Repr

/-- The block has the same value in both states. -/
def Block.Same (s t : State) : Block → Prop
  | .cfg => t.cfg = s.cfg
  | .lif => t.lif = s.lif
  | .rnd => t.rnd = s.rnd
  | .mbr => t.mbr = s.mbr
  | .slots => t.slots = s.slots
  | .flg => t.flg = s.flg
  | .hlt => t.hlt = s.hlt
  | .pin => t.pin = s.pin
  | .log => t.log = s.log
  | .ntf => t.ntf = s.ntf
  | .cmd => t.cmd = s.cmd
  | .tsc => t.tsc = s.tsc
  | .bus => t.bus = s.bus
  | .spi => t.spi = s.spi
  | .pending => t.pending = s.pending

/-- Every block not named in `touched` is unchanged from `s` to `t`. -/
def Frame (touched : List Block) (s t : State) : Prop := ∀ b : Block, b ∉ touched → b.Same s t

/-- Timebase and sleep control is unchanged, but that the auto-sleep timer may have been set to zero (R179). -/
def TscQuiet (s t : State) : Prop := t.tsc = s.tsc ∨ t.tsc = { s.tsc with autoSleep := 0 }

/-- An event touched only the named blocks; the auto-sleep timer may have been set to zero. -/
def Only (touched : List Block) (s t : State) : Prop := TscQuiet s t ∧ Frame (.tsc :: touched) s t

/-- The list of records grew by records of the named kinds alone. -/
def OnlyRecords (kinds : List Kind) (s t : State) : Prop :=
  ∃ l : List Record, t.log.records = s.log.records ++ l ∧ ∀ r ∈ l, r.kind ∈ kinds

/-- Every slot but `i` is unchanged. -/
def OtherSlots (i : SlotNo) (s t : State) : Prop := ∀ j, j ≠ i → t.slot j = s.slot j

/-- The round in progress and every entry but that of class `c` and selector `n` are unchanged. -/
def OtherEntries (c : Class) (n : Fin 32) (s t : State) : Prop :=
  t.rnd.round = s.rnd.round ∧ ∀ c' n', (c', n') ≠ (c, n) → findEntry t.rnd.requests c' n' = findEntry s.rnd.requests c' n'

/-- An entry is held afterwards, with the void count it had, or 0 where it is new (R29). -/
def Placed (c : Class) (n : Fin 32) (s t : State) : Prop :=
  findEntry t.rnd.requests c n
    = match findEntry s.rnd.requests c n with
      | some e => some e
      | none => some { cls := c, sel := n, voids := 0 }

/-- The pin unit is unchanged but that inputs may have been disarmed (R144). -/
def OnlyDisarms (s t : State) : Prop :=
  t.pin.cfg = s.pin.cfg ∧ t.pin.outputs = s.pin.outputs
    ∧ ∀ k : Fin 4, t.input k = s.input k ∨ t.input k = { s.input k with armed := false }

/-! ### The port -/

/-- What every run keeps of a transfer in progress: as many bytes shifted out as received, as many bits clocked of the byte
on SDO as received of the one on SDI; nothing received of an ignored one; a record is being shifted out only in READ LOG,
until its last bit. -/
structure Transfer.Sound (x : Transfer) : Prop where
  clocked : x.clocked ≤ 8 ∧ (x.clocked = 8 → x.sent ≠ [])
  taken : x.handling ≠ .ignored → x.received.length = x.sent.length ∧ x.bits.length = x.clocked % 8
  ignored : x.handling = .ignored → x.received = [] ∧ x.bits = []
  record : x.record = true →
    x.handling = .active ∧ readsLog x.received = true ∧ (x.clocked = 8 → x.received.length % 14 ≠ 1)

/-- The transfer in progress, if there is one, is sound. -/
def PortSound (s : State) : Prop := ∀ x, s.cmd.transfer = some x → x.Sound

/-- The port is free and would handle a transfer as `h`, or a transfer it handles as `h` is in progress and has carried
nothing else than `lead`, then `n` bytes and `extra` bits begin with. -/
def PortOpen (h : Handling) (lead : List Byte) (n extra : Nat) (s : State) : Prop :=
  PortSound s
    ∧ match s.cmd.transfer with
      | none => s.handling = h
      | some x => x.handling = h ∧ x.agrees lead n extra = true

/-- The port takes the command `c` now as in ACTIVE: the blocks run, and a transfer in progress is handled so and has
carried nothing else (R174, R175). -/
def PortActive (c : Instr) (s : State) : Prop := s.Running ∧ PortOpen .active (leadBytes c) (dataBytes c) 0 s

/-- The port handles the transfer of the command `c` now as in SLEEP (R175). -/
def PortAsleep (c : Instr) (s : State) : Prop := PortOpen .asleep (leadBytes c) (dataBytes c) 0 s

/-- The port ignores the transfer of the command `c` (R174). -/
def PortIgnores (c : Instr) (s : State) : Prop := PortOpen .ignored (leadBytes c) (dataBytes c) 0 s

/-- The bytes SDO has begun to shift out: the status byte alone in a transfer that begins now (R166). -/
def State.shown (s : State) : List Byte :=
  match s.cmd.transfer with
  | none => [s.statusByte]
  | some x => if x.clocked < 8 then x.sent ++ [x.out] else x.sent

/-- The transfer has ended in which SDO had begun the bytes `shown`: it shifted the status byte and one byte for each of
`data`, the ones of `data` where it had not begun them before. -/
def Shifted (data : List Byte) (s t : State) : Prop :=
  t.cmd.transfer = none ∧ t.cmd.sdo = (s.shown ++ data.drop (s.shown.length - 1)).take (data.length + 1)

/-- The same, with `c` the last outcome (R165, R167). -/
def Answered (c : Code) (data : List Byte) (s t : State) : Prop := Shifted data s t ∧ t.cmd.last = c

/-- A write command with `n` operand bytes was answered with `c` and touched only the named blocks. -/
def Wrote (n : Nat) (c : Code) (touched : List Block) (s t : State) : Prop :=
  Answered c (List.replicate n 0#8) s t ∧ t.cmd.snapshot = s.cmd.snapshot ∧ TscQuiet s t
    ∧ Frame (.cmd :: .tsc :: touched) s t

/-- A write command with `n` operand bytes was refused: it changed nothing but the last outcome (R169). -/
def Refused (n : Nat) (c : Code) (s t : State) : Prop := Wrote n c [] s t

/-- A read was served: SDO shifted `data`, OK is recorded, and no block but the port changed (R168, 10.3). -/
def ReadOut (data : List Byte) (s t : State) : Prop :=
  Answered .ok data s t ∧ TscQuiet s t ∧ Frame [.cmd, .tsc] s t

/-! ### Records and events -/

/-- The log and the pending sets of `t` are those of `s` after a record is offered and then an event raised (R155, R161). -/
def Reports (s t : State) (k : Kind) (sel : Fin 32) (tag : Byte) (set : Set32) (value : Half) (e : Event) : Prop :=
  t.log = ((s.offer k sel tag set value).raise e).log ∧ t.ntf = ((s.offer k sel tag set value).raise e).ntf

/-- The same for a slot's record with its SLOT event (R68). -/
def ReportsSlot (s t : State) (i : SlotNo) (k : Kind) (tag : Byte) (set : Set32) (value : Half) : Prop :=
  t.log = (s.offerSlot i k tag set value).log ∧ t.ntf = (s.offerSlot i k tag set value).ntf

/-- The record is the first of those offered, and the event is raised, whatever follows (R155, R161). -/
def ReportsFirst (s t : State) (k : Kind) (sel : Fin 32) (tag : Byte) (set : Set32) (value : Half) (e : Event) : Prop :=
  (s.offer k sel tag set value).log.records <+: t.log.records
    ∧ t.ntf.pendA.getLsbD e.bit = true ∧ t.ntf.pendB.getLsbD e.bit = true

/-! ### Reads and resets -/

/-- `data` is `n` bytes of the snapshot in order, and 0x00 after its end (R170). -/
def Prefixed (snapshot : List Byte) (n : Nat) (data : List Byte) : Prop :=
  data.length = n ∧ ∀ j, j < n → data[j]? = some (snapshot.getD j 0#8)

/-- The snapshot that a read without operand shifts out: taken now, or the one in the buffer where its first byte has begun
(R170). -/
def State.copyOf (s : State) (fresh : List Byte) : List Byte := if s.shown.length ≤ 1 then fresh else s.cmd.snapshot

/-- A record that the log holds is being shifted out (R157). -/
def State.shiftsRecord (s : State) : Bool :=
  match s.cmd.transfer with
  | some x => x.record
  | none => false

/-- The internal reset has begun with the cause (R183, R184): drivers released, outputs inactive with every pin low, NA and
NB released, the port shows 0xFF, the oscillator runs; the blocks keep their other state until the reset ends (log 21). -/
def ResetBegun (cause : ResetCause) (s t : State) : Prop :=
  t.tsc = { s.tsc with cause := cause, inReset := true, oscillator := true, waking := false, resetnLow := t.tsc.resetnLow
                       autoSleep := t.tsc.autoSleep }
    ∧ t.lif.stbDrive = .released ∧ t.lif.datDrive = .released
    ∧ (∀ o, t.outputActive o = false ∧ t.outputPin o = .low) ∧ t.naLow = false ∧ t.nbLow = false
    ∧ t.statusByte = 0xFF#8 ∧ t.pin.inputs = s.pin.inputs ∧ t.cmd.last = s.cmd.last
    ∧ Frame [.tsc, .lif, .pin, .cmd] s t

/-- A transfer in progress is ignored from now on (R174): its framing state is cleared, what SDO had shifted stands, and SDO
shifts 0xFF for the rest of the byte on it. -/
def CutTransfer (s t : State) : Prop :=
  (s.cmd.transfer = none → t.cmd.transfer = none)
    ∧ ∀ x, s.cmd.transfer = some x → ∃ y, t.cmd.transfer = some y ∧ y.handling = .ignored ∧ y.received = [] ∧ y.bits = []
      ∧ y.sent = x.sent ∧ y.clocked = x.clocked ∧ y.record = false
      ∧ ∀ k, k < 8 → (k < x.clocked → y.out.getLsbD (7 - k) = x.out.getLsbD (7 - k))
        ∧ (x.clocked ≤ k → y.out.getLsbD (7 - k) = true)

/-! ### Sleep, wake and bus reset -/

/-- Sleep has been entered (R180): the power state is SLEEP, drivers released, the link kept, the start detector armed at a
station on the bus with its link IDLE, the wake detectors as their inputs are wake-enabled; every timer keeps its count, and a
line filter its own (log 41). -/
def SleepEntered (s t : State) : Prop :=
  t.tsc = { s.tsc with power := .sleep, autoSleep := t.tsc.autoSleep }
    ∧ t.lif = { s.lif with stbDrive := .released, datDrive := .released, stretch := false, begun := false, tLow := none
                           tHigh := none, startDetector := t.lif.startDetector, stbPin := s.lif.stb, datPin := s.lif.dat }
    ∧ (t.lif.startDetector = true ↔ s.mbr.membership ≠ .offline ∧ s.lif.link = .idle)
    ∧ t.pin.cfg = s.pin.cfg ∧ t.pin.outputs = s.pin.outputs
    ∧ ∀ i : Fin 4, t.input i = { s.input i with wakeArmed := (s.inputCfg i).wake }

/-- The station is awake (R176, R21, R149): ACTIVE, the oscillator running, station time and roll timer as held, the
auto-sleep timer from zero, the line interface's idle, stuck and both-low counts (log 36) from zero and tLOW from zero where
the wake stretch is held (a line filter goes on with its count, log 41), each input's filter from its held level: no debounce
timer runs where the pin has that level, and it starts from zero where it has not (R149; R176 says otherwise of a held count,
log 16). -/
def Awake (s t : State) : Prop :=
  t.tsc = { s.tsc with power := .active, oscillator := true, waking := false, autoSleep := 0 }
    ∧ t.lif = { s.lif with idleTimer := 0, stbStuck := 0, datStuck := 0, bothLow := 0, startDetector := false
                           tLow := if s.lif.stretch then some 0 else none }
    ∧ t.pin.cfg = s.pin.cfg ∧ t.pin.outputs = s.pin.outputs
    ∧ ∀ i : Fin 4, t.input i = { s.input i with
        wakeArmed := false, timer := if (s.input i).pin = (s.input i).filtered then none else some 0 }

/-- The bus reset is recognised: the armed detector sees both lines high after low intervals shorter than tSTUCK (R19). -/
def Recognises (s : State) : Prop :=
  s.Running ∧ s.lif.armed = true ∧ s.lif.stbDrive = .released ∧ s.lif.datDrive = .released
    ∧ s.lif.stbInterval < s.cfg.tStuck.ticks ∧ s.lif.datInterval < s.cfg.tStuck.ticks

/-! ### A tick -/

/-- What the 2-tick filter of a line makes of the accepted level and its count (R2): a pin level that differs for the second
tick is accepted. -/
def Filtered (pin seen : Level) (count : Nat) (seen' : Level) (count' : Nat) : Prop :=
  if pin = seen then seen' = seen ∧ count' = 0
  else if count = 0 then seen' = seen ∧ count' = 1
  else seen' = pin ∧ count' = 0

/-- The stuck timer of a line and its last low interval (R15, R19): the timer counts while the line is seen low, from the
filter's 2 ticks at the fall, and restarts at the rise. -/
def StuckTimed (seen seen' : Level) (timer last timer' last' : Nat) : Prop :=
  match seen, seen' with
  | .low, .low => timer' = timer + 1 ∧ last' = last
  | .high, .low => timer' = 2 ∧ last' = last
  | .low, .high => timer' = 0 ∧ last' = timer
  | .high, .high => timer' = timer ∧ last' = last

/-- The station pulls STB at the tick: tHIGH has passed and STB is still seen high (R9, R11, R13). -/
def PullsStb (s t : State) : Prop :=
  s.mbr.membership ≠ .offline ∧ (s.lif.link = .round ∨ s.lif.link = .closing) ∧ s.lif.begun = false
    ∧ t.lif.stb = .high ∧ s.lif.stbDrive = .released ∧ ∃ n, s.lif.tHigh = some n ∧ s.cfg.tHigh.toNat ≤ n + 1

/-- The line interface through a tick: the filters (R2), the stuck timers (R15), the idle timer (R6), tLOW and tHIGH (R9 to
R11), the own pull of STB, the pulse timer (R17) and the both-low count (R18, log 34). -/
structure LinesTicked (s t : State) : Prop where
  stb : Filtered (s.setBus s.bus.advance).stbAtPin s.lif.stb s.lif.stbFilter t.lif.stb t.lif.stbFilter
  dat : Filtered (s.setBus s.bus.advance).datAtPin s.lif.dat s.lif.datFilter t.lif.dat t.lif.datFilter
  stbStuck : StuckTimed s.lif.stb t.lif.stb s.lif.stbStuck s.lif.stbLast t.lif.stbStuck t.lif.stbLast
  datStuck : StuckTimed s.lif.dat t.lif.dat s.lif.datStuck s.lif.datLast t.lif.datStuck t.lif.datLast
  idle : t.lif.idleTimer =
    if s.lif.link ≠ .seeking ∧ s.lif.link ≠ .idle ∧ s.lif.link ≠ .fault then s.lif.idleTimer
    else if t.lif.stb = .low ∨ t.lif.dat = .low then 0
    else if s.lif.stb = .low ∨ s.lif.dat = .low then 2
    else s.lif.idleTimer + 1
  pulled : PullsStb s t → t.lif.stbDrive = .low ∧ t.lif.tLow = some 0 ∧ t.lif.tHigh = none
  counted : ¬PullsStb s t →
    t.lif.tLow = s.lif.tLow.map (fun n => n + 1) ∧ t.lif.tHigh = s.lif.tHigh.map (fun n => n + 1)
      ∧ t.lif.stbDrive = if s.lif.link = .resetting ∧ t.lif.dat = .low then .low else s.lif.stbDrive
  pulse : t.lif.pulse =
    if s.lif.link ≠ .resetting then none
    else
      match s.lif.pulse with
      | some n => some (n + 1)
      | none => if t.lif.stb = .low ∧ t.lif.dat = .low then some 0 else none
  bothLow : t.lif.bothLow =
    if (s.lif.link ≠ .detached ∨ s.lif.ownPulse = true) ∧ t.lif.stb = .low ∧ t.lif.dat = .low then
      if s.lif.stb = .low ∧ s.lif.dat = .low then s.lif.bothLow + 1 else 2
    else 0

/-- The timers of station time through a tick, at whose end a microsecond has passed or not: the roll timer (R56), the
timeout timers (R81) and the auto-sleep timer (R179). -/
structure TimersTicked (s t : State) (micro : Bool) : Prop where
  roll : t.mbr.rollTimer = if micro = true ∧ (s.mbr.membership = .online ∨ s.mbr.membership = .leaving)
    ∧ s.cfg.rollPeriod ≠ 0#8 then s.mbr.rollTimer + 1 else s.mbr.rollTimer
  timeouts : ∀ i, (t.slot i).timer = if micro = true ∧ (s.slot i).state = .waiting ∧ (s.slot i).cfg.timeout ≠ 0#16
    then (s.slot i).timer + 1 else (s.slot i).timer
  autoSleep : t.tsc.autoSleep =
    if s.sleepOk = false ∨ s.cfg.autoSleep = 0 then 0
    else if micro then s.tsc.autoSleep + 1 else s.tsc.autoSleep

/-! ### Pin configurations -/

/-- The five bytes of input `i` carry a code that names no value, or a target above 31 that the binding uses (R140,
R185). -/
def InputRefused (bytes : List Byte) (i : Fin 4) : Prop :=
  let b (k : Nat) := (bytes.getD (5 * i.val + k) 0#8).toNat
  4 < b 0 % 8 ∨ 5 < b 1 % 8 ∨ (1 ≤ b 1 % 8 ∧ b 1 % 8 ≤ 4 ∧ 31 < b 2)

/-- The three bytes of output `o` carry a code that names no value, a target above 31 that the mode uses, or width 0 (R140,
R185). -/
def OutputRefused (bytes : List Byte) (o : Fin 4) : Prop :=
  let b (k : Nat) := (bytes.getD (20 + 3 * o.val + k) 0#8).toNat
  b 0 % 8 = 7 ∨ (1 ≤ b 0 % 8 ∧ b 0 % 8 ≤ 4 ∧ 31 < b 1) ∨ b 2 = 0

/-- The configuration that the bytes write to input `i` (12.6). -/
def InputWritten (bytes : List Byte) (i : Fin 4) (c : InputConfig) : Prop :=
  let b (k : Nat) := bytes.getD (5 * i.val + k) 0#8
  [Detection.rising, .falling, .both, .high, .low][(b 0).toNat % 8]? = some c.detection
    ∧ c.debounce = (b 0).getLsbD 4 ∧ c.wake = (b 0).getLsbD 5
    ∧ [Binding.off, .arrive, .flagSet, .flagClear, .flagFollow, .halt][(b 1).toNat % 8]? = some c.binding
    ∧ c.target = b 2 ∧ c.value = b 3 ++ b 4

/-- The configuration that the bytes write to output `o` (12.6). -/
def OutputWritten (bytes : List Byte) (o : Fin 4) (c : OutputConfig) : Prop :=
  let b (k : Nat) := bytes.getD (20 + 3 * o.val + k) 0#8
  (c.polarity = .activeLow ↔ (b 0).getLsbD 7 = true)
    ∧ [Mode.off, .pulse, .toggle, .waitLevel, .flag, .halted, .online][(b 0).toNat % 8]? = some c.mode
    ∧ c.target = b 1 ∧ c.width = b 2

/-! ### Rounds -/

/-- STB can rise in position 100 of the round `r`: its DIS is sampled next (R45). -/
def AtRoundEnd (s : State) (r : Round) : Prop :=
  s.Running ∧ s.lif.link = .round ∧ s.lif.begun = true ∧ s.lif.stbDrive = .released ∧ s.rnd.round = some r
    ∧ r.samples.length = 100

/-- The round `r` of class `c` and selector `n` ends, and the station has not dissented (R39). -/
def Accepts (s : State) (r : Round) (c : Class) (n : Fin 32) : Prop :=
  AtRoundEnd s r ∧ r.named = some (c, n) ∧ r.dissent.any = false

/-- The round is over and the station is in the closing high phase, tHIGH counted from the rise (R13, R22). -/
def Closing (t : State) : Prop :=
  t.rnd.round = none ∧ t.lif.link = .closing ∧ t.lif.begun = false ∧ t.lif.tHigh = some 2 ∧ t.lif.stb = .high

/-- The epoch of a slot at the end of an ARRIVE round, after any adoption of the sampled TAG (R98). -/
def Slot.epochAfter (x : Slot) (tag : BitVec 4) : BitVec 4 := if x.sync = .synced then x.epoch else tag

/-- The arrival of slot `n`, if an input is its source, has that input bound to ARRIVE with the slot as its target. -/
def SourceBound (n : SlotNo) (s : State) : Prop :=
  ∀ a k, (s.slot n).arrival = some a → a.source = .input k →
    (s.inputCfg k).binding = .arrive ∧ low5 (s.inputCfg k).target = n

/-- An attempt on slot `n`, once it is READY, passes the tests of R74. -/
def State.MayArrive (s : State) (n : SlotNo) : Prop :=
  s.mbr.membership = .online ∧ (s.slot n).cfg.enabled = true ∧ s.hlt.condition = .running
    ∧ (s.requiredNow n).getLsbD s.mbr.number.val = true

/-- The arrival of slot `n` has been withdrawn or has timed out (R79, R81): its entry is gone and its source disarmed, and
only a timeout, under policy HALT at an ONLINE and RUNNING station, makes the halt request with cause 0x8000 plus the slot, or
leaves the lower cause it had. -/
def ArrivalGone (n : SlotNo) (timeout : Prop) (s t : State) : Prop :=
  OtherSlots n s t ∧ hasEntry t.rnd.requests .arrive n = false ∧ t.pin = (s.disarmSource (s.slot n).arrival).pin
    ∧ (∀ c' n', (c', n') ≠ (.arrive, n) → (c', n') ≠ (.halt, 0) →
        findEntry t.rnd.requests c' n' = findEntry s.rnd.requests c' n')
    ∧ (timeout ∧ (s.slot n).cfg.policy = .halt ∧ s.mbr.membership = .online ∧ s.hlt.condition = .running →
        t.hlt = { s.hlt with request := some (match s.hlt.request with
            | some c => if 0x8000 + n.val < c.toNat then BitVec.ofNat 16 (0x8000 + n.val) else c
            | none => BitVec.ofNat 16 (0x8000 + n.val)) }
          ∧ hasEntry t.rnd.requests .halt 0 = true)
    ∧ (¬(timeout ∧ (s.slot n).cfg.policy = .halt ∧ s.mbr.membership = .online ∧ s.hlt.condition = .running) →
        t.hlt = s.hlt ∧ findEntry t.rnd.requests .halt 0 = findEntry s.rnd.requests .halt 0)
    ∧ Only [.lif, .slots, .rnd, .pin, .log, .ntf, .hlt] s t

/-- The station has gone OFFLINE by a cause that leaves the link DETACHED (R62). -/
def WentOffline (s t : State) : Prop :=
  t.mbr = { s.mbr with membership := .offline, roster := 0#32, rollTimer := 0, nonce := none }
    ∧ t.rnd = { requests := [], round := none }
    ∧ t.flg = { word := 0#32, sync := .unsynced, setReq := 0#32, clearReq := 0#32 }
    ∧ t.hlt = Hlt.clear .running
    ∧ (∀ i, (s.slot i).cfg.enabled = true → t.slot i = (s.slot i).rebase .unsynced)
    ∧ (∀ i, (s.slot i).cfg.enabled = false → t.slot i = s.slot i)

/-! ### Properties that every step keeps -/

/-- The log holds from 0 to 16 records (R154). -/
def LogBounded (s : State) : Prop := s.log.records.length ≤ 16

/-- The station takes part in rounds as a member. -/
abbrev Member (s : State) : Prop := s.mbr.membership = .online ∨ s.mbr.membership = .leaving

/-- The flag unit: S and C share no bit and are empty at a station that is not ONLINE or LEAVING; the FLAGS entry is held
exactly while one of them is not empty; the word is SYNCED exactly at a member (R112, R113, R114). -/
structure FlagUnitOk (s : State) : Prop where
  disjoint : s.flg.setReq &&& s.flg.clearReq = 0#32
  empty : ¬Member s → s.flg.setReq = 0#32 ∧ s.flg.clearReq = 0#32
  entry : hasEntry s.rnd.requests .flags 0 = true ↔ s.flg.setReq ||| s.flg.clearReq ≠ 0#32
  synced : s.flg.sync = .synced ↔ Member s

/-- The request list: strictly ascending identities, so one entry at most for each class and selector; empty at an OFFLINE
station and a JOIN entry at most at a JOINING one; an ARRIVE entry only for a WAITING slot; selector 0, or the station's own
number in a JOIN entry, where the class names no slot, and so at most 37 entries; void counts within the retry limits, and
these from 0 to 3 (R28, R31, R41, R51). -/
structure RequestsOk (s : State) : Prop where
  ascending : s.rnd.requests.Pairwise fun a b => a.identity < b.identity
  offline : s.mbr.membership = .offline → s.rnd.requests = []
  joining : s.mbr.membership = .joining → ∀ e ∈ s.rnd.requests, e.cls = .join
  arrive : ∀ i, hasEntry s.rnd.requests .arrive i = true → (s.slot i).state = .waiting
  selectors : ∀ e ∈ s.rnd.requests, (e.cls ≠ .arrive → e.cls ≠ .join → e.sel = 0) ∧ (e.cls = .join → e.sel = s.mbr.number)
  capacity : s.rnd.requests.length ≤ 37
  voids : ∀ e ∈ s.rnd.requests, e.voids ≤ s.retryLimit e.cls e.sel
  limits : s.cfg.retry ≤ 3 ∧ ∀ i, (s.slot i).cfg.retry ≤ 3

/-- The slots: an arrival record exactly while WAITING, on an enabled slot, at a member and not while HALTED, where no halt
request stands either; what marks an arrival is no while there is none; an arrival's source input is bound to the slot (R69,
R70, R125, R143). -/
structure SlotsOk (s : State) : Prop where
  arrival : ∀ i, (s.slot i).state = .waiting ↔ (s.slot i).arrival.isSome = true
  marks : ∀ i, (s.slot i).state ≠ .waiting →
    (s.slot i).published = false ∧ (s.slot i).committed = false ∧ (s.slot i).withdrawPending = false
      ∧ (s.slot i).timeoutPending = false
  enabled : ∀ i, (s.slot i).state = .waiting → (s.slot i).cfg.enabled = true
  source : ∀ i, SourceBound i s
  member : ∀ i, (s.slot i).state = .waiting → Member s
  halted : s.hlt.condition = .halted → (∀ i, (s.slot i).state ≠ .waiting) ∧ s.hlt.request = none
  request : s.hlt.request.isSome = true → Member s

/-- The station drives a line low only in RESETTING, or on the bus in ROUND, CLOSING or, DAT alone, starting a round (R5). -/
structure DriversOk (s : State) : Prop where
  stb : s.lif.stbDrive = .low →
    s.lif.link = .resetting ∨ s.OnBus ∧ (s.lif.link = .round ∨ s.lif.link = .closing)
  dat : s.lif.datDrive = .low →
    s.lif.link = .resetting ∨ s.OnBus ∧ (s.lif.link = .idle ∨ s.lif.link = .round ∨ s.lif.link = .closing)

/-- The auto-sleep timer is zero while the station is ACTIVE and a sleep condition fails or auto-sleep is off (R179). -/
def AutoSleepHeld (s : State) : Prop :=
  s.tsc.power = .active → s.sleepOk = false ∨ s.cfg.autoSleep = 0 → s.tsc.autoSleep = 0

end Sys2Proof.Machine
end

