-- ==== Sys2Proof/Certificates/Slice0/Obligations.lean ====
section
/-! DEFINITION. The statements about the TMK410 model that are handed to the provers. -/

open Sys2Proof Sys2Proof.Machine

/-! ### Steps -/

/-- A step takes the command at the front of the queue and executes it with the queue's rest. -/
def Obligations.StepExecutesTheFrontCommand : Prop :=
  ∀ (c : Instr) (rest : List Instr) (s : State), s.pending = c :: rest → step s = exec c (s.setPending rest)

/-- With no command waiting and the blocks running, a tick passes (log 8, the model's choice of when): sixteen ticks are a
microsecond of station time. The filters and the timers of the lines count as LinesTicked says, those of station time as
TimersTicked says, and the queue then holds the rows that come due of the station so counted, State.due, in its order (log 8;
for two edges of one tick logs 37 and 38, the model's choices). The timers of station time step as a microsecond ends, those of
the pins count ticks from their own start (log 40, the model's choice).
The detector may disarm, and an exemption end; no other field of the pin unit, of the timebase, of the line interface or of
any block changes, but for the command port and the log while CSN is low (R165). Station time stands in SLEEP and in the
internal reset as the same span passes: only the port changes there, and in SLEEP the levels at the bus pins, and the queue,
which ASYNC_START joins where the armed detector sees DAT fall with STB high (R182; log 35, the model's choice). -/
def Obligations.EmptyQueuePassesATick : Prop :=
  (∀ s : State, s.pending = [] → s.Running → ∃ t, step s = .next t
    ∧ t.pending = t.due s.lif (decide (16 ≤ s.tsc.subTicks + 1))
    ∧ LinesTicked s t ∧ TimersTicked s t (decide (16 ≤ s.tsc.subTicks + 1)) ∧ t.bus = s.bus.advance
    ∧ t.tsc = { s.tsc with
        time := if s.tsc.subTicks + 1 < 16 then s.tsc.time else s.tsc.time + 1
        subTicks := if s.tsc.subTicks + 1 < 16 then s.tsc.subTicks + 1 else 0
        autoSleep := t.tsc.autoSleep }
    ∧ t.mbr = { s.mbr with rollTimer := t.mbr.rollTimer }
    ∧ (∀ i, t.slot i = { s.slot i with timer := (t.slot i).timer })
    ∧ t.pin.cfg = s.pin.cfg
    ∧ (∀ i, t.input i = { s.input i with timer := (s.input i).timer.map fun n => n + 1 })
    ∧ (∀ o, t.output o = { s.output o with pulse := (s.output o).pulse.map fun n => n + 1 })
    ∧ t.lif.link = s.lif.link ∧ t.lif.datDrive = s.lif.datDrive ∧ t.lif.begun = s.lif.begun
    ∧ t.lif.stretch = s.lif.stretch ∧ t.lif.startDetector = s.lif.startDetector
    ∧ (t.lif.armed = true → s.lif.armed = true) ∧ (t.lif.ownPulse = true → s.lif.ownPulse = true)
    ∧ (t.lif.stbExempt = true → s.lif.stbExempt = true) ∧ (t.lif.datExempt = true → s.lif.datExempt = true)
    ∧ (s.cmd.transfer = none → t.cmd = s.cmd ∧ t.log = s.log)
    ∧ t.cmd.last = s.cmd.last ∧ t.cmd.sdo = s.cmd.sdo ∧ t.log.next = s.log.next
    ∧ Frame [.lif, .pin, .tsc, .mbr, .slots, .cmd, .log, .bus, .spi, .pending] s t)
  ∧ (∀ s : State, s.pending = [] → s.tsc.power = .sleep ∨ s.tsc.inReset = true → ∃ t, step s = .next t
    ∧ t.bus = s.bus.advance
    ∧ (s.tsc.inReset = true → t.lif = s.lif ∧ t.pending = [])
    ∧ (s.tsc.inReset = false →
        t.lif = { s.lif with stbPin := (s.setBus s.bus.advance).stbAtPin, datPin := (s.setBus s.bus.advance).datAtPin }
          ∧ t.pending =
            if s.lif.startDetector = true ∧ s.lif.datPin = .high ∧ t.lif.datPin = .low ∧ t.lif.stbPin = .high
            then [.asyncStart] else [])
    ∧ (s.cmd.transfer = none → t.cmd = s.cmd ∧ t.log = s.log)
    ∧ t.cmd.last = s.cmd.last ∧ t.cmd.sdo = s.cmd.sdo ∧ t.log.next = s.log.next
    ∧ Frame [.lif, .cmd, .log, .bus, .spi, .pending] s t)

/-- No rule stops the station: every command and every event answers a next state, also where its event cannot occur (log 7,
the model's choice), and leaves the queue, the peers' side of the bus and the levels still to come at the port alone (log 9,
the model's choice). -/
def Obligations.EveryCommandAnswersAndKeepsTheQueue : Prop :=
  ∀ (c : Instr) (s : State), ∃ t, exec c s = .next t ∧ t.pending = s.pending ∧ t.bus = s.bus ∧ t.spi.feed = s.spi.feed

/-- What only its own commands change: the three configurations change by their writes and at a station reset alone, the
station number at a reset; a record leaves the log by READ LOG or a reset alone (R154, R158), a kind its pending set by CLEAR
EVENTS or a reset, a mask changes by SET MASK, CLEAR MASK or a reset (R161). The transfer in progress is sound (an
invariant, EveryStepKeepsTheLogBoundedAndThePortSound). -/
def Obligations.OnlyTheirCommandsChangeConfigurationsRecordsAndMasks : Prop :=
  ∀ (c : Instr) (s t : State), PortSound s → exec c s = .next t → (∀ p, c ≠ .internalResetEnd p) →
    t.mbr.number = s.mbr.number
    ∧ ((∀ b, c ≠ .writeStationConfig b) → t.cfg = s.cfg)
    ∧ ((∀ i b, c ≠ .writeSlotConfig i b) → ∀ i, (t.slot i).cfg = (s.slot i).cfg)
    ∧ ((∀ b, c ≠ .writePinConfig b) → c ≠ .powerOn → c ≠ .resetn → c ≠ .softReset → t.pin.cfg = s.pin.cfg)
    ∧ ((∀ n, c ≠ .readLog n) → (∀ b n, c ≠ .transferDiscarded b n) → s.log.records <+: t.log.records)
    ∧ ((∀ l k, c ≠ .clearEvents l k) → s.ntf.pendA &&& ~~~t.ntf.pendA = 0#9 ∧ s.ntf.pendB &&& ~~~t.ntf.pendB = 0#9)
    ∧ ((∀ l k, c ≠ .setMask l k) → (∀ l k, c ≠ .clearMask l k) → t.ntf.maskA = s.ntf.maskA ∧ t.ntf.maskB = s.ntf.maskB)

/-! ### Formats -/

/-- Every well-formed command of the port is read back whole, with its operands, from the bytes that carry it (12.2). -/
def Obligations.PortReadsBackEveryCommand : Prop :=
  ∀ (i : Instr) (opcode : Byte) (rest : List Byte), i.wellFormed = true → encodeCommand i = some (opcode :: rest) →
    namesCommand opcode = true ∧ decodeCommand opcode rest = some i ∧ judge (opcode :: rest) 0 = .whole i

/-- A configuration that a write can set is read back as the bytes that write it, and these set it again. -/
def Obligations.ConfigurationsReadBack : Prop :=
  (∀ c : StationConfig, c.valid = true → parseStationConfig (stationConfigBytes c) = some c)
    ∧ (∀ c : SlotConfig, c.valid = true → parseSlotConfig (slotConfigBytes c) = some c)
    ∧ ∀ c : PinConfig,
        (∀ i : Fin 4, c.inputs[i].binding.usesTarget = true → c.inputs[i].target.toNat < 32) →
        (∀ o : Fin 4, (c.outputs[o].mode.usesTarget = true → c.outputs[o].target.toNat < 32) ∧ c.outputs[o].width ≠ 0#8) →
        parsePinConfig (pinConfigBytes c) = some c

/-- The READ STATUS snapshot, byte by byte (R172, 12.3). The status byte (R166, 12.3): the last outcome, or ASLEEP in
SLEEP, then membership, HALTED and log non-empty; 0xFF during the internal reset. -/
def Obligations.StatusIsLaidOutAsTheTableSays : Prop :=
  (∀ s : State, ∃ b0 b1 b2 b3 b4 b5 b6 : Byte,
    statusBytes s = [b0, b1, b2, b3, b4, b5, b6] ++ wordBytes s.tsc.time
      ∧ b0.toNat = 64 * s.tsc.cause.code + s.mbr.number.val
      ∧ b1.toNat = 64 * s.mbr.membership.code + s.lif.link.code
      ∧ b2.getLsbD 7 = (s.hlt.condition == .halted) ∧ b2.getLsbD 6 = s.hlt.commandHold
      ∧ b2.getLsbD 5 = s.hlt.resumePending ∧ b2.getLsbD 4 = false ∧ b2.extractLsb' 0 4 = s.hlt.inputHold
      ∧ (s.rnd.requests.length ≤ 37 → b3.toNat = s.rnd.requests.length)
      ∧ (s.log.records.length ≤ 16 → b4.toNat = s.log.records.length)
      ∧ (∀ i : Fin 4, b5.getLsbD (4 + i.val) = (s.input i).armed
          ∧ b5.getLsbD i.val = ((s.input i).filtered == .high) ∧ b6.getLsbD i.val = s.outputActive i)
      ∧ b6.extractLsb' 4 4 = 0#4)
  ∧ (∀ s : State,
    (s.tsc.inReset = true → s.statusByte = 0xFF#8)
      ∧ (s.tsc.inReset = false →
          s.statusByte.toNat / 16 = (if s.tsc.power = .sleep then 14 else s.cmd.last.code)
            ∧ s.statusByte.toNat / 4 % 4 = s.mbr.membership.code
            ∧ s.statusByte.getLsbD 1 = (s.hlt.condition == .halted)
            ∧ s.statusByte.getLsbD 0 = !s.log.records.isEmpty))

/-! ### Log and notification -/

/-- A record that is offered (R155): filtered out without a trace; or produced with the next sequence number and the
station time, and appended with a RECORD event; or dropped with an OVERRUN event when the log holds 16 records, its
number spent. An event is latched into both pending sets, a SLOT event into those its slot's notify switches name,
whatever the masks (R161, R68). A slot's record is offered while its log switch for records is on, its PROGRESS record while
that for progress is, and a PROGRESS record raises no SLOT event (R68). -/
def Obligations.RecordsAndEventsAreReported : Prop :=
  (∀ (s : State) (k : Kind) (sel : Fin 32) (tag : Byte) (set : Set32) (v : Half),
    (s.cfg.filter.getLsbD k.group = false → s.offer k sel tag set v = s)
      ∧ (s.cfg.filter.getLsbD k.group = true →
          Frame [.log, .ntf] s (s.offer k sel tag set v)
            ∧ (s.offer k sel tag set v).log.next = s.log.next + 1
            ∧ (s.log.records.length < 16 →
                (s.offer k sel tag set v).log.records
                    = s.log.records ++ [{ seq := s.log.next, kind := k, sel, tag, set, value := v, time := s.tsc.time }]
                  ∧ (s.offer k sel tag set v).ntf
                    = { s.ntf with pendA := s.ntf.pendA ||| 0x002#9, pendB := s.ntf.pendB ||| 0x002#9 })
            ∧ (16 ≤ s.log.records.length →
                (s.offer k sel tag set v).log.records = s.log.records
                  ∧ (s.offer k sel tag set v).ntf
                    = { s.ntf with pendA := s.ntf.pendA ||| 0x004#9, pendB := s.ntf.pendB ||| 0x004#9 })))
  ∧ (∀ s : State,
    (∀ e : Event, (s.raise e).ntf.pendA = s.ntf.pendA ||| 1#9 <<< e.bit ∧ (s.raise e).ntf.pendB = s.ntf.pendB ||| 1#9 <<< e.bit
        ∧ (s.raise e).ntf.maskA = s.ntf.maskA ∧ (s.raise e).ntf.maskB = s.ntf.maskB ∧ Frame [.ntf] s (s.raise e))
      ∧ ∀ i : SlotNo,
        (s.raiseSlot i).ntf.pendA = (if (s.slot i).cfg.notifyA then s.ntf.pendA ||| 1#9 else s.ntf.pendA)
          ∧ (s.raiseSlot i).ntf.pendB = (if (s.slot i).cfg.notifyB then s.ntf.pendB ||| 1#9 else s.ntf.pendB)
          ∧ (s.raiseSlot i).ntf.maskA = s.ntf.maskA ∧ (s.raiseSlot i).ntf.maskB = s.ntf.maskB
          ∧ Frame [.ntf] s (s.raiseSlot i))
  ∧ (∀ (s : State) (i : SlotNo) (k : Kind) (tag : Byte) (set : Set32) (v : Half),
    ((s.slot i).cfg.logRecords = true → s.offerSlot i k tag set v = (s.offer k i tag set v).raiseSlot i)
      ∧ ((s.slot i).cfg.logRecords = false → s.offerSlot i k tag set v = s.raiseSlot i))
  ∧ ∀ (s : State) (i : SlotNo) (r : Round),
    ((s.slot i).cfg.logProgress = true →
        s.offerProgress i r = s.offer .progress i ((s.slot i).epoch.setWidth 8) r.setA r.val)
      ∧ ((s.slot i).cfg.logProgress = false → s.offerProgress i r = s)

/-- SET MASK and CLEAR MASK (R163): the named kinds enter or leave the mask of the line with OK in every membership and
condition, another line code is refused with OPERAND, no pending set changes, and NA and NB are low exactly while the pending
set and the mask of their line share a kind. CLEAR EVENTS (9.4): the named kinds leave the pending set of the line, nothing
else changes; another line code is refused with OPERAND. -/
def Obligations.EventCommandsChangeMasksAndPendingSets : Prop :=
  (∀ (line : Byte) (kinds : Half) (s : State),
    (PortActive (.setMask line kinds) s → ∃ t, exec (.setMask line kinds) s = .next t
      ∧ (line = 0#8 → Wrote 3 .ok [.ntf] s t ∧ t.ntf = { s.ntf with maskA := s.ntf.maskA ||| kinds.extractLsb' 0 9 })
      ∧ (line = 1#8 → Wrote 3 .ok [.ntf] s t ∧ t.ntf = { s.ntf with maskB := s.ntf.maskB ||| kinds.extractLsb' 0 9 })
      ∧ (2 ≤ line.toNat → Refused 3 .operand s t)
      ∧ (t.naLow = true ↔ t.ntf.pendA &&& t.ntf.maskA ≠ 0#9) ∧ (t.nbLow = true ↔ t.ntf.pendB &&& t.ntf.maskB ≠ 0#9))
    ∧ (PortActive (.clearMask line kinds) s → ∃ t, exec (.clearMask line kinds) s = .next t
      ∧ (line = 0#8 → Wrote 3 .ok [.ntf] s t ∧ t.ntf = { s.ntf with maskA := s.ntf.maskA &&& ~~~(kinds.extractLsb' 0 9) })
      ∧ (line = 1#8 → Wrote 3 .ok [.ntf] s t ∧ t.ntf = { s.ntf with maskB := s.ntf.maskB &&& ~~~(kinds.extractLsb' 0 9) })
      ∧ (2 ≤ line.toNat → Refused 3 .operand s t)
      ∧ (t.naLow = true ↔ t.ntf.pendA &&& t.ntf.maskA ≠ 0#9) ∧ (t.nbLow = true ↔ t.ntf.pendB &&& t.ntf.maskB ≠ 0#9)))
  ∧ (∀ (line : Byte) (kinds : Half) (s : State), PortActive (.clearEvents line kinds) s → ∃ t, exec (.clearEvents line kinds) s = .next t
    ∧ (line = 0#8 → Wrote 3 .ok [.ntf] s t
        ∧ t.ntf = { s.ntf with pendA := s.ntf.pendA &&& ~~~(kinds.extractLsb' 0 9) })
    ∧ (line = 1#8 → Wrote 3 .ok [.ntf] s t
        ∧ t.ntf = { s.ntf with pendB := s.ntf.pendB &&& ~~~(kinds.extractLsb' 0 9) })
    ∧ (2 ≤ line.toNat → Refused 3 .operand s t))

/-! ### Reads -/

/-- The reads without operand (R170) shift out their snapshot and then 0x00, record OK and change nothing of their owners. The
snapshot is taken as its first byte begins: by the row where that is still to come (log 11), else it is the one in the
buffer. -/
def Obligations.FixedReadsShiftOutTheirSnapshot : Prop :=
  ∀ (n : Nat) (s : State),
    (PortActive (.readStatus n) s → ∃ data t, exec (.readStatus n) s = .next t
        ∧ Prefixed (s.copyOf (statusBytes s)) n data ∧ ReadOut data s t)
      ∧ (PortActive (.readRoster n) s → ∃ data t, exec (.readRoster n) s = .next t
          ∧ Prefixed (s.copyOf (wordBytes s.mbr.roster)) n data ∧ ReadOut data s t)
      ∧ (PortActive (.readFlags n) s → ∃ data t, exec (.readFlags n) s = .next t ∧ ReadOut data s t
          ∧ Prefixed (s.copyOf (wordBytes s.flg.word ++ [if s.flg.sync = .synced then 1#8 else 0#8]
              ++ wordBytes s.flg.setReq ++ wordBytes s.flg.clearReq)) n data)
      ∧ (PortActive (.readEvents n) s → ∃ data t, exec (.readEvents n) s = .next t ∧ ReadOut data s t
          ∧ Prefixed (s.copyOf (halfBytes (s.ntf.pendA.setWidth 16) ++ halfBytes (s.ntf.pendB.setWidth 16)
              ++ halfBytes (s.ntf.maskA.setWidth 16) ++ halfBytes (s.ntf.maskB.setWidth 16))) n data)
      ∧ (PortActive (.readStationConfig n) s → ∃ data t, exec (.readStationConfig n) s = .next t
          ∧ Prefixed (s.copyOf (stationConfigBytes s.cfg)) n data ∧ ReadOut data s t)
      ∧ (PortActive (.readPinConfig n) s → ∃ data t, exec (.readPinConfig n) s = .next t
          ∧ Prefixed (s.copyOf (pinConfigBytes s.pin.cfg)) n data ∧ ReadOut data s t)

/-- READ SLOT and READ SLOT CONFIG (R171) stream the slots from the operand on, from 31 to 0; an operand above 31 reads as
0x00 and records OPERAND. The row takes the snapshots whose first byte has not begun (log 11); the one begun is in the
buffer. The slot record (12.4, R186), for a slot that holds an arrival exactly while it is WAITING (R69). -/
def Obligations.SlotReadsStreamTheSlots : Prop :=
  (∀ (slot : Byte) (n : Nat) (s : State), slot.toNat < 32 →
    (PortActive (.readSlot slot n) s → ∃ data t, exec (.readSlot slot n) s = .next t ∧ ReadOut (0#8 :: data) s t
        ∧ data.length = n
        ∧ ∀ j, j < n → data[j]? = some ((if 26 * (j / 26) + 2 < s.shown.length then s.cmd.snapshot
            else slotBytes s (Fin.ofNat 32 (slot.toNat + j / 26))).getD (j % 26) 0#8))
    ∧ (PortActive (.readSlotConfig slot n) s → ∃ data t, exec (.readSlotConfig slot n) s = .next t
        ∧ ReadOut (0#8 :: data) s t ∧ data.length = n
        ∧ ∀ j, j < n → data[j]? = some ((if 8 * (j / 8) + 2 < s.shown.length then s.cmd.snapshot
            else slotConfigBytes (s.slot (Fin.ofNat 32 (slot.toNat + j / 8))).cfg).getD (j % 8) 0#8)))
  ∧ (∀ (slot : Byte) (n : Nat) (s : State), 32 ≤ slot.toNat →
    (PortActive (.readSlot slot n) s → ∃ t, exec (.readSlot slot n) s = .next t ∧ Refused (n + 1) .operand s t)
    ∧ (PortActive (.readSlotConfig slot n) s → ∃ t, exec (.readSlotConfig slot n) s = .next t ∧ Refused (n + 1) .operand s t))
  ∧ ∀ (s : State) (i : SlotNo), ((s.slot i).state = .waiting ↔ (s.slot i).arrival.isSome = true) →
    ∃ b1 b2 b25 : Byte, ∃ arrival result : List Byte,
      slotBytes s i = [BitVec.ofNat 8 i.val, b1, b2] ++ arrival ++ wordBytes (s.slot i).lastSeen ++ result ++ [b25]
      ∧ b1.extractLsb' 4 4 = (s.slot i).epoch ∧ b1.getLsbD 3 = false ∧ b1.getLsbD 2 = ((s.slot i).sync == .synced)
      ∧ (b1.extractLsb' 0 2).toNat = (match (s.slot i).state with | .disabled => 0 | .ready => 1 | .waiting => 2 | .fault => 3)
      ∧ (∀ e, findEntry s.rnd.requests .arrive i = some e → e.voids ≤ 3 → b2.toNat / 64 = e.voids)
      ∧ (findEntry s.rnd.requests .arrive i = none → b2.toNat / 64 = 0 ∧ b25 = 0#8)
      ∧ b2.getLsbD 5 = (s.slot i).result.isSome ∧ b2.getLsbD 4 = ((s.slot i).state == .waiting)
      ∧ b2.getLsbD 3 = (s.slot i).timeoutPending ∧ b2.getLsbD 2 = (s.slot i).withdrawPending
      ∧ b2.getLsbD 1 = (s.slot i).committed ∧ b2.getLsbD 0 = (s.slot i).published
      ∧ ((s.slot i).state ≠ .waiting → arrival = List.replicate 7 0#8)
      ∧ (∀ a, (s.slot i).arrival = some a → arrival
          = [match a.source with | .command => 0#8 | .input k => BitVec.ofNat 8 (1 + k.val)] ++ halfBytes a.value
            ++ wordBytes a.time)
      ∧ ((s.slot i).result = none → result = List.replicate 11 0#8)
      ∧ (∀ r, (s.slot i).result = some r → result
          = [r.epoch.setWidth 8] ++ wordBytes r.arrived ++ halfBytes r.agreed ++ wordBytes r.time)
      ∧ b25.extractLsb' 2 6 = 0#6 ∧ b25.getLsbD 0 = (findEntry s.rnd.requests .arrive i).isSome
      ∧ b25.getLsbD 1 = ((s.slot i).probe && (findEntry s.rnd.requests .arrive i).isSome)

/-- READ LOG (R157, R158): the oldest records in order and then NONE records; every record shifted out in full is removed. The
row takes the snapshots whose first byte has not begun (log 11): `begun` units have begun, and the one in progress holds a
record where the transfer says so. The layout of a record and the codes of its kinds (12.5). -/
def Obligations.ReadLogRemovesTheRecordsItShiftsOut : Prop :=
  (∀ (n : Nat) (s : State), PortActive (.readLog n) s → ∃ data t, exec (.readLog n) s = .next t
    ∧ Answered .ok data s t ∧ TscQuiet s t ∧ Frame [.cmd, .tsc, .log] s t ∧ data.length = n
    ∧ let begun := (s.shown.length + 12) / 14
      let held := if s.shiftsRecord then 1 else 0
      (t.log = { s.log with records :=
          if n / 14 < begun then s.log.records else s.log.records.drop (held + (n / 14 - begun)) })
      ∧ ∀ j, j < n → data[j]? = some (
          (if j / 14 < begun then s.cmd.snapshot
          else match s.log.records[held + (j / 14 - begun)]? with
            | some r => recordBytes r
            | none => noneBytes s).getD (j % 14) 0#8))
  ∧ (∀ r : Record, recordBytes r
      = [r.seq, BitVec.ofNat 8 r.kind.code, BitVec.ofNat 8 r.sel.val, r.tag] ++ wordBytes r.set ++ halfBytes r.value
        ++ wordBytes r.time)
  ∧ (∀ s : State, noneBytes s = [s.log.next] ++ List.replicate 9 0#8 ++ wordBytes s.tsc.time)
  ∧ [Kind.complete, .progress, .fault, .timeout, .aborted, .withdrawn, .tooLate, .joined, .joinRefused, .left, .roster, .halt,
      .resume, .resumeRefused, .flags, .void, .dropped, .framing, .busReset, .busFault].map Kind.code = List.range' 1 20

/-! ### Port framing -/

/-- TRANSFER_START (R165, R166): CSN falls on a free port; the mode is taken from SCK, the status byte is a snapshot, and
the transfer is handled as the station then stands (R174, R175). A transfer in progress is left alone, and SDO is released
while none is. SCK edges, one at most in a tick (log 31): a rising one samples SDI, the eighth completes the byte, and the
last bit of a record removes it (R157); a falling one changes SDO, and begins the next byte where one is complete, with a
snapshot taken then (R157, R170, R171), 0x00 for a write, in SLEEP 0x00 (R175) and in the internal reset 0xFF (R174).
TRANSFER_DISCARDED and UNKNOWN_OPCODE in ACTIVE (R168): with no SCK edge the last outcome stands; off a byte boundary
or with the wrong number of operand bytes DISCARDED is recorded, with an opcode of no command UNKNOWN; nothing is
handed on, but READ LOG has removed what it shifted out in full (R158). -/
def Obligations.TransfersAreFramedClockedAndJudged : Prop :=
  (∀ (sck : Level) (s : State), ∃ t, exec (.transferStart sck) s = .next t ∧ Only [.cmd, .spi] s t
    ∧ (s.cmd.transfer ≠ none → t.cmd = s.cmd ∧ t.spi = s.spi)
    ∧ (s.cmd.transfer = none → t.cmd.last = s.cmd.last ∧ t.cmd.sdo = s.cmd.sdo ∧ t.cmd.snapshot = s.cmd.snapshot
        ∧ t.spi = { s.spi with sck := sck }
        ∧ ∃ x, t.cmd.transfer = some x ∧ x.out = s.statusByte ∧ x.clocked = 0
          ∧ x.received = [] ∧ x.bits = [] ∧ x.sent = [] ∧ x.record = false
          ∧ (x.mode = .mode0 ↔ sck = .low) ∧ (x.mode = .mode3 ↔ sck = .high)
          ∧ (s.tsc.inReset = true → x.handling = .ignored)
          ∧ (s.tsc.inReset = false ∧ s.tsc.power = .active → x.handling = .active)
          ∧ (s.tsc.inReset = false ∧ s.tsc.power = .sleep → x.handling = .asleep)))
  ∧ (∀ s : State, s.sdoPin = none ↔ s.cmd.transfer = none)
  ∧ (∀ (s : State) (x : Transfer) (sck sdi : Level) (feed : List (Level × Level)), s.pending = [] →
    s.cmd.transfer = some x → x.Sound → s.spi.feed = (sck, sdi) :: feed →
    ∃ t y, step s = .next t ∧ t.spi = { sck := sck, sdi := sdi, feed := feed }
      ∧ t.cmd.transfer = some y ∧ y.mode = x.mode ∧ y.handling = x.handling
      ∧ (s.spi.sck = sck → t.cmd = s.cmd ∧ t.log = s.log)
      ∧ (s.spi.sck = .low → sck = .high → x.clocked < 7 →
          y.out = x.out ∧ y.clocked = x.clocked + 1 ∧ y.sent = x.sent ∧ y.received = x.received
            ∧ (x.handling ≠ .ignored → y.bits = x.bits ++ [sdi])
            ∧ t.cmd.snapshot = s.cmd.snapshot ∧ t.log = s.log)
      ∧ (s.spi.sck = .low → sck = .high → x.clocked = 7 →
          y.clocked = 8 ∧ y.sent = x.sent ++ [x.out] ∧ y.bits = []
            ∧ (x.handling ≠ .ignored → ∃ b, y.received = x.received ++ [b] ∧ bitsOf b = x.bits ++ [sdi])
            ∧ t.cmd.snapshot = s.cmd.snapshot ∧ t.log.next = s.log.next
            ∧ t.log.records = if x.record = true ∧ x.received.length % 14 = 0 then s.log.records.drop 1 else s.log.records)
      ∧ (s.spi.sck = .high → sck = .low → t.log = s.log ∧ (x.clocked < 8 → t.cmd = s.cmd))
      ∧ (s.spi.sck = .high → sck = .low → x.clocked = 8 →
          y.clocked = 0 ∧ y.sent = x.sent ∧ y.received = x.received ∧ y.bits = x.bits
            ∧ (x.handling = .asleep → y.out = 0x00#8)
            ∧ (x.handling = .ignored → s.tsc.inReset = true → y.out = 0xFF#8)
            ∧ (x.handling = .active →
                (∀ rest, x.received = 0x06#8 :: rest →
                  t.cmd.snapshot = (if rest.length % 14 = 0 then
                      (match s.log.records with | r :: _ => recordBytes r | [] => noneBytes s) else s.cmd.snapshot)
                    ∧ y.out = t.cmd.snapshot.getD (rest.length % 14) 0#8
                    ∧ (rest.length % 14 = 0 → (y.record = true ↔ s.log.records ≠ [])))
                ∧ (∀ slot rest, x.received = 0x05#8 :: slot :: rest → slot.toNat < 32 →
                  t.cmd.snapshot = (if rest.length % 26 = 0 then slotBytes s (Fin.ofNat 32 (slot.toNat + rest.length / 26))
                      else s.cmd.snapshot)
                    ∧ y.out = t.cmd.snapshot.getD (rest.length % 26) 0#8)
                ∧ (∀ rest, x.received = 0x01#8 :: rest →
                  t.cmd.snapshot = (if rest = [] then statusBytes s else s.cmd.snapshot)
                    ∧ y.out = t.cmd.snapshot.getD rest.length 0#8)
                ∧ (∀ opcode rest, x.received = opcode :: rest → 0x10 ≤ opcode.toNat → y.out = 0x00#8))))
  ∧ (∀ s : State, s.Running → PortOpen .active [] 0 0 s →
    ∃ t, exec (.transferDiscarded [] 0) s = .next t ∧ t.cmd = { s.cmd with transfer := none, sdo := [] } ∧ Only [.cmd] s t)
  ∧ (∀ (sdi : List Byte) (extraBits : Nat) (s : State), (Instr.transferDiscarded sdi extraBits).wellFormed = true →
    s.Running → PortOpen .active sdi 0 extraBits s → judge sdi extraBits = .discarded → ∃ t, exec (.transferDiscarded sdi extraBits) s = .next t
        ∧ t.cmd.transfer = none ∧ t.cmd.last = .discarded ∧ t.cmd.sdo.length = sdi.length
        ∧ t.cmd.sdo.take s.shown.length = s.shown.take sdi.length ∧ TscQuiet s t
        ∧ (∀ rest, sdi = 0x06#8 :: rest → Frame [.cmd, .tsc, .log] s t ∧ t.log.next = s.log.next
            ∧ (s.cmd.transfer = none → t.log.records = s.log.records.drop (rest.length / 14))
            ∧ t.log.records <:+ s.log.records)
        ∧ (sdi.head? ≠ some 0x06#8 → Frame [.cmd, .tsc] s t))
  ∧ ∀ (opcode : Byte) (n : Nat) (s : State), s.Running → PortOpen .active [opcode] n 0 s → namesCommand opcode = false →
    ∃ t, exec (.unknownOpcode opcode n) s = .next t ∧ Refused n .unknown s t

/-- In SLEEP the port ignores every command but WAKE (R175): the status byte shows ASLEEP, 0x00 follows, no outcome is
recorded and nothing else changes. A transfer that a reset cuts, or whose CSN falls during it, is ignored to its end (R174):
SDO shifts 0xFF for as long as CSN is low, no outcome is recorded and nothing else changes. Nor is one recorded, or anything
else changed, for a discarded or unknown transfer. -/
def Obligations.SleepAndResetIgnoreCommands : Prop :=
  (∀ (c : Instr) (bytes : List Byte) (s : State), encodeCommand c = some bytes → c ≠ .wake → PortAsleep c s →
    ∃ t, exec c s = .next t ∧ Shifted (List.replicate (bytes.length - 1) 0#8) s t ∧ t.cmd.last = s.cmd.last
      ∧ t.cmd.snapshot = s.cmd.snapshot ∧ Only [.cmd] s t)
  ∧ (∀ (c : Instr) (bytes : List Byte) (s : State), encodeCommand c = some bytes → PortIgnores c s →
    ∃ t, exec c s = .next t ∧ Shifted (List.replicate (bytes.length - 1) 0xFF#8) s t ∧ t.cmd.last = s.cmd.last
      ∧ t.cmd.snapshot = s.cmd.snapshot ∧ Only [.cmd] s t)
  ∧ (∀ (h : Handling) (sdi : List Byte) (extraBits : Nat) (s : State), h ≠ .active → PortOpen h sdi 0 extraBits s →
    judge sdi extraBits = .discarded → ∃ t, exec (.transferDiscarded sdi extraBits) s = .next t ∧ t.cmd.transfer = none
      ∧ t.cmd.last = s.cmd.last ∧ Only [.cmd] s t)
  ∧ ∀ (h : Handling) (opcode : Byte) (n : Nat) (s : State), h ≠ .active → PortOpen h [opcode] n 0 s →
    namesCommand opcode = false → ∃ t, exec (.unknownOpcode opcode n) s = .next t ∧ t.cmd.transfer = none
      ∧ t.cmd.last = s.cmd.last ∧ Only [.cmd] s t

/-! ### Membership commands -/

/-- JOIN (R50): taken when OFFLINE with the link DETACHED, refused with STATE otherwise; a line that stands at tSTUCK is
stuck at that moment (R15). -/
def Obligations.JoinEntersJoining : Prop :=
  ∀ s : State, PortActive .join s → ∃ t, exec .join s = .next t
    ∧ (¬(s.mbr.membership = .offline ∧ s.lif.link = .detached) → Refused 0 .state s t)
    ∧ (s.mbr.membership = .offline ∧ s.lif.link = .detached ∧ ¬s.StbStuck ∧ ¬s.DatStuck →
        t.mbr = { s.mbr with membership := .joining, nonce := some (s.tsc.time.extractLsb' 0 16) }
          ∧ t.lif = { s.lif.release with link := .seeking, idleTimer := 0, begun := false, tLow := none, tHigh := none }
          ∧ Placed .join s.mbr.number s t ∧ OtherEntries .join s.mbr.number s t
          ∧ t.ntf = (s.raise .member).ntf ∧ Wrote 0 .ok [.mbr, .lif, .rnd, .ntf] s t)
    ∧ (s.mbr.membership = .offline ∧ s.lif.link = .detached ∧ (s.StbStuck ∨ s.DatStuck) →
        t.mbr.membership = .offline ∧ t.lif.link = .fault ∧ t.lif.stbDrive = .released ∧ t.lif.datDrive = .released
          ∧ t.rnd.requests = [] ∧ Answered .ok [] s t)

/-- LEAVE (R60): taken when ONLINE. Arrivals are withdrawn, or marked where they are committed; the flag unit's requests and
the halt unit's requests and holds go with their entries; the membership is LEAVING and a ROLL entry is held. -/
def Obligations.LeaveWithdrawsAndEntersLeaving : Prop :=
  ∀ s : State, PortActive .leave s → ∃ t, exec .leave s = .next t
    ∧ (s.mbr.membership ≠ .online → Refused 0 .state s t)
    ∧ (s.mbr.membership = .online →
        t.mbr = { s.mbr with membership := .leaving }
          ∧ t.flg = { s.flg with setReq := 0#32, clearReq := 0#32 }
          ∧ t.hlt = Hlt.clear s.hlt.condition
          ∧ hasEntry t.rnd.requests .roll 0 = true ∧ hasEntry t.rnd.requests .flags 0 = false
          ∧ hasEntry t.rnd.requests .halt 0 = false ∧ hasEntry t.rnd.requests .resume 0 = false
          ∧ t.rnd.round = s.rnd.round
          ∧ (∀ i, (s.slot i).state = .waiting → (s.slot i).committed = false →
              t.slot i = { (s.slot i).dropArrival with state := .ready } ∧ hasEntry t.rnd.requests .arrive i = false)
          ∧ (∀ i, (s.slot i).state = .waiting → (s.slot i).committed = true →
              t.slot i = { s.slot i with withdrawPending := true })
          ∧ (∀ i, (s.slot i).state ≠ .waiting → t.slot i = s.slot i)
          ∧ (∀ n, findEntry t.rnd.requests .join n = findEntry s.rnd.requests .join n)
          ∧ (∀ i, ¬((s.slot i).state = .waiting ∧ (s.slot i).committed = false) →
              findEntry t.rnd.requests .arrive i = findEntry s.rnd.requests .arrive i)
          ∧ OnlyDisarms s t
          ∧ Wrote 0 .ok [.mbr, .rnd, .slots, .flg, .hlt, .pin, .log, .ntf] s t)

/-- BUS RESET (R17): refused with ALREADY in RESETTING, taken in every other link state and every membership; the round in
progress is abandoned without a FRAMING record, and DAT is pulled, STB exactly where DAT is already seen low (log 20, the
model's reading). BUS_RESET_PULSE_END
(R17): both drivers released at the same instant; SEEKING on the bus, DETACHED OFFLINE; with the pulse ends every exemption
from the stuck test (R15). BUS_RESET_ARMED (R18): the
detector is armed; in SEEKING, IDLE, ROUND and CLOSING the drivers are released, the round abandoned without a FRAMING record
and the link SEEKING, and in RESETTING, in FAULT and, after an own pulse, in DETACHED the link stays. BUS_RESET_DETECTOR_DISARMED (R18): armed no more. -/
def Obligations.BusResetIsPulsedAndDetected : Prop :=
  (∀ s : State, PortActive .busReset s → ∃ t, exec .busReset s = .next t
    ∧ (s.lif.link = .resetting → Refused 0 .already s t)
    ∧ (s.lif.link ≠ .resetting →
        t.lif.link = .resetting ∧ t.lif.datDrive = .low ∧ (t.lif.stbDrive = .low ↔ s.lif.dat = .low)
          ∧ t.lif.stretch = false ∧ t.lif.begun = false ∧ t.rnd.round = none
          ∧ OnlyRecords [.withdrawn, .timeout] s t
          ∧ t.mbr = s.mbr ∧ t.flg = s.flg ∧ Answered .ok [] s t ∧ OnlyDisarms s t
          ∧ TscQuiet s t ∧ Frame [.cmd, .tsc, .lif, .rnd, .slots, .pin, .log, .ntf, .hlt] s t
          ∧ (s.rnd.round = none → Wrote 0 .ok [.lif] s t)))
  ∧ (∀ s : State, s.Running →
    (s.lif.link = .resetting → ∃ t, exec .busResetPulseEnd s = .next t
      ∧ t.lif.stbDrive = .released ∧ t.lif.datDrive = .released ∧ t.lif.pulse = none
      ∧ t.lif.stbExempt = false ∧ t.lif.datExempt = false
      ∧ t.lif.link = (if s.mbr.membership = .offline then .detached else .seeking) ∧ Only [.lif] s t)
    ∧ (s.lif.armed = false → s.lif.link ≠ .detached ∨ s.lif.ownPulse = true → ∃ t, exec .busResetArmed s = .next t
      ∧ t.lif.armed = true
      ∧ (s.lif.link ≠ .resetting → s.lif.link ≠ .fault → s.lif.link ≠ .detached → t.lif.link = .seeking
          ∧ t.lif.stbDrive = .released ∧ t.lif.datDrive = .released ∧ t.lif.stretch = false ∧ t.rnd.round = none)
      ∧ (s.lif.link = .resetting ∨ s.lif.link = .fault ∨ s.lif.link = .detached → t.lif.link = s.lif.link ∧ Only [.lif] s t)
      ∧ OnlyRecords [.withdrawn, .timeout] s t
      ∧ t.mbr = s.mbr ∧ t.flg = s.flg ∧ OnlyDisarms s t
      ∧ Only [.lif, .rnd, .slots, .pin, .log, .ntf, .hlt] s t)
    ∧ (s.lif.armed = true → ∀ line, ∃ t, exec (.busResetDetectorDisarmed line) s = .next t ∧ t.lif.armed = false
      ∧ t.lif.link = s.lif.link ∧ Only [.lif] s t))

/-! ### Slot commands -/

/-- ARRIVE (R74, R75): the tests in their order, each with its outcome; an arrival that passes them all is taken. The
required set outside a round (R72): the mask of a STATIC slot, the roster for a ROSTER slot. -/
def Obligations.ArriveIsTakenOrRefusedInOrder : Prop :=
  (∀ (slot : Byte) (value : Half) (s : State), PortActive (.arrive slot value) s → ∃ t, exec (.arrive slot value) s = .next t
    ∧ (32 ≤ slot.toNat → Refused 3 .operand s t)
    ∧ ∀ i : SlotNo, i.val = slot.toNat →
        if s.mbr.membership ≠ .online then Refused 3 .state s t
        else if (s.slot i).cfg.enabled = false then Refused 3 .operand s t
        else if (s.slot i).state = .fault then Refused 3 .state s t
        else if s.hlt.condition = .halted then Refused 3 .halted s t
        else if (s.requiredNow i).getLsbD s.mbr.number.val = false then Refused 3 .notMember s t
        else if (s.slot i).state = .waiting then Refused 3 .already s t
        else
          t.slot i = { s.slot i with
              state := .waiting, arrival := some { value := value, source := .command, time := s.tsc.time }
              published := false, committed := false, withdrawPending := false, timeoutPending := false, timer := 0
              probe := false }
            ∧ OtherSlots i s t ∧ Placed .arrive i s t ∧ OtherEntries .arrive i s t ∧ Wrote 3 .ok [.slots, .rnd] s t)
  ∧ (∀ (s : State) (i : SlotNo),
    ((s.slot i).cfg.participation = .fixed → s.requiredNow i = (s.slot i).cfg.mask)
      ∧ ((s.slot i).cfg.participation = .roster → s.requiredNow i = s.mbr.roster))

/-- WITHDRAW (R79, R80): the tests in their order; a committed arrival is answered PENDING and marked; any other is
withdrawn at once with a WITHDRAWN record and a SLOT event, its entry removed and its source disarmed. -/
def Obligations.WithdrawTakesEffectOrIsPending : Prop :=
  ∀ (slot : Byte) (s : State), PortActive (.withdraw slot) s → ∃ t, exec (.withdraw slot) s = .next t
    ∧ (32 ≤ slot.toNat → Refused 1 .operand s t)
    ∧ ∀ i : SlotNo, i.val = slot.toNat →
        if (s.slot i).cfg.enabled = false then Refused 1 .operand s t
        else if (s.slot i).state ≠ .waiting then Refused 1 .state s t
        else if (s.slot i).withdrawPending = true then Refused 1 .already s t
        else if (s.slot i).committed = true then
          t.slot i = { s.slot i with withdrawPending := true } ∧ OtherSlots i s t ∧ Wrote 1 .pending [.slots] s t
        else
          t.slot i = { (s.slot i).dropArrival with state := .ready } ∧ OtherSlots i s t
            ∧ hasEntry t.rnd.requests .arrive i = false ∧ OtherEntries .arrive i s t
            ∧ ReportsSlot s t i .withdrawn ((s.slot i).epoch.setWidth 8) (s.slot i).lastSeen (s.slot i).arrivalValue
            ∧ t.pin = (s.disarmSource (s.slot i).arrival).pin
            ∧ Wrote 1 .ok [.slots, .rnd, .pin, .log, .ntf] s t

/-- CLEAR SLOT (R85): the tests in their order; a slot in FAULT becomes READY and UNSYNCED with an empty last-seen set, and
the level-armed inputs bound to it that are at their active level are disarmed (R144). -/
def Obligations.ClearSlotReturnsAFaultToReady : Prop :=
  ∀ (slot : Byte) (s : State), PortActive (.clearSlot slot) s → ∃ t, exec (.clearSlot slot) s = .next t
    ∧ (32 ≤ slot.toNat → Refused 1 .operand s t)
    ∧ ∀ i : SlotNo, i.val = slot.toNat →
        if (s.slot i).cfg.enabled = false then Refused 1 .operand s t
        else if (s.slot i).state ≠ .fault then Refused 1 .state s t
        else
          t.slot i = { s.slot i with state := .ready, sync := .unsynced, lastSeen := 0#32 } ∧ OtherSlots i s t
            ∧ t.pin.cfg = s.pin.cfg ∧ t.pin.outputs = s.pin.outputs
            ∧ (∀ k : Fin 4, t.input k
                = if (s.inputCfg k).binding = .arrive ∧ low5 (s.inputCfg k).target = i
                      ∧ (s.inputCfg k).detection.isLevel = true ∧ s.InputActive k
                  then { s.input k with armed := false } else s.input k)
            ∧ Wrote 1 .ok [.slots, .pin] s t

/-! ### Flags, halt and resume -/

/-- SET FLAGS and CLEAR FLAGS (R113, R114): taken when ONLINE; the mask moves into one of S and C and out of the other, the
word stays, and the FLAGS entry is held exactly while one of them is not empty. Refused with STATE otherwise. -/
def Obligations.FlagCommandsMoveRequests : Prop :=
  ∀ (m : Set32) (s : State),
    (PortActive (.setFlags m) s → ∃ t, exec (.setFlags m) s = .next t
      ∧ (s.mbr.membership ≠ .online → Refused 4 .state s t)
      ∧ (s.mbr.membership = .online →
          t.flg = { s.flg with setReq := s.flg.setReq ||| m, clearReq := s.flg.clearReq &&& ~~~m }
            ∧ (t.flg.setReq ||| t.flg.clearReq ≠ 0#32 → Placed .flags 0 s t)
            ∧ (t.flg.setReq ||| t.flg.clearReq = 0#32 → hasEntry t.rnd.requests .flags 0 = false)
            ∧ OtherEntries .flags 0 s t ∧ Wrote 4 .ok [.flg, .rnd] s t))
    ∧ (PortActive (.clearFlags m) s → ∃ t, exec (.clearFlags m) s = .next t
      ∧ (s.mbr.membership ≠ .online → Refused 4 .state s t)
      ∧ (s.mbr.membership = .online →
          t.flg = { s.flg with clearReq := s.flg.clearReq ||| m, setReq := s.flg.setReq &&& ~~~m }
            ∧ (t.flg.setReq ||| t.flg.clearReq ≠ 0#32 → Placed .flags 0 s t)
            ∧ (t.flg.setReq ||| t.flg.clearReq = 0#32 → hasEntry t.rnd.requests .flags 0 = false)
            ∧ OtherEntries .flags 0 s t ∧ Wrote 4 .ok [.flg, .rnd] s t))

/-- HALT (R125, R126): OPERAND for a cause outside 0x0001 to 0x7FFF, then STATE when not ONLINE; while RUNNING the request
takes the lower cause and a HALT entry is held, while HALTED the held cause takes the lower; the command hold is set.
RESUME (R132): taken when ONLINE and HALTED; the command hold is cleared with its held cause, resume is pending and a
RESUME entry is held. Refused with STATE otherwise. -/
def Obligations.HaltAndResumeCommandsMakeTheirRequests : Prop :=
  (∀ (cause : Half) (s : State), PortActive (.halt cause) s → ∃ t, exec (.halt cause) s = .next t
    ∧ if cause = 0#16 ∨ 0x8000 ≤ cause.toNat then Refused 2 .operand s t
      else if s.mbr.membership ≠ .online then Refused 2 .state s t
      else if s.hlt.condition = .running then
        t.hlt = { s.hlt with
            commandHold := true
            request := some (match s.hlt.request with | some c => if cause.toNat < c.toNat then cause else c | none => cause) }
          ∧ Placed .halt 0 s t ∧ OtherEntries .halt 0 s t ∧ Wrote 2 .ok [.hlt, .rnd] s t
      else
        t.hlt = { s.hlt with
            commandHold := true
            heldCause := some (match s.hlt.heldCause with | some c => if cause.toNat < c.toNat then cause else c | none => cause) }
          ∧ Wrote 2 .ok [.hlt] s t)
  ∧ (∀ s : State, PortActive .resume s → ∃ t, exec .resume s = .next t
    ∧ (¬(s.mbr.membership = .online ∧ s.hlt.condition = .halted) → Refused 0 .state s t)
    ∧ (s.mbr.membership = .online ∧ s.hlt.condition = .halted →
        t.hlt = { s.hlt with commandHold := false, heldCause := none, resumePending := true }
          ∧ Placed .resume 0 s t ∧ OtherEntries .resume 0 s t ∧ Wrote 0 .ok [.hlt, .rnd] s t))

/-! ### Configuration -/

/-- WRITE STATION CONFIG (R173): DISCARDED with another number of bytes; STATE unless OFFLINE with the link neither
RESETTING nor FAULT; OPERAND if a field fails its check; otherwise every field is set at once. -/
def Obligations.WriteStationConfigSetsEveryField : Prop :=
  ∀ (bytes : List Byte) (s : State), PortActive (.writeStationConfig bytes) s → ∃ t, exec (.writeStationConfig bytes) s = .next t
    ∧ (bytes.length ≠ 7 → Refused bytes.length .discarded s t)
    ∧ ∀ b0 b1 b2 b3 b4 b5 b6, bytes = [b0, b1, b2, b3, b4, b5, b6] →
        if s.mbr.membership ≠ .offline ∨ s.lif.link = .resetting ∨ s.lif.link = .fault then Refused 7 .state s t
        else if 4 ≤ b0.toNat ∧ 4 ≤ b1.toNat ∧ 8 ≤ b2.toNat ∧ b1.toNat < b2.toNat ∧ b3.toNat % 8 ≤ 3
            ∧ b3.toNat / 16 % 8 ≤ 3 ∧ b6.toNat ≤ 15 then
          t.cfg.tLow = b0 ∧ t.cfg.tHigh = b1 ∧ t.cfg.tIdle = b2 ∧ t.cfg.tStuck.ticks = 128000 * 2 ^ (b3.toNat % 8)
            ∧ t.cfg.retry = b3.toNat / 16 % 8 ∧ t.cfg.rollPeriod = b4 ∧ t.cfg.filter = b5 ∧ t.cfg.autoSleep = b6.toNat
            ∧ Wrote 7 .ok [.cfg] s t
        else Refused 7 .operand s t

/-- WRITE SLOT CONFIG (R67, R173): DISCARDED with another number of bytes; STATE unless OFFLINE; OPERAND for a slot above 31
or a field that fails its check; otherwise the whole configuration is replaced and the runtime record set up, the result
record kept. -/
def Obligations.WriteSlotConfigSetsUpTheSlot : Prop :=
  ∀ (slot : Byte) (bytes : List Byte) (s : State), PortActive (.writeSlotConfig slot bytes) s →
    ∃ t, exec (.writeSlotConfig slot bytes) s = .next t
    ∧ (bytes.length ≠ 8 → Refused (bytes.length + 1) .discarded s t)
    ∧ ∀ b0 b1 m3 m2 m1 m0 t1 t0, bytes = [b0, b1, m3, m2, m1, m0, t1, t0] →
        if s.mbr.membership ≠ .offline then Refused 9 .state s t
        else if 32 ≤ slot.toNat ∨ 1 < b0.toNat / 16 % 4 ∨ 1 < b0.toNat % 4 ∨ 3 < b1.toNat % 8
            ∨ (128 ≤ b0.toNat ∧ b0.toNat / 16 % 4 = 0 ∧ m3 ++ m2 ++ m1 ++ m0 = 0#32) then Refused 9 .operand s t
        else
          ∀ i : SlotNo, i.val = slot.toNat →
            (t.slot i).cfg = { enabled := b0.getLsbD 7
                               participation := if b0.toNat / 16 % 4 = 0 then .fixed else .roster
                               mask := m3 ++ m2 ++ m1 ++ m0, timeout := t1 ++ t0
                               policy := if b0.toNat % 4 = 0 then .onlyLocal else .halt
                               retry := b1.toNat % 8, notifyA := b1.getLsbD 4, notifyB := b1.getLsbD 5
                               logRecords := b1.getLsbD 6, logProgress := b1.getLsbD 7 }
              ∧ t.slot i = { (s.slot i).dropArrival with
                    cfg := (t.slot i).cfg, state := if b0.getLsbD 7 then .ready else .disabled, sync := .unsynced
                    epoch := 0#4, lastSeen := 0#32 }
              ∧ OtherSlots i s t ∧ Wrote 9 .ok [.slots] s t

/-- WRITE PIN CONFIG (R140, R173, R185): DISCARDED with another number of bytes; STATE unless OFFLINE; OPERAND if a field
carries a code that names no value, a target above 31 that its binding or mode uses, or a pulse width 0; otherwise the whole
configuration is replaced (12.6), every input keeps its filtered level, is armed and restarts a running debounce timer, and
every output is inactive. -/
def Obligations.WritePinConfigArmsInputsAndStopsOutputs : Prop :=
  ∀ (bytes : List Byte) (s : State), PortActive (.writePinConfig bytes) s → ∃ t, exec (.writePinConfig bytes) s = .next t
    ∧ (bytes.length ≠ 33 → Refused bytes.length .discarded s t)
    ∧ (bytes.length = 33 → s.mbr.membership ≠ .offline → Refused 33 .state s t)
    ∧ (bytes.length = 33 → s.mbr.membership = .offline →
        ((∃ i, InputRefused bytes i) ∨ (∃ o, OutputRefused bytes o) → Refused 33 .operand s t)
        ∧ ((∀ i, ¬InputRefused bytes i) → (∀ o, ¬OutputRefused bytes o) →
          (∀ i : Fin 4, InputWritten bytes i (t.inputCfg i)) ∧ (∀ o : Fin 4, OutputWritten bytes o (t.outputCfg o))
            ∧ t.pin.cfg.debounce = bytes.getD 32 0#8
            ∧ (∀ i : Fin 4, t.input i = { s.input i with armed := true, timer := (s.input i).timer.map fun _ => 0 })
            ∧ (∀ o : Fin 4, t.output o = { active := false, pulse := none })
            ∧ Wrote 33 .ok [.pin] s t))

/-! ### Power and reset -/

/-- The state a station reset leaves (table of R184): every field the table names, whatever the cause, the strapped number
and the levels at the input pins. -/
def Obligations.ResetLeavesTheTableOfValues : Prop :=
  ∀ (cause : ResetCause) (number : StationNo) (pins : Vector Level 4),
    let s := State.afterReset cause number pins
    s.cfg = { tLow := 16#8, tHigh := 16#8, tIdle := 48#8, tStuck := .ms16, retry := 2, rollPeriod := 10#8, filter := 0xFD#8
              autoSleep := 0 }
      ∧ s.mbr = { number := number, membership := .offline, roster := 0#32, rollTimer := 0, nonce := none }
      ∧ s.lif.link = .detached ∧ s.lif.stbDrive = .released ∧ s.lif.datDrive = .released
      ∧ s.rnd = { requests := [], round := none }
      ∧ (∀ i, (s.slot i).cfg = { enabled := false, participation := .fixed, mask := 0#32, timeout := 0#16
                                 policy := .onlyLocal, retry := 2, notifyA := false, notifyB := false
                                 logRecords := true, logProgress := false }
          ∧ (s.slot i).state = .disabled ∧ (s.slot i).sync = .unsynced ∧ (s.slot i).epoch = 0#4
          ∧ (s.slot i).arrival = none ∧ (s.slot i).published = false ∧ (s.slot i).committed = false
          ∧ (s.slot i).withdrawPending = false ∧ (s.slot i).timeoutPending = false ∧ (s.slot i).lastSeen = 0#32
          ∧ (s.slot i).result = none)
      ∧ s.flg = { word := 0#32, sync := .unsynced, setReq := 0#32, clearReq := 0#32 }
      ∧ s.hlt = { condition := .running, request := none, commandHold := false, heldCause := none, inputHold := 0#4
                  resumePending := false }
      ∧ (∀ i : Fin 4, s.inputCfg i = { detection := .rising, debounce := false, wake := false, binding := .off
                                       target := 0#8, value := 0#16 }
          ∧ (s.input i).filtered = pins[i] ∧ (s.input i).armed = true)
      ∧ (∀ o : Fin 4, s.outputCfg o = { polarity := .activeHigh, mode := .off, target := 0#8, width := 10#8 }
          ∧ s.outputActive o = false ∧ s.outputPin o = .low)
      ∧ s.log = { records := [], next := 0#8 }
      ∧ s.ntf = { pendA := 0#9, pendB := 0#9, maskA := 0#9, maskB := 0#9 }
      ∧ s.cmd.last = .ok ∧ s.cmd.transfer = none
      ∧ s.tsc.time = 0#32 ∧ s.tsc.power = .active ∧ s.tsc.autoSleep = 0 ∧ s.tsc.cause = cause ∧ s.tsc.inReset = false

/-- POWER_ON, RESETN and SOFT RESET (R183, R184) begin the internal reset with their cause, and a transfer in progress is
ignored from then on with SDO shifting 0xFF (R174), from the next bit on (log 14, the model's reading); a RESETN low during a
power-on reset holds that reset without restarting it. INTERNAL_RESET_END (R184, R47, R141): every block has its reset values, the
number is read from the straps with ID4 as its most significant bit and the filtered levels from the pins, without a record
or an event. A transfer whose CSN fell before stays in progress and is ignored, its framing state cleared (R174); the bus,
the board's levels and the queue are outside the station. That a high strap reads as 1 is log 1's, the levels and counts of
the lines after a reset are log 3's, the release of RESETN at its end is log 25's, and which values are taken at its end
log 21's. -/
def Obligations.StationResetsBeginAndEnd : Prop :=
  (∀ s : State,
    (∃ t, exec .powerOn s = .next t ∧ ResetBegun .powerOn s t ∧ CutTransfer s t)
      ∧ (∃ t, exec .resetn s = .next t ∧ t.tsc.resetnLow = true
          ∧ (¬(s.tsc.inReset = true ∧ s.tsc.cause = .powerOn) → ResetBegun .pin s t ∧ CutTransfer s t)
          ∧ (s.tsc.inReset = true ∧ s.tsc.cause = .powerOn → Frame [.tsc] s t
              ∧ t.tsc = { s.tsc with resetnLow := true, autoSleep := t.tsc.autoSleep }))
      ∧ (PortActive .softReset s → ∃ t, exec .softReset s = .next t ∧ ResetBegun .soft s t ∧ t.cmd.transfer = none))
  ∧ (∀ (p : Straps) (s : State), s.tsc.inReset = true →
    ∃ t number, exec (.internalResetEnd p) s = .next t
    ∧ (∀ k, number.val.testBit k
        = (k == 4 && p.id4 == .high || k == 3 && p.id3 == .high || k == 2 && p.id2 == .high || k == 1 && p.id1 == .high
            || k == 0 && p.id0 == .high))
    ∧ Frame [.cmd, .bus, .spi, .pending] (State.afterReset s.tsc.cause number (mapAll Input.pin s.pin.inputs)) t
    ∧ t.cmd.last = .ok ∧ CutTransfer s t
    ∧ t.bus = s.bus ∧ t.spi = s.spi ∧ t.pending = s.pending)

/-- SLEEP (R178, R180): taken when the sleep conditions hold once CSN is high, refused with STATE otherwise. The sleep
conditions (R178). AUTO_SLEEP_EXPIRY and OSCILLATOR_STOP (R179, R180): entry as for the SLEEP command, with no outcome
recorded; then the oscillator stops unless a wake has begun. The start detector compares with the levels last seen at entry
(log 19, the model's reading), and a line filter keeps its count (log 41, the model's choice). -/
def Obligations.SleepIsEnteredOnItsConditions : Prop :=
  (∀ s : State, PortActive .sleep s → ∃ t, exec .sleep s = .next t
    ∧ ((s.setCmd { s.cmd with transfer := none }).sleepOk = false → Refused 0 .state s t)
    ∧ ((s.setCmd { s.cmd with transfer := none }).sleepOk = true →
        SleepEntered s t ∧ Answered .ok [] s t ∧ Frame [.tsc, .lif, .pin, .cmd] s t))
  ∧ (∀ s : State, s.sleepOk = true ↔
    (∀ i, (s.slot i).state ≠ .waiting) ∧ s.rnd.requests = [] ∧ (s.lif.link = .idle ∨ s.lif.link = .detached)
      ∧ s.ntf.pendA &&& s.ntf.maskA = 0#9 ∧ s.ntf.pendB &&& s.ntf.maskB = 0#9 ∧ s.cmd.transfer = none
      ∧ ∀ o : Fin 4, (s.output o).pulse = none)
  ∧ (∀ s : State,
    (s.Running → s.cfg.autoSleep ≠ 0 → s.sleepOk = true → ∃ t, exec .autoSleepExpiry s = .next t
      ∧ SleepEntered s t ∧ Frame [.tsc, .lif, .pin] s t)
    ∧ (s.tsc.power = .sleep → s.tsc.waking = false → s.tsc.inReset = false → ∃ t, exec .oscillatorStop s = .next t
      ∧ t.tsc = { s.tsc with oscillator := false } ∧ Frame [.tsc] s t))

/-- WAKE (R175): in SLEEP a wake starts, at once where the oscillator still runs; OK is recorded in SLEEP and in ACTIVE,
where nothing else changes. OSCILLATOR_RUNS (R176) and WAKE_INPUT_EDGE (R149): the end of step 1 of a wake, and the
raw edge that starts one. A debounce timer starts from zero at a wake (R149; for a held count log 16, the model's reading), and
so does the both-low count (log 36, the model's choice); a line filter goes on with its count (log 41, the model's choice). -/
def Obligations.WakeSourcesWakeTheStation : Prop :=
  (∀ s : State,
    (PortActive .wake s → ∃ t, exec .wake s = .next t ∧ Wrote 0 .ok [] s t)
    ∧ (PortAsleep .wake s → s.tsc.power = .sleep → s.tsc.waking = false → ∃ t, exec .wake s = .next t ∧ Answered .ok [] s t
        ∧ Frame [.tsc, .lif, .pin, .cmd] s t
        ∧ (s.tsc.oscillator = true → Awake s t)
        ∧ (s.tsc.oscillator = false → t.tsc = { s.tsc with waking := true } ∧ t.lif = s.lif ∧ t.pin = s.pin))
    ∧ (PortAsleep .wake s → s.tsc.power = .active ∨ s.tsc.waking = true → ∃ t, exec .wake s = .next t ∧ Wrote 0 .ok [] s t))
  ∧ (∀ s : State, s.tsc.power = .sleep → s.tsc.inReset = false →
    (s.tsc.waking = true → ∃ t, exec .oscillatorRuns s = .next t ∧ Awake s t ∧ Frame [.tsc, .lif, .pin] s t)
    ∧ ∀ i : Fin 4, (s.input i).wakeArmed = true → ∃ t, exec (.wakeInputEdge i) s = .next t
        ∧ (t.input i).pin ≠ (s.input i).pin ∧ (t.input i).filtered = (s.input i).filtered
        ∧ (t.input i).armed = (s.input i).armed
        ∧ (s.tsc.waking = true ∨ s.tsc.oscillator = false →
            t.tsc = { s.tsc with waking := true } ∧ (∀ j, j ≠ i → t.input j = s.input j) ∧ Frame [.tsc, .pin] s t)
        ∧ (s.tsc.waking = false ∧ s.tsc.oscillator = true → t.tsc.power = .active ∧ Frame [.tsc, .lif, .pin] s t))

/-- ASYNC_START (R182): the armed detector pulls STB at once, the link enters ROUND at position 0 with the wake stretch held,
and a wake starts; position 0 offers the head of the list, and nothing where the list is empty. -/
def Obligations.AsyncStartHoldsTheStretch : Prop :=
  ∀ s : State, s.tsc.power = .sleep → s.tsc.inReset = false → s.lif.startDetector = true → s.mbr.membership ≠ .offline →
    s.lif.link = .idle → ∃ t, exec .asyncStart s = .next t
      ∧ t.lif.link = .round ∧ t.lif.stbDrive = .low ∧ t.lif.datDrive = .released ∧ t.lif.begun = true
      ∧ t.lif.stretch = true ∧ t.lif.startDetector = false
      ∧ t.rnd.requests = s.rnd.requests
      ∧ (∃ r, t.rnd.round = some r ∧ r.samples = [] ∧ r.check = 0xFF#8 ∧ r.head = s.rnd.requests.head?
          ∧ (s.rnd.requests = [] → r.driveNow = .released))
      ∧ (s.tsc.oscillator = false ∨ s.tsc.waking = true → t.tsc = { s.tsc with waking := true } ∧ t.pin = s.pin)
      ∧ (s.tsc.oscillator = true ∧ s.tsc.waking = false → t.tsc.power = .active ∧ t.lif.tLow = some 0)
      ∧ Frame [.tsc, .lif, .pin, .rnd] s t

/-! ### Timers and pins -/

/-- ROLL_TIMER_EXPIRY (R56): at a member with a roll period a ROLL entry is held and the timer starts again from zero.
TIMEOUT (R81, R82): a committed arrival becomes timeout pending; any other is withdrawn with a TIMEOUT record and a
SLOT event, and under policy HALT at an ONLINE and RUNNING station the halt request has cause 0x8000 plus the slot, or
the lower cause it had. -/
def Obligations.RollTimerAndTimeoutExpire : Prop :=
  (∀ s : State, s.Running → Member s → s.cfg.rollPeriod ≠ 0#8 → ∃ t, exec .rollTimerExpiry s = .next t
    ∧ t.mbr = { s.mbr with rollTimer := 0 } ∧ Placed .roll 0 s t ∧ OtherEntries .roll 0 s t ∧ Only [.mbr, .rnd] s t)
  ∧ (∀ (i : SlotNo) (s : State), s.Running → (s.slot i).state = .waiting → (s.slot i).cfg.timeout ≠ 0#16 →
    ∃ t, exec (.timeout i) s = .next t ∧ OtherSlots i s t
      ∧ ((s.slot i).committed = true →
          t.slot i = { s.slot i with timeoutPending := true, timer := (t.slot i).timer } ∧ Only [.slots] s t)
      ∧ ((s.slot i).committed = false →
          t.slot i = { (s.slot i).dropArrival with state := .ready }
            ∧ ReportsSlot s t i .timeout ((s.slot i).epoch.setWidth 8) (s.slot i).lastSeen (s.slot i).arrivalValue
            ∧ t.rnd.round = s.rnd.round ∧ ArrivalGone i True s t ∧ Only [.slots, .rnd, .pin, .log, .ntf, .hlt] s t))

/-- INPUT_CHANGE (R141, R149): the pin has the new level; while the blocks run the debounce timer stops at the filtered
level and starts from zero at any other change; the filtered level and the armed attribute stay. In SLEEP a change at
an input whose wake detector is armed starts a wake. INPUT_ACCEPTED (R141, R142, R144): the pin's level becomes the
filtered level, and a transition into the inactive level arms the input. With binding OFF nothing else changes. It comes due
in the tick whose count reaches the acceptance time: 2 ticks, or (n+1) x 32 us with debounce, 16 ticks a microsecond from the
timer's start (log 40, the model's choice). -/
def Obligations.InputsAreFiltered : Prop :=
  (∀ (i : Fin 4) (l : Level) (s : State), ∃ t, exec (.inputChange i l) s = .next t
    ∧ (t.input i).pin = l ∧ (t.input i).filtered = (s.input i).filtered ∧ (t.input i).armed = (s.input i).armed
    ∧ (s.Running → (s.input i).pin ≠ l →
        (t.input i).timer = (if l = (s.input i).filtered then none else some 0)
          ∧ (∀ j, j ≠ i → t.input j = s.input j) ∧ Only [.pin] s t)
    ∧ (s.Running → (s.input i).pin = l → Only [] s t)
    ∧ (s.tsc.power = .sleep → (s.input i).wakeArmed = false → (∀ j, j ≠ i → t.input j = s.input j) ∧ Frame [.pin] s t)
    ∧ (s.tsc.power = .sleep → (s.input i).pin = l → Frame [] s t)
    ∧ (s.tsc.power = .sleep → s.tsc.inReset = false → (s.input i).wakeArmed = true → (s.input i).pin ≠ l →
        (s.tsc.waking = true ∨ s.tsc.oscillator = false →
          t.tsc = { s.tsc with waking := true } ∧ (∀ j, j ≠ i → t.input j = s.input j) ∧ Frame [.tsc, .pin] s t)
        ∧ (s.tsc.waking = false ∧ s.tsc.oscillator = true →
            t.tsc = { s.tsc with power := .active, oscillator := true, waking := false, autoSleep := 0 }
              ∧ Frame [.tsc, .lif, .pin] s t)))
  ∧ (∀ (i : Fin 4) (s : State), s.Running → (s.input i).pin ≠ (s.input i).filtered → ∃ t, exec (.inputAccepted i) s = .next t
    ∧ (t.input i).pin = (s.input i).pin ∧ (t.input i).filtered = (s.input i).pin ∧ (t.input i).timer = none
    ∧ ((s.input i).pin ≠ (s.inputCfg i).detection.active → (t.input i).armed = true)
    ∧ (∀ j, j ≠ i → t.input j = s.input j)
    ∧ ((s.inputCfg i).binding = .off → Only [.pin] s t)
    ∧ Only [.pin, .slots, .rnd, .flg, .hlt] s t)
  ∧ (∀ (i : Fin 4) (s : State), s.pending = [] → s.Running → ∃ t, step s = .next t
    ∧ (.inputAccepted i ∈ t.pending ↔ ∃ n, (s.input i).timer = some n ∧ (s.input i).pin ≠ (s.input i).filtered
        ∧ (if (s.inputCfg i).debounce then 16 * (32 * (s.pin.cfg.debounce.toNat + 1)) else 2) ≤ n + 1))

/-- The table of R142: the active level of each detection mode, the level modes, and the accepted changes reported as edges.
What an accepted change asks for (R143, R144, R146, R147, R148), by the input's binding: an arrival attempt in an edge mode
at an edge; in a level mode at a transition into the active level if armed, a refused one disarming the input; a request of
one flag bit, the FLAGS entry held; a halt source, and in a level mode the input hold set. A halt source makes a request while
RUNNING, the lower cause where one is present, and none while HALTED (R125); a change that asks for nothing changes neither
the owner nor the list. -/
def Obligations.AcceptedInputActsOnItsBinding : Prop :=
  (∀ (d : Detection) (l : Level),
    (d.active = .high ↔ d = .rising ∨ d = .both ∨ d = .high)
      ∧ (d.isLevel = true ↔ d = .high ∨ d = .low)
      ∧ (d.isEdge l = true ↔ d = .rising ∧ l = .high ∨ d = .falling ∧ l = .low ∨ d = .both))
  ∧ ∀ (i : Fin 4) (s t : State), s.Running → (s.input i).pin ≠ (s.input i).filtered → exec (.inputAccepted i) s = .next t →
    let c := s.inputCfg i
    let l := (s.input i).pin
    let n := low5 c.target
    let asks := if c.detection.isLevel = true then l = c.detection.active else c.detection.isEdge l = true
    let cause := BitVec.ofNat 16 (0x8100 + i.val)
    let request := match s.hlt.request with | some old => if cause.toNat < old.toNat then cause else old | none => cause
    (c.binding = .arrive → c.detection.isLevel = true → l = c.detection.active → (s.input i).armed = true →
        (s.arrivalTest n = .ok → (t.slot n).arrival = some { value := c.value, source := .input i, time := s.tsc.time }
          ∧ (t.slot n).state = .waiting ∧ (t.input i).armed = true ∧ hasEntry t.rnd.requests .arrive n = true)
        ∧ (s.arrivalTest n ≠ .ok → t.slots = s.slots ∧ t.rnd = s.rnd ∧ (t.input i).armed = false))
    ∧ (c.binding = .arrive → c.detection.isLevel = true → l ≠ c.detection.active ∨ (s.input i).armed = false →
        t.slots = s.slots ∧ t.rnd = s.rnd)
    ∧ (c.binding = .arrive → c.detection.isLevel = false → c.detection.isEdge l = true →
        (s.arrivalTest n = .ok → (t.slot n).arrival = some { value := c.value, source := .input i, time := s.tsc.time }
          ∧ (t.slot n).state = .waiting ∧ hasEntry t.rnd.requests .arrive n = true)
        ∧ (s.arrivalTest n ≠ .ok → t.slots = s.slots ∧ t.rnd = s.rnd))
    ∧ (c.binding = .arrive → c.detection.isLevel = false → c.detection.isEdge l = false → t.slots = s.slots ∧ t.rnd = s.rnd)
    ∧ (c.binding = .flagSet → asks → s.mbr.membership = .online → Placed .flags 0 s t
        ∧ t.flg = { s.flg with setReq := s.flg.setReq ||| only n, clearReq := s.flg.clearReq &&& ~~~only n })
    ∧ (c.binding = .flagClear → asks → s.mbr.membership = .online → Placed .flags 0 s t
        ∧ t.flg = { s.flg with clearReq := s.flg.clearReq ||| only n, setReq := s.flg.setReq &&& ~~~only n })
    ∧ (c.binding = .flagFollow → s.mbr.membership = .online → Placed .flags 0 s t
        ∧ t.flg = if l = c.detection.active
          then { s.flg with setReq := s.flg.setReq ||| only n, clearReq := s.flg.clearReq &&& ~~~only n }
          else { s.flg with clearReq := s.flg.clearReq ||| only n, setReq := s.flg.setReq &&& ~~~only n })
    ∧ (c.binding = .flagSet ∨ c.binding = .flagClear → ¬asks → t.flg = s.flg ∧ t.rnd = s.rnd)
    ∧ (c.binding = .flagSet ∨ c.binding = .flagClear ∨ c.binding = .flagFollow → s.mbr.membership ≠ .online →
        t.flg = s.flg ∧ t.rnd = s.rnd)
    ∧ (c.binding = .halt → c.detection.isLevel = true →
        (l = c.detection.active → s.mbr.membership = .online → s.hlt.condition = .running → Placed .halt 0 s t
          ∧ t.hlt = { s.hlt with request := some request, inputHold := s.hlt.inputHold ||| 1#4 <<< i.val })
        ∧ (l = c.detection.active → s.mbr.membership = .online → s.hlt.condition = .halted → t.rnd = s.rnd
          ∧ t.hlt = { s.hlt with inputHold := s.hlt.inputHold ||| 1#4 <<< i.val })
        ∧ (l = c.detection.active → s.mbr.membership ≠ .online → t.hlt = s.hlt ∧ t.rnd = s.rnd)
        ∧ (l ≠ c.detection.active → t.rnd = s.rnd
          ∧ t.hlt = { s.hlt with inputHold := s.hlt.inputHold &&& ~~~(1#4 <<< i.val) }))
    ∧ (c.binding = .halt → c.detection.isLevel = false →
        (c.detection.isEdge l = true → s.mbr.membership = .online → s.hlt.condition = .running →
          Placed .halt 0 s t ∧ t.hlt = { s.hlt with request := some request })
        ∧ (c.detection.isEdge l = false ∨ s.mbr.membership ≠ .online ∨ s.hlt.condition = .halted →
          t.hlt = s.hlt ∧ t.rnd = s.rnd))
    ∧ (c.binding = .arrive → OtherSlots n s t ∧ OtherEntries .arrive n s t ∧ Only [.pin, .slots, .rnd] s t)
    ∧ (c.binding = .flagSet ∨ c.binding = .flagClear ∨ c.binding = .flagFollow →
        OtherEntries .flags 0 s t ∧ Only [.pin, .flg, .rnd] s t)
    ∧ (c.binding = .halt → OtherEntries .halt 0 s t ∧ Only [.pin, .hlt, .rnd] s t)

/-- PULSE_END (R151): the output goes inactive and its timer stops; it comes due in the tick whose count reaches the width, 16
ticks a microsecond from the timer's start (log 40, the model's choice). What an output shows (R150 to R153): its mode decides whether it is active, by the stored state in PULSE
and TOGGLE, its polarity the level at the pin. -/
def Obligations.OutputsPulseAndFollowTheirMode : Prop :=
  (∀ (o : Fin 4) (s : State), s.Running → (s.output o).pulse ≠ none → ∃ t, exec (.pulseEnd o) s = .next t
    ∧ t.output o = { active := false, pulse := none } ∧ (∀ j, j ≠ o → t.output j = s.output j)
    ∧ t.pin.cfg = s.pin.cfg ∧ t.pin.inputs = s.pin.inputs ∧ Only [.pin] s t)
  ∧ (∀ (o : Fin 4) (n : Nat) (s : State), s.pending = [] → s.Running → (s.output o).pulse = some n → ∃ t, step s = .next t
    ∧ (t.output o).pulse = some (n + 1) ∧ (.pulseEnd o ∈ t.pending ↔ 16 * (s.outputCfg o).width.toNat ≤ n + 1))
  ∧ (∀ (o : Fin 4) (s : State), s.tsc.inReset = false →
    ((s.outputCfg o).mode = .pulse ∨ (s.outputCfg o).mode = .toggle → s.outputActive o = (s.output o).active)
      ∧ ((s.outputCfg o).mode = .waitLevel → (s.outputActive o = true ↔ (s.slot (low5 (s.outputCfg o).target)).state = .waiting))
      ∧ ((s.outputCfg o).mode = .flag → (s.outputActive o = true ↔
          s.flg.word.getLsbD (s.outputCfg o).target.toNat = true ∧ s.flg.sync = .synced))
      ∧ ((s.outputCfg o).mode = .halted → (s.outputActive o = true ↔ s.hlt.condition = .halted))
      ∧ ((s.outputCfg o).mode = .online → (s.outputActive o = true ↔ s.mbr.membership = .online))
      ∧ ((s.outputCfg o).mode = .off → s.outputActive o = false)
      ∧ (s.outputPin o = .high ↔ (s.outputActive o = true ↔ (s.outputCfg o).polarity = .activeHigh)))

/-! ### The lines -/

/-- START_ISSUED (R8, R34): on the bus with the link IDLE, a request held and both lines high for tIDLE, the station pulls
DAT low. ROUND_START (R9, R22, R36): the link enters ROUND at position 0 with the check preset to all ones, tHIGH
counted from the DAT fall. -/
def Obligations.StartsBeginARound : Prop :=
  (∀ s : State, s.Running → s.mbr.membership ≠ .offline → s.lif.link = .idle → s.rnd.requests ≠ [] →
    s.cfg.tIdle.toNat ≤ s.lif.idleTimer → s.lif.datDrive = .released → ∃ t, exec .startIssued s = .next t
      ∧ t.lif = { s.lif with datDrive := .low } ∧ Only [.lif] s t)
  ∧ (∀ s : State, s.Running → s.mbr.membership ≠ .offline → s.lif.link = .idle → ∃ t, exec .roundStart s = .next t
    ∧ t.lif.link = .round ∧ t.lif.begun = false ∧ t.lif.tHigh = some 2 ∧ t.lif.stb = .high ∧ t.lif.dat = .low
    ∧ t.lif.stbDrive = s.lif.stbDrive ∧ t.lif.datDrive = s.lif.datDrive
    ∧ t.rnd.requests = s.rnd.requests
    ∧ (∃ r, t.rnd.round = some r ∧ r.samples = [] ∧ r.drives = [] ∧ r.check = 0xFF#8 ∧ r.dissent.any = false)
    ∧ Only [.lif, .rnd] s t)

/-- UNFRAMED_ACTIVITY (R7) and DAT_FALL_IN_CLOSING (R13): SEEKING with both drivers released and the idle timer restarted;
nothing is reported to the round engine. FRAMING_VIOLATION (R14) does the same in ROUND and abandons the round; where both
lines are then high its idle timer starts with the filter's 2 ticks (R2). -/
def Obligations.LineTroubleLeadsToSeeking : Prop :=
  ∀ s : State, s.Running →
    (s.lif.link = .idle → ∃ t, exec .unframedActivity s = .next t ∧ t.lif.link = .seeking
      ∧ t.lif.stbDrive = .released ∧ t.lif.datDrive = .released ∧ t.lif.idleTimer = 0 ∧ Only [.lif] s t)
    ∧ (s.lif.link = .closing → s.lif.begun = false → ∃ t, exec .datFallInClosing s = .next t ∧ t.lif.link = .seeking
      ∧ t.lif.stbDrive = .released ∧ t.lif.datDrive = .released ∧ t.lif.idleTimer = 0 ∧ Only [.lif] s t)
    ∧ (s.lif.link = .round → ∃ t, exec .framingViolation s = .next t ∧ t.lif.link = .seeking
      ∧ t.lif.stbDrive = .released ∧ t.lif.datDrive = .released ∧ t.rnd.round = none
      ∧ t.lif.idleTimer = (if s.lif.stb = .high ∧ s.lif.dat = .high then 2 else 0)
      ∧ t.mbr = s.mbr ∧ t.flg = s.flg ∧ OnlyDisarms s t
      ∧ Only [.lif, .rnd, .slots, .pin, .log, .ntf, .hlt] s t)

/-- The fields that R160 settles: a DROPPED record carries the empty set; a FRAMING record carries the round's selector and
class code where positions 0 to 7 had been sampled and name a round, selector 0 and 0xFF otherwise, the empty set and the
position of the abandonment. `u` is the station as the record is offered, `s` itself in log and events unless the round
commits an arrival, whose withdrawal or timeout comes first (log 15, the model's order). -/
def Obligations.DroppedAndFramingRecordFields : Prop :=
  (∀ (s : State) (r : Round), s.Running → s.lif.link = .round → s.rnd.round = some r →
    ∃ u t, exec .framingViolation s = .next t
      ∧ u.cfg = s.cfg ∧ u.tsc = s.tsc ∧ s.log.records <+: u.log.records
      ∧ ((∀ n, r.named = some (.arrive, n) → (s.slot n).committed = false) → u.log = s.log ∧ u.ntf = s.ntf)
      ∧ (∀ c n, r.named = some (c, n) →
          Reports u t .framing n (BitVec.ofNat 8 c.code) 0#32 (BitVec.ofNat 16 r.samples.length) .bus)
      ∧ (r.named = none → Reports u t .framing 0 0xFF#8 0#32 (BitVec.ofNat 16 r.samples.length) .bus))
  ∧ ∀ (s : State) (c : Machine.Class) (n : Fin 32) (limit : Nat),
      (s.droppedRecord c n limit).log = (s.offer .dropped n (BitVec.ofNat 8 c.code) 0#32 (BitVec.ofNat 16 limit)).log

/-- A tick in which tHIGH passes with STB still seen high (R9, R11, R13): the station pulls STB, tLOW counts from its own pull
(R10), and its DAT drive stays. POSITION_BEGINS (R10), STB being seen low: in ROUND the station pulls STB if it does not
already, sets its DAT drive for the position and counts tLOW from its own pull, or with the filter's 2 ticks where it has
seen STB fall first; in CLOSING it releases DAT (R13). That the pull is the tick's and the DAT drive the row's is log 24's
reading. -/
def Obligations.PositionBeginsWithStbLow : Prop :=
  (∀ (n : Nat) (s : State), s.pending = [] → s.Running → s.mbr.membership ≠ .offline →
    s.lif.link = .round ∨ s.lif.link = .closing → s.lif.begun = false → s.lif.stbDrive = .released →
    s.lif.tHigh = some n → s.cfg.tHigh.toNat ≤ n + 1 → ∃ t, step s = .next t ∧ t.lif.datDrive = s.lif.datDrive
      ∧ (t.lif.stb = .high → t.lif.stbDrive = .low ∧ t.lif.tLow = some 0 ∧ t.lif.tHigh = none ∧ t.lif.begun = false)
      ∧ (t.lif.stb = .low → t.lif.stbDrive = .released))
  ∧ (∀ s : State, s.Running → s.mbr.membership ≠ .offline → s.lif.begun = false →
    (∀ r, s.lif.link = .round → s.rnd.round = some r → ∃ t, exec .positionBegins s = .next t
      ∧ t.lif.stb = .low ∧ t.lif.stbDrive = .low ∧ t.lif.begun = true
      ∧ t.lif.tLow = some (match s.lif.tLow with | some n => n | none => 2)
      ∧ t.lif.tHigh = none ∧ t.rnd.requests = s.rnd.requests
      ∧ (∃ r', t.rnd.round = some r' ∧ t.lif.datDrive = r'.driveNow ∧ r'.samples = r.samples ∧ r'.check = r.check
          ∧ r'.dissent = r.dissent)
      ∧ Only [.lif, .rnd, .slots] s t)
    ∧ (s.lif.link = .closing → ∃ t, exec .positionBegins s = .next t
      ∧ t.lif.stb = .low ∧ t.lif.stbDrive = .low ∧ t.lif.datDrive = .released ∧ t.lif.begun = true
      ∧ t.lif.tLow = some (match s.lif.tLow with | some n => n | none => 2) ∧ Only [.lif] s t))

/-- What is latched and driven as fields begin. CLASS+SEL: the head of the list, contended with (R32). TAG: the epoch of a SYNCED
participant (R91), the condition in JOIN and ROLL (R136). SETA: a WAITING arrival at a member becomes committed and is
claimed (R77, R92); S is copied and claimed (R115), as the halt request is (R128); resume requests (R133), presence (R52,
R57), and whether the station is LEAVING (R58). SETB: the stations outside the required set (R93), the objection (R133), C
(R115), the word (R119). VAL: the arrival's value (R94), the halt cause (R128), the nonce (R52). CHK: the station's own check
(R37). DIS: claimed exactly where the station dissents (R39). In every other field it stays recessive, also where the
identity names no round (R27), and within a field the drive stays; the drive of a position is its bit or member (2.2). -/
def Obligations.FieldsLatchAndDriveWhatTheyCarry : Prop :=
  (∀ (s t : State) (r : Round), s.Running → s.mbr.membership ≠ .offline → s.lif.begun = false → s.lif.link = .round →
    s.rnd.round = some r → exec .positionBegins s = .next t → ∃ r', t.rnd.round = some r'
      ∧ t.lif.datDrive = r'.driveNow
      ∧ (r.samples.length ∈ [0, 8, 12, 44, 76, 92, 100] → r'.lost = false)
      ∧ (r.samples.length ∉ [0, 8, 12, 44, 76, 92, 100] → r' = r ∧ t.slots = s.slots)
      ∧ (r.samples.length = 0 → r'.head = s.rnd.requests.head? ∧ t.slots = s.slots
          ∧ r'.field = match s.rnd.requests with
            | [] => .recessive
            | e :: _ => .contend 8 (32 * e.cls.code + e.sel.val))
      ∧ (r.named = none → r.samples.length ∈ [8, 12, 44, 76] → r'.field = .recessive ∧ t.slots = s.slots)
      ∧ (∀ n, r.named = some (.arrive, n) →
          (r.samples.length = 8 → r'.field =
              if Member s ∧ ((s.slot n).state = .ready ∨ (s.slot n).state = .waiting) ∧ (s.slot n).sync = .synced
              then .contend 4 (s.slot n).epoch.toNat else .recessive)
          ∧ (r.samples.length = 12 → OtherSlots n s t
              ∧ t.slot n = { s.slot n with
                  committed := (s.slot n).committed || decide (Member s ∧ (s.slot n).state = .waiting) }
              ∧ r'.field = if Member s ∧ (t.slot n).committed = true then .claim (only s.mbr.number) else .recessive)
          ∧ (r.samples.length = 44 →
              (Member s ∧ ((s.slot n).state = .ready ∨ (s.slot n).state = .waiting) →
                r'.required = some (s.requiredNow n) ∧ r'.field = .claim (~~~s.requiredNow n))
              ∧ (¬(Member s ∧ ((s.slot n).state = .ready ∨ (s.slot n).state = .waiting)) → r'.required = r.required
                  ∧ (r.required = none → r'.field = .recessive)))
          ∧ (r.samples.length = 76 → r'.field =
              if Member s ∧ (s.slot n).committed = true then .contend 16 (s.slot n).arrivalValue.toNat else .recessive))
      ∧ (∀ c n, r.named = some (c, n) → c ≠ .arrive → t.slots = s.slots
          ∧ (r.samples.length = 8 → r'.field =
              if (c = .join ∨ c = .roll) ∧ Member s then .value 4 (match s.hlt.condition with | .running => 15 | .halted => 7)
              else .recessive))
      ∧ (∀ n, r.named = some (.flags, n) →
          (r.samples.length = 12 → r'.field = .claim r'.latchS
            ∧ (Member s → r'.latchS = s.flg.setReq ∧ r'.latchC = s.flg.clearReq)
            ∧ (¬Member s → r'.latchS = r.latchS ∧ r'.latchC = r.latchC))
          ∧ (r.samples.length = 44 → r'.field = .claim r.latchC ∧ r'.latchC = r.latchC)
          ∧ (r.samples.length = 76 → r'.field = .recessive))
      ∧ (∀ n, r.named = some (.halt, n) →
          (r.samples.length = 12 → r'.latchHalt = (if Member s then s.hlt.request else r.latchHalt)
            ∧ r'.field = if r'.latchHalt.isSome then .claim (only s.mbr.number) else .recessive)
          ∧ (r.samples.length = 44 → r'.field = .recessive)
          ∧ (r.samples.length = 76 → r'.field =
              match r.latchHalt with | some cause => .contend 16 cause.toNat | none => .recessive))
      ∧ (∀ n, r.named = some (.resume, n) →
          (r.samples.length = 12 → r'.field =
              if Member s ∧ hasEntry s.rnd.requests .resume 0 = true then .claim (only s.mbr.number) else .recessive)
          ∧ (r.samples.length = 44 →
              (r'.objection = true ↔ Member s ∧ (s.hlt.commandHold = true ∨ s.hlt.inputHold ≠ 0#4))
              ∧ r'.field = if r'.objection then .claim (only s.mbr.number) else .recessive)
          ∧ (r.samples.length = 76 → r'.field = .recessive))
      ∧ (∀ c n, r.named = some (c, n) → c = .join ∨ c = .roll →
          (r.samples.length = 12 → r'.field =
              if s.mbr.membership = .online ∨ c = .join ∧ s.mbr.membership = .leaving then .claim (only s.mbr.number)
              else .recessive)
          ∧ (r.samples.length = 12 → c = .roll → (r'.leavingAtSeta = true ↔ s.mbr.membership = .leaving))
          ∧ (r.samples.length = 44 → r'.field = if Member s then .flagWord s.flg.word else .recessive)
          ∧ (r.samples.length = 76 →
              (∀ v, c = .join → s.mbr.membership = .joining → s.mbr.number = n → s.mbr.nonce = some v →
                r'.field = .contend 16 v.toNat)
              ∧ (¬(c = .join ∧ s.mbr.membership = .joining ∧ s.mbr.number = n) → r'.field = .recessive)))
      ∧ (r.samples.length = 92 → r'.field = .value 8 r.check.toNat ∧ t.slots = s.slots)
      ∧ (r.samples.length = 100 → r'.field = (if r.dissent.any then .claim (only 0) else .recessive) ∧ t.slots = s.slots))
  ∧ ∀ r : Round, r.samples.length ≤ 100 → ∃ base, base ∈ [0, 8, 12, 44, 76, 92, 100] ∧ base ≤ r.samples.length
      ∧ (∀ b, b ∈ [0, 8, 12, 44, 76, 92, 100] → b ≤ r.samples.length → b ≤ base)
      ∧ r.driveNow =
        if r.lost then .released
        else match r.field with
          | .recessive => .released
          | .contend width n | .value width n =>
            if n.testBit (width - 1 - (r.samples.length - base)) then .released else .low
          | .claim members => if members.getLsbD (r.samples.length - base) then .low else .released
          | .flagWord w => if w.getLsbD (r.samples.length - base) then .released else .low

/-- POSITION_SAMPLED (R11, R38): the sampled level and the own drive are kept, the position advances, tHIGH is counted
from the rise, and a position driven dominant but sampled recessive fails the drive check. The drivers stay. The
reasons to dissent that a round finds as its fields end (R39): CLASS at the end of position 7 where the identity names
no round (R27), SKEW at the end of TAG of an ARRIVE round where the station contended with its epoch and lost (R95),
EXCLUSION at the end of SETB where a member of the station's required set is claimed (R96), CHECK at the end of position 99
where the sampled CHK differs from the station's own check (R37). A contention is lost where the station drives recessive
and the sample is dominant (R23). -/
def Obligations.PositionsAreSampledAndJudged : Prop :=
  (∀ (dat : Level) (s : State) (r : Round), s.Running → s.lif.link = .round → s.lif.begun = true →
    s.lif.stbDrive = .released → s.rnd.round = some r → r.samples.length < 100 →
    ∃ t r', exec (.positionSampled dat) s = .next t ∧ t.rnd = { s.rnd with round := some r' }
      ∧ r'.samples = r.samples ++ [dat] ∧ r'.drives = r.drives ++ [s.lif.datDrive]
      ∧ r'.dissent.drive = (r.dissent.drive || (s.lif.datDrive == .low && dat == .high))
      ∧ r'.lost = (r.lost || (r.field.isContend && s.lif.datDrive == .released && dat == .low)) ∧ r'.field = r.field
      ∧ t.lif.link = .round ∧ t.lif.begun = false ∧ t.lif.tHigh = some 2 ∧ t.lif.stb = .high ∧ t.lif.dat = dat
      ∧ t.lif.stbDrive = .released ∧ t.lif.datDrive = s.lif.datDrive ∧ Only [.lif, .rnd] s t)
  ∧ (∀ (dat : Level) (s t : State) (r r' : Round), s.Running → s.lif.link = .round → s.lif.begun = true →
    s.lif.stbDrive = .released → s.rnd.round = some r → r.samples.length < 100 →
    exec (.positionSampled dat) s = .next t → t.rnd.round = some r' →
      (r.samples.length = 7 → (r'.dissent.cls = false ↔
          r'.identity / 32 ≤ 5 ∧ (r'.identity / 32 = 2 ∨ r'.identity / 32 = 3 ∨ r'.identity % 32 = 0)))
      ∧ (r.samples.length = 99 → (r'.dissent.check = true ↔ r'.chk ≠ r'.check))
      ∧ (∀ n, r.samples.length = 11 → r.named = some (.arrive, n) →
          (r'.dissent.skew = true ↔ (∃ width e, r.field = .contend width e) ∧ r'.lost = true))
      ∧ (∀ c n, r.samples.length = 11 → r.named = some (c, n) → c ≠ .arrive → r'.dissent.skew = r.dissent.skew)
      ∧ (∀ required, r.samples.length = 75 → r.required = some required →
          (r'.dissent.exclusion = true ↔ r'.setB &&& required ≠ 0#32))
      ∧ (r.samples.length = 75 → r.required = none → r'.dissent.exclusion = r.dissent.exclusion)
      ∧ (r.samples.length ≠ 7 → r'.dissent.cls = r.dissent.cls)
      ∧ (r.samples.length ≠ 99 → r'.dissent.check = r.dissent.check)
      ∧ (r.samples.length ≠ 11 → r'.dissent.skew = r.dissent.skew)
      ∧ (r.samples.length ≠ 75 → r'.dissent.exclusion = r.dissent.exclusion))

/-- The check (R36): preset to all ones when the round starts; each sampled position 0 to 91 is combined with the top bit of
the accumulator, which is shifted toward that end, 0x07 being combined in where the feedback bit is 1; CHK and DIS do not
enter it. -/
def Obligations.CheckIsComputedOverPositions0To91 : Prop :=
  (∀ s t : State, s.Running → s.mbr.membership ≠ .offline → s.lif.link = .idle → exec .roundStart s = .next t →
    ∃ r, t.rnd.round = some r ∧ r.check = 0xFF#8)
  ∧ ∀ (dat : Level) (s t : State) (r r' : Round), s.Running → s.lif.link = .round → s.lif.begun = true →
    s.lif.stbDrive = .released → s.rnd.round = some r → r.samples.length < 100 →
    exec (.positionSampled dat) s = .next t → t.rnd.round = some r' →
      r'.check =
        if r.samples.length < 92 then
          if r.check.getLsbD 7 = (dat == .high) then r.check <<< 1 else (r.check <<< 1) ^^^ 0x07#8
        else r.check

/-- TLOW_EXPIRED (R10): the station releases STB, the wake stretch with it, and its DAT drive stays. CLOSING_END (R13):
IDLE with the idle timer started from the rise where DAT is high, SEEKING where it is low. BUS_IDLE (R6, R16): SEEKING
becomes IDLE, IDLE stays so with tIDLE reached, FAULT becomes DETACHED. -/
def Obligations.StbIsReleasedAndTheBusFramed : Prop :=
  (∀ s : State, s.Running → s.lif.begun = true →
    (s.lif.stbDrive = .low → s.lif.link = .round ∨ s.lif.link = .closing → ∃ t, exec .tlowExpired s = .next t
      ∧ t.lif = { s.lif with stbDrive := .released, stretch := false, tLow := none } ∧ Only [.lif] s t)
    ∧ (s.lif.stbDrive = .released → s.lif.link = .closing →
      (∃ t, exec (.closingEnd .high) s = .next t ∧ t.lif.link = .idle ∧ t.lif.idleTimer = 2
        ∧ t.lif.stbDrive = .released ∧ t.lif.datDrive = .released ∧ Only [.lif] s t)
      ∧ ∃ t, exec (.closingEnd .low) s = .next t ∧ t.lif.link = .seeking
        ∧ t.lif.stbDrive = .released ∧ t.lif.datDrive = .released ∧ Only [.lif] s t))
  ∧ (∀ s : State, s.Running → s.lif.stbDrive = .released → s.lif.datDrive = .released →
    (s.lif.link = .seeking ∨ s.lif.link = .idle → ∃ t, exec .busIdle s = .next t ∧ t.lif.link = .idle
      ∧ s.cfg.tIdle.toNat ≤ t.lif.idleTimer ∧ Only [.lif] s t)
    ∧ (s.lif.link = .fault → ∃ t, exec .busIdle s = .next t ∧ t.lif.link = .detached ∧ Only [.lif] s t))

/-- LINE_STUCK (R15, R63): in SEEKING, IDLE, ROUND, CLOSING and RESETTING the link enters FAULT with both drivers released, any
pulse ended, the detector disarmed and the round abandoned; a station on the bus goes OFFLINE. A line that stood at tSTUCK as a
pulse began from DETACHED or FAULT is exempt and is not found stuck; the exemption ends with the pulse. -/
def Obligations.StuckLineLeadsToFault : Prop :=
  ∀ (line : StuckLine) (s : State), s.Running → s.lif.link ≠ .detached → s.lif.link ≠ .fault →
    (line ≠ .dat ∧ s.lif.stbExempt = false ∨ line ≠ .stb ∧ s.lif.datExempt = false → ∃ t, exec (.lineStuck line) s = .next t
      ∧ t.lif.link = .fault ∧ t.lif.stbDrive = .released ∧ t.lif.datDrive = .released ∧ t.lif.pulse = none
      ∧ t.lif.stbExempt = false ∧ t.lif.datExempt = false
      ∧ t.lif.armed = false ∧ t.rnd.round = none ∧ t.mbr.membership = .offline ∧ t.mbr.number = s.mbr.number
      ∧ (s.mbr.membership ≠ .offline → t.rnd.requests = [] ∧ t.mbr.roster = 0#32 ∧ t.flg.sync = .unsynced
          ∧ t.hlt.condition = .running)
      ∧ t.cfg = s.cfg ∧ (∀ i, (t.slot i).cfg = (s.slot i).cfg ∧ (t.slot i).result = (s.slot i).result)
      ∧ OnlyDisarms s t ∧ Only [.lif, .rnd, .mbr, .slots, .flg, .hlt, .pin, .log, .ntf] s t)
    ∧ (s.lif.stbExempt = true → s.lif.datExempt = true → ∃ t, exec (.lineStuck line) s = .next t ∧ Only [] s t)

/-- BUS_RESET_RECOGNISED at each membership (R64, R31, R87, R121, R138), the low intervals being measured by the stuck timers
(log 23, the model's reading): a BUS_RESET record and a BUS event everywhere, the record first; an
OFFLINE station takes nothing further; a JOINING one keeps its JOIN entry with void count 0 and its nonce; a LEAVING one
goes OFFLINE; an ONLINE one has its own number alone as roster, a ROLL entry, enabled slots READY and SYNCED at epoch 0, the
word 0 and SYNCED, and the condition RUNNING with nothing held. The link state stays (R19). -/
def Obligations.RecognisedBusResetRebasesTheStation : Prop :=
  ∀ s : State, Recognises s → ∃ t, exec .busResetRecognised s = .next t ∧ t.lif.armed = false
    ∧ ReportsFirst s t .busReset s.mbr.number
        (match s.mbr.membership with | .offline => 0#8 | .joining => 1#8 | .online => 2#8 | .leaving => 3#8)
        s.mbr.roster 0#16 .bus
    ∧ (s.mbr.membership = .offline → t.lif.link = s.lif.link
        ∧ Reports s t .busReset s.mbr.number 0#8 s.mbr.roster 0#16 .bus ∧ Only [.lif, .log, .ntf] s t)
    ∧ (s.mbr.membership = .joining → t.lif.link = s.lif.link
        ∧ Reports s t .busReset s.mbr.number 1#8 s.mbr.roster 0#16 .bus
        ∧ t.rnd.round = s.rnd.round
        ∧ t.rnd.requests = ((s.rnd.requests.filter fun e => e.cls == .join).map fun e => { e with voids := 0 })
        ∧ Only [.lif, .log, .ntf, .rnd] s t)
    ∧ (s.mbr.membership = .leaving → t.mbr.membership = .offline ∧ t.rnd.requests = [] ∧ t.flg.sync = .unsynced)
    ∧ (s.mbr.membership = .online → t.lif.link = s.lif.link
        ∧ t.mbr = { s.mbr with roster := only s.mbr.number, rollTimer := 0 }
        ∧ hasEntry t.rnd.requests .roll 0 = true ∧ t.flg.word = 0#32 ∧ t.flg.sync = .synced ∧ t.flg.clearReq = 0#32
        ∧ t.hlt = Hlt.clear .running
        ∧ ∀ i, (s.slot i).cfg.enabled = true → t.slot i = (s.slot i).rebase .synced)
    ∧ OnlyDisarms s t ∧ Only [.lif, .log, .ntf, .rnd, .mbr, .slots, .flg, .hlt, .pin] s t

/-! ### Round ends -/

/-- HALT_ROUND (R129, R86): with SETA not empty a member becomes HALTED, its request and HALT entry go, its holds stay, and
every arrival is aborted after the HALT record; with SETA empty, and at a station that is no member, nothing changes but the
void count of the HALT entry. The link is CLOSING (R13). -/
def Obligations.HaltRoundHaltsMembers : Prop :=
  ∀ (s : State) (r : Round) (n : Fin 32), Accepts s r .halt n → ∃ t, exec .haltRound s = .next t ∧ Closing t
    ∧ (Member s ∧ r.setA ≠ 0#32 →
        t.hlt = { s.hlt with condition := .halted, request := none }
          ∧ hasEntry t.rnd.requests .halt 0 = false
          ∧ (∀ i, (s.slot i).state = .waiting → (t.slot i).state = .ready ∧ (t.slot i).arrival = none
              ∧ hasEntry t.rnd.requests .arrive i = false)
          ∧ (∀ i, (s.slot i).state ≠ .waiting → (t.slot i).state = (s.slot i).state)
          ∧ (∀ i, (s.slot i).cfg.enabled = true → (t.slot i).lastSeen = 0#32)
          ∧ (∀ i, (t.slot i).epoch = (s.slot i).epoch ∧ (t.slot i).sync = (s.slot i).sync
              ∧ (t.slot i).result = (s.slot i).result ∧ (t.slot i).cfg = (s.slot i).cfg)
          ∧ (∀ c n, c ≠ .halt → c ≠ .arrive → findEntry t.rnd.requests c n = findEntry s.rnd.requests c n)
          ∧ (∀ i, (s.slot i).state ≠ .waiting → findEntry t.rnd.requests .arrive i = findEntry s.rnd.requests .arrive i)
          ∧ ReportsFirst s t .halt s.mbr.number 1#8 r.setA r.val .halt
          ∧ ((∀ i, (s.slot i).state ≠ .waiting) → Reports s t .halt s.mbr.number 1#8 r.setA r.val .halt))
    ∧ (¬(Member s ∧ r.setA ≠ 0#32) →
        t.rnd.requests = (s.rnd.requests.map fun e => if e.cls = .halt ∧ e.sel = 0 then { e with voids := 0 } else e)
          ∧ Only [.lif, .rnd] s t)
    ∧ OnlyDisarms s t ∧ Only [.lif, .rnd, .hlt, .slots, .pin, .log, .ntf] s t

/-- RESUME_ROUND (R134): with requesters and no objector a member is RUNNING with its holds cleared and a RESUME record; with
objectors it keeps condition and holds, with a RESUME_REFUSED record; in both its pending resume and RESUME entry go. A
command hold set since SETB began asks again with its held cause, and a level input that joined the holds since then asks
again with its own. With SETA empty, and at a station that is no member, nothing changes but the void count of the RESUME
entry. -/
def Obligations.ResumeRoundResumesOrIsRefused : Prop :=
  ∀ (s : State) (r : Round) (n : Fin 32), Accepts s r .resume n → ∃ t, exec .resumeRound s = .next t ∧ Closing t
    ∧ (Member s ∧ r.setA ≠ 0#32 → hasEntry t.rnd.requests .resume 0 = false
        ∧ (r.setB ≠ 0#32 → t.hlt = { s.hlt with resumePending := false }
            ∧ Reports s t .resumeRefused s.mbr.number 0#8 r.setB (BitVec.ofNat 16 (card r.setA)) .resume)
        ∧ (r.setB = 0#32 → t.hlt.condition = .running ∧ t.hlt.resumePending = false
            ∧ Reports s t .resume s.mbr.number 1#8 r.setA 0#16 .resume
            ∧ (s.hlt.commandHold = false → s.hlt.inputHold = 0#4 →
                t.hlt = { condition := .running, request := s.hlt.request, commandHold := false, heldCause := none
                          inputHold := 0#4, resumePending := false })
            ∧ (∀ c, s.mbr.membership = .online → s.hlt.commandHold = true → s.hlt.heldCause = some c →
                s.hlt.inputHold = 0#4 → s.hlt.request = none →
                t.hlt = { condition := .running, request := some c, commandHold := true, heldCause := none
                          inputHold := 0#4, resumePending := false }
                  ∧ hasEntry t.rnd.requests .halt 0 = true)
            ∧ (s.mbr.membership = .online → t.hlt.inputHold = s.hlt.inputHold
                ∧ (s.hlt.inputHold ≠ 0#4 → t.hlt.request.isSome = true ∧ hasEntry t.rnd.requests .halt 0 = true))
            ∧ (s.mbr.membership ≠ .online → t.hlt.inputHold = 0#4 ∧ t.hlt.request = s.hlt.request)
            ∧ (∀ k : Fin 4, s.mbr.membership = .online → s.hlt.commandHold = false → s.hlt.request = none →
                s.hlt.inputHold.getLsbD k.val = true → (∀ j : Fin 4, j < k → s.hlt.inputHold.getLsbD j.val = false) →
                t.hlt.request = some (BitVec.ofNat 16 (0x8100 + k.val))))
        ∧ (∀ c n, c ≠ .resume → c ≠ .halt → findEntry t.rnd.requests c n = findEntry s.rnd.requests c n)
        ∧ (r.setB ≠ 0#32 → findEntry t.rnd.requests .halt 0 = findEntry s.rnd.requests .halt 0))
    ∧ (¬(Member s ∧ r.setA ≠ 0#32) →
        t.rnd.requests = (s.rnd.requests.map fun e => if e.cls = .resume ∧ e.sel = 0 then { e with voids := 0 } else e)
          ∧ Only [.lif, .rnd] s t)
    ∧ Only [.lif, .rnd, .hlt, .log, .ntf] s t

/-- JOIN_ROUND (R53, R54, R88, R120, R136): the joiner of the selector's number is refused if its number is in SETA or another
nonce won, and is admitted otherwise; a member takes SETA with the joiner where the joiner is not in SETA, and restarts its
roll timer; any other joiner takes nothing. -/
def Obligations.JoinRoundAdmitsOrRefuses : Prop :=
  ∀ (s : State) (r : Round) (n : Fin 32), Accepts s r .join n → ∃ t, exec .joinRound s = .next t
    ∧ (s.mbr.membership = .joining → s.mbr.number ≠ n → Closing t ∧ t.rnd.requests = s.rnd.requests ∧ Only [.lif, .rnd] s t)
    ∧ (s.mbr.membership = .joining → s.mbr.number = n →
        r.setA.getLsbD n.val = true ∨ s.mbr.nonce ≠ some r.val ∧ s.mbr.nonce ≠ none →
        WentOffline s t ∧ t.lif.link = .detached ∧ t.lif.stbDrive = .released ∧ t.lif.datDrive = .released
          ∧ OnlyDisarms s t ∧ Only [.lif, .rnd, .mbr, .slots, .flg, .hlt, .pin, .log, .ntf] s t)
    ∧ (s.mbr.membership = .joining → s.mbr.number = n → r.setA.getLsbD n.val = false → s.mbr.nonce = some r.val →
        Closing t
          ∧ t.mbr = { s.mbr with membership := .online, roster := r.setA ||| only n, rollTimer := 0, nonce := none }
          ∧ hasEntry t.rnd.requests .join n = false
          ∧ t.flg.word = (if r.setA = 0#32 then 0#32 else r.wordB) ∧ t.flg.sync = .synced
          ∧ t.hlt.condition = (if r.setA ≠ 0#32 ∧ r.tag.getLsbD 3 = false then .halted else s.hlt.condition)
          ∧ (∀ i, (s.slot i).cfg.enabled = true →
              t.slot i = { s.slot i with state := .ready, sync := .unsynced, epoch := 0#4 })
          ∧ (∀ i, (s.slot i).cfg.enabled = false → t.slot i = s.slot i)
          ∧ Only [.lif, .rnd, .mbr, .slots, .flg, .hlt, .log, .ntf] s t)
    ∧ (Member s → Closing t
        ∧ t.mbr = { s.mbr with
            rollTimer := 0, roster := if r.setA.getLsbD n.val then s.mbr.roster else r.setA ||| only n }
        ∧ (r.setA.getLsbD n.val = false → r.setA ||| only n ≠ s.mbr.roster →
            Reports s t .roster n 2#8 (r.setA ||| only n) (BitVec.ofNat 16 (card (r.setA ||| only n))) .roster)
        ∧ Only [.lif, .rnd, .mbr, .log, .ntf] s t)

/-- ARRIVE_ROUND that completes the slot (R97 to R101, R103): SETA covers the non-empty required set taken at SETB. The epoch
is first adopted if UNSYNCED (R98); the result record holds it with SETA and VAL, the epoch advances, and a COMPLETE record
with its SLOT event follows. A committed arrival is released with its entry, with a TOO_LATE record where a withdrawal was
pending (R78), and a level-armed input that was its source and is still active and armed attempts again with a new arrival,
uncommitted and with a new timeout, or is disarmed where the attempt is refused (R144). An arrival taken since SETA began is
kept. An arrival's source input is configured for its slot (an invariant, EveryStepKeepsTheSlotsSound). -/
def Obligations.ArriveRoundCompletesTheSlot : Prop :=
  ∀ (s : State) (r : Round) (n : Fin 32) (required : Set32), Accepts s r .arrive n → r.required = some required →
    required ≠ 0#32 → required &&& r.setA = required → SourceBound n s → ∃ t, exec .arriveRound s = .next t ∧ Closing t
      ∧ OtherSlots n s t ∧ OtherEntries .arrive n (s.setRnd { s.rnd with round := none }) t
      ∧ (t.slot n).result = some { epoch := (s.slot n).epochAfter r.tag, arrived := r.setA, agreed := r.val, time := s.tsc.time }
      ∧ (t.slot n).epoch = (s.slot n).epochAfter r.tag + 1
      ∧ (t.slot n).sync = .synced ∧ (t.slot n).lastSeen = 0#32
      ∧ ((s.slot n).committed = false → (t.slot n).state = (s.slot n).state ∧ (t.slot n).arrival = (s.slot n).arrival
          ∧ ReportsSlot s t n .complete (((s.slot n).epochAfter r.tag).setWidth 8) r.setA r.val)
      ∧ ((s.slot n).committed = true →
          ((s.slot n).withdrawPending = false →
            ReportsSlot s t n .complete (((s.slot n).epochAfter r.tag).setWidth 8) r.setA r.val)
          ∧ ((s.slot n).withdrawPending = true →
            ReportsSlot (s.offerSlot n .complete (((s.slot n).epochAfter r.tag).setWidth 8) r.setA r.val) t n .tooLate
              (((s.slot n).epochAfter r.tag).setWidth 8) r.setA (s.slot n).arrivalValue)
          ∧ (∀ a k, (s.slot n).arrival = some a → a.source = .input k → s.LevelArmed k → s.InputActive k →
              (s.input k).armed = true →
              (s.MayArrive n → t.slot n = { (t.slot n).dropArrival with
                    state := .waiting
                    arrival := some { value := (s.inputCfg k).value, source := .input k, time := s.tsc.time } }
                ∧ findEntry t.rnd.requests .arrive n = some { cls := .arrive, sel := n, voids := 0 }
                ∧ (t.input k).armed = true)
              ∧ (¬s.MayArrive n → (t.slot n).state = .ready ∧ (t.slot n).arrival = none
                ∧ hasEntry t.rnd.requests .arrive n = false ∧ (t.input k).armed = false))
          ∧ ((∀ a k, (s.slot n).arrival = some a → a.source = .input k →
                ¬(s.LevelArmed k ∧ s.InputActive k ∧ (s.input k).armed = true)) →
              (t.slot n).state = .ready ∧ (t.slot n).arrival = none ∧ hasEntry t.rnd.requests .arrive n = false
                ∧ ∀ k, t.input k = s.input k))
      ∧ (∀ o : Fin 4, (s.outputCfg o).mode = .pulse → low5 (s.outputCfg o).target = n →
          t.output o = { active := true, pulse := some 0 })
      ∧ (∀ o : Fin 4, (s.outputCfg o).mode = .toggle → low5 (s.outputCfg o).target = n →
          (t.output o).active = !(s.output o).active)
      ∧ (∀ o : Fin 4, (s.outputCfg o).mode ≠ .pulse ∧ (s.outputCfg o).mode ≠ .toggle
          ∨ low5 (s.outputCfg o).target ≠ n → t.output o = s.output o)
      ∧ t.pin.cfg = s.pin.cfg
      ∧ (∀ k : Fin 4, t.input k = s.input k ∨ t.input k = { s.input k with armed := false })
      ∧ Only [.lif, .rnd, .slots, .pin, .log, .ntf] s t

/-- ARRIVE_ROUND that does not complete the slot (R98, R102, R103): the epoch is adopted if UNSYNCED, the last-seen set is SETA,
the arrival is published if the station is in SETA, and its entry then goes. Where no withdrawal or timeout is pending the
arrival stays WAITING and is committed no more; a pending withdrawal of a committed arrival takes effect, else a pending
timeout does (R78, R82), after the PROGRESS record. A slot that did not take part at SETB is not evaluated. -/
def Obligations.ArriveRoundRecordsProgress : Prop :=
  ∀ (s : State) (r : Round) (n : Fin 32), Accepts s r .arrive n →
    (∀ required, r.required = some required → ¬(required ≠ 0#32 ∧ required &&& r.setA = required) →
      (s.slot n).withdrawPending = false → (s.slot n).timeoutPending = false →
      ∃ t, exec .arriveRound s = .next t ∧ Closing t ∧ OtherSlots n s t
        ∧ (t.slot n).lastSeen = r.setA ∧ (t.slot n).sync = .synced
        ∧ (t.slot n).epoch = (s.slot n).epochAfter r.tag
        ∧ (t.slot n).state = (s.slot n).state ∧ (t.slot n).arrival = (s.slot n).arrival
        ∧ (t.slot n).result = (s.slot n).result
        ∧ ((s.slot n).state = .waiting → (t.slot n).committed = false)
        ∧ ((s.slot n).state = .waiting → r.setA.getLsbD s.mbr.number.val = true →
            (t.slot n).published = true ∧ hasEntry t.rnd.requests .arrive n = false)
        ∧ ((s.slot n).published = false → r.setA.getLsbD s.mbr.number.val = false → (t.slot n).published = false
            ∧ hasEntry t.rnd.requests .arrive n = hasEntry s.rnd.requests .arrive n)
        ∧ Only [.lif, .rnd, .slots, .log, .ntf] s t)
    ∧ (∀ required, r.required = some required → ¬(required ≠ 0#32 ∧ required &&& r.setA = required) →
      (s.slot n).state = .waiting → (s.slot n).committed = true →
      (s.slot n).withdrawPending = true ∨ (s.slot n).timeoutPending = true →
      ∃ t, exec .arriveRound s = .next t ∧ Closing t
        ∧ t.slot n = { (s.slot n).dropArrival with
            state := .ready, sync := .synced, epoch := (s.slot n).epochAfter r.tag, lastSeen := r.setA }
        ∧ ReportsSlot (if (s.slot n).cfg.logProgress then
              s.offer .progress n (((s.slot n).epochAfter r.tag).setWidth 8) r.setA r.val else s) t n
            (if (s.slot n).withdrawPending then .withdrawn else .timeout) (((s.slot n).epochAfter r.tag).setWidth 8) r.setA
            (s.slot n).arrivalValue
        ∧ ArrivalGone n ((s.slot n).withdrawPending = false) s t)
    ∧ (r.required = none → ∃ t, exec .arriveRound s = .next t ∧ Closing t ∧ t.slots = s.slots ∧ Only [.lif, .rnd] s t)

/-- FLAGS_ROUND (R116): a member sets the bits of SETA and then clears those of SETB, removes what it had latched from S and
C, and its entry goes if both are empty; a changed word gives a FLAGS record and event. -/
def Obligations.FlagsRoundChangesTheWord : Prop :=
  ∀ (s : State) (r : Round) (n : Fin 32), Accepts s r .flags n → ∃ t, exec .flagsRound s = .next t ∧ Closing t
    ∧ (Member s →
        t.flg = { word := (s.flg.word ||| r.setA) &&& ~~~r.setB, sync := .synced
                  setReq := s.flg.setReq &&& ~~~r.latchS, clearReq := s.flg.clearReq &&& ~~~r.latchC }
          ∧ (t.flg.setReq ||| t.flg.clearReq = 0#32 → hasEntry t.rnd.requests .flags 0 = false)
          ∧ (t.flg.setReq ||| t.flg.clearReq ≠ 0#32 → ∀ e, findEntry t.rnd.requests .flags 0 = some e → e.voids = 0)
          ∧ (t.flg.word = s.flg.word → t.log = s.log ∧ t.ntf = s.ntf)
          ∧ (t.flg.word ≠ s.flg.word → Reports s t .flags s.mbr.number 1#8 t.flg.word
              (BitVec.ofNat 16 (card (s.flg.word ^^^ t.flg.word))) .flags))
    ∧ (¬Member s → Only [.lif, .rnd] s t)
    ∧ Only [.lif, .rnd, .flg, .log, .ntf] s t

/-- ROLL_ROUND (R58, R120, R137): an ONLINE station takes SETA as its roster and SETB as its word, restarts its roll timer,
loses its ROLL entry, and is HALTED if TAG carries it; one that was LEAVING when SETA began goes OFFLINE; one that took
LEAVE since stays LEAVING with its entry; a joiner takes
nothing. A roster change (R108): each enabled and WAITING slot of participation ROSTER whose last-seen set covers the new
roster, which is not empty, holds an ARRIVE entry afterwards, a probe where it held none. -/
def Obligations.RollRoundRefreshesTheRoster : Prop :=
  (∀ (s : State) (r : Round) (n : Fin 32), Accepts s r .roll n → ∃ t, exec .rollRound s = .next t
    ∧ (s.mbr.membership = .joining → Closing t ∧ t.rnd.requests = s.rnd.requests ∧ Only [.lif, .rnd] s t)
    ∧ (s.mbr.membership = .leaving → r.leavingAtSeta = true →
        t.mbr = { s.mbr with membership := .offline, roster := 0#32, rollTimer := 0, nonce := none }
          ∧ t.rnd = { requests := [], round := none } ∧ t.lif.link = .detached ∧ t.lif.stbDrive = .released
          ∧ t.lif.datDrive = .released ∧ t.flg.sync = .unsynced ∧ t.flg.word = 0#32 ∧ t.hlt = Hlt.clear .running)
    ∧ (s.mbr.membership = .online ∨ s.mbr.membership = .leaving ∧ r.leavingAtSeta = false →
        Closing t ∧ t.mbr = { s.mbr with roster := r.setA, rollTimer := 0 }
          ∧ t.flg = { s.flg with word := r.wordB, sync := .synced }
          ∧ (s.hlt.condition = .halted ∨ r.tag.getLsbD 3 = true → t.hlt = s.hlt)
          ∧ (s.hlt.condition = .running → r.tag.getLsbD 3 = false →
              t.hlt = { s.hlt with condition := .halted, request := none } ∧ ∀ i, (t.slot i).state ≠ .waiting)
          ∧ (s.mbr.membership = .online → hasEntry t.rnd.requests .roll 0 = false)
          ∧ (s.mbr.membership = .leaving → hasEntry t.rnd.requests .roll 0 = hasEntry s.rnd.requests .roll 0))
    ∧ OnlyDisarms s t ∧ Only [.lif, .rnd, .mbr, .slots, .flg, .hlt, .pin, .log, .ntf] s t)
  ∧ ∀ (s t : State) (r : Round) (n : Fin 32) (i : SlotNo), Accepts s r .roll n → s.mbr.membership = .online →
    exec .rollRound s = .next t → r.setA ≠ s.mbr.roster → r.setA ≠ 0#32 →
    s.hlt.condition = .halted ∨ r.tag.getLsbD 3 = true →
    (s.slot i).cfg.enabled = true → (s.slot i).cfg.participation = .roster → (s.slot i).state = .waiting →
      (r.setA &&& ~~~(s.slot i).lastSeen = 0#32 → hasEntry t.rnd.requests .arrive i = true
        ∧ (hasEntry s.rnd.requests .arrive i = false → (t.slot i).probe = true))
      ∧ (r.setA &&& ~~~(s.slot i).lastSeen ≠ 0#32 →
          hasEntry t.rnd.requests .arrive i = hasEntry s.rnd.requests .arrive i ∧ t.slot i = s.slot i)

/-- VOID_ROUND (R41, R42): a VOID record with a BUS event, also for an identity that names no round (log 17, the model's reading);
where the list holds no entry of the round's identity and no arrival is committed to it nothing else changes; where it holds
one within its retry limit the void is counted; other entries are not touched while it stays. An arrival committed to an
ARRIVE round is committed no more, and its entry's void is counted; a pending withdrawal takes effect, else a pending timeout
does (R78, R82, R104). -/
def Obligations.VoidRoundCountsAVoid : Prop :=
  ∀ (dis : Level) (s : State) (r : Round), AtRoundEnd s r → dis = .low ∨ r.dissent.any = true →
    ∃ t, exec (.voidRound dis) s = .next t
      ∧ (r.named = none → Closing t ∧ t.rnd.requests = s.rnd.requests
          ∧ Reports s t .void (Fin.ofNat 32 r.identity) r.dissent.tag r.setA (BitVec.ofNat 16 (r.identity / 32)) .bus
          ∧ Only [.lif, .rnd, .log, .ntf] s t)
      ∧ (∀ c n, r.named = some (c, n) → (c ≠ .arrive ∨ (s.slot n).committed = false) →
          (findEntry s.rnd.requests c n = none → Closing t ∧ t.rnd.requests = s.rnd.requests
            ∧ Reports s t .void n r.dissent.tag r.setA (BitVec.ofNat 16 c.code) .bus ∧ Only [.lif, .rnd, .log, .ntf] s t)
          ∧ ∀ e, findEntry s.rnd.requests c n = some e → e.voids < s.retryLimit c n →
              Closing t ∧ findEntry t.rnd.requests c n = some { e with voids := e.voids + 1 }
                ∧ (∀ c' n', (c', n') ≠ (c, n) → findEntry t.rnd.requests c' n' = findEntry s.rnd.requests c' n')
                ∧ Reports s t .void n r.dissent.tag r.setA (BitVec.ofNat 16 c.code) .bus ∧ Only [.lif, .rnd, .log, .ntf] s t)
      ∧ ∀ n, r.named = some (.arrive, n) → (s.slot n).state = .waiting → (s.slot n).committed = true →
          (∀ e, findEntry s.rnd.requests .arrive n = some e → e.voids < s.retryLimit .arrive n) →
          ((s.slot n).withdrawPending = false → (s.slot n).timeoutPending = false →
            Closing t ∧ t.slot n = { s.slot n with committed := false } ∧ OtherSlots n s t
              ∧ findEntry t.rnd.requests .arrive n
                = (findEntry s.rnd.requests .arrive n).map (fun e => { e with voids := e.voids + 1 })
              ∧ (∀ c' n', (c', n') ≠ (.arrive, n) → findEntry t.rnd.requests c' n' = findEntry s.rnd.requests c' n')
              ∧ Reports s t .void n r.dissent.tag r.setA 3#16 .bus ∧ Only [.lif, .rnd, .slots, .log, .ntf] s t)
          ∧ ((s.slot n).withdrawPending = true ∨ (s.slot n).timeoutPending = true →
            Closing t ∧ t.slot n = { (s.slot n).dropArrival with state := .ready }
              ∧ ReportsSlot ((s.offer .void n r.dissent.tag r.setA 3#16).raise .bus) t n
                  (if (s.slot n).withdrawPending then .withdrawn else .timeout) ((s.slot n).epoch.setWidth 8)
                  (s.slot n).lastSeen (s.slot n).arrivalValue
              ∧ ArrivalGone n ((s.slot n).withdrawPending = false) s t)

/-- A void past the retry limit drops the entry (R43): an ARRIVE entry takes its slot into FAULT (R105), a JOIN entry takes the
station OFFLINE (R55), a HALT entry takes the request and the command hold (R131), a RESUME entry the pending resume (R135),
a FLAGS entry the requests (R117), a ROLL entry a LEAVING station OFFLINE (R59). -/
def Obligations.VoidPastTheRetryLimitDropsTheEntry : Prop :=
  ∀ (dis : Level) (s t : State) (r : Round) (c : Machine.Class) (n : Fin 32) (e : Entry), AtRoundEnd s r →
    dis = .low ∨ r.dissent.any = true → r.named = some (c, n) → findEntry s.rnd.requests c n = some e →
    s.retryLimit c n ≤ e.voids → exec (.voidRound dis) s = .next t →
      hasEntry t.rnd.requests c n = false
        ∧ (c = .arrive → t.slot n = { (s.slot n).dropArrival with state := .fault } ∧ OtherSlots n s t ∧ t.hlt = s.hlt)
        ∧ (c = .join → t.mbr.membership = .offline)
        ∧ (c = .halt → t.hlt = { s.hlt with request := none, commandHold := false, heldCause := none })
        ∧ (c = .resume → t.hlt = { s.hlt with resumePending := false })
        ∧ (c = .flags → t.flg = { s.flg with setReq := 0#32, clearReq := 0#32 })
        ∧ (c = .roll → t.mbr.membership = if s.mbr.membership = .leaving then .offline else s.mbr.membership)
        ∧ (c = .halt ∨ c = .resume → Only [.lif, .rnd, .hlt, .log, .ntf] s t)
        ∧ (c = .flags → Only [.lif, .rnd, .flg, .log, .ntf] s t)
        ∧ (c = .arrive → Only [.lif, .rnd, .slots, .pin, .log, .ntf] s t)
        ∧ OnlyDisarms s t ∧ Only [.lif, .rnd, .mbr, .slots, .flg, .hlt, .pin, .log, .ntf] s t

/-! ### Invariants -/

/-- The log never holds more than 16 records (R154). The transfer in progress stays sound: it has shifted out as many bytes as
it has received, and a record is being shifted out only in READ LOG (R157, R165). -/
def Obligations.EveryStepKeepsTheLogBoundedAndThePortSound : Prop :=
  (∀ s t : State, LogBounded s → step s = .next t → LogBounded t)
    ∧ ∀ s t : State, PortSound s → step s = .next t → PortSound t

/-- The flag unit's masks, entry and sync attribute stay as R112 to R114 say. -/
def Obligations.EveryStepKeepsTheFlagUnitSound : Prop := ∀ s t : State, FlagUnitOk s → step s = .next t → FlagUnitOk t

/-- The request list stays ordered and within R28, R31, R41 and R51: its selectors, and so at most 37 entries. -/
def Obligations.EveryStepKeepsTheRequestList : Prop := ∀ s t : State, RequestsOk s → step s = .next t → RequestsOk t

/-- The slots stay as R69 and R70 say, an arrival's source input stays configured for its slot (R143), and a HALTED station
holds no arrival and no halt request (R125). -/
def Obligations.EveryStepKeepsTheSlotsSound : Prop := ∀ s t : State, SlotsOk s → step s = .next t → SlotsOk t

/-- The station drives a line only where R5 lets it. -/
def Obligations.EveryStepKeepsTheDriversReleased : Prop := ∀ s t : State, DriversOk s → step s = .next t → DriversOk t

/-- The auto-sleep timer stays at zero where R179 holds it there. -/
def Obligations.EveryStepHoldsTheAutoSleepTimer : Prop :=
  ∀ s t : State, AutoSleepHeld s → step s = .next t → AutoSleepHeld t

/-- Every invariant holds after a station reset, whatever the cause, the strapped number and the levels at the input pins,
and so at the state the model starts from (logs 1, 2, 5). -/
def Obligations.InvariantsHoldAtReset : Prop :=
  (∀ (cause : ResetCause) (number : StationNo) (pins : Vector Level 4),
    let s := State.afterReset cause number pins
    LogBounded s ∧ PortSound s ∧ FlagUnitOk s ∧ RequestsOk s ∧ SlotsOk s ∧ DriversOk s ∧ AutoSleepHeld s)
  ∧ LogBounded State.reset ∧ PortSound State.reset ∧ FlagUnitOk State.reset ∧ RequestsOk State.reset ∧ SlotsOk State.reset
  ∧ DriversOk State.reset ∧ AutoSleepHeld State.reset
end

