-- ==== Sys2Proof/Laws/State.lean ====
section
/-! SUPPORT. Every field of State under every block update, and slots, inputs and outputs under their own updates. -/

namespace Sys2Proof.Machine

@[simp] theorem setCfg_cfg (s : State) (x : StationConfig) : (s.setCfg x).cfg = x := rfl
@[simp] theorem setCfg_lif (s : State) (x : StationConfig) : (s.setCfg x).lif = s.lif := rfl
@[simp] theorem setCfg_rnd (s : State) (x : StationConfig) : (s.setCfg x).rnd = s.rnd := rfl
@[simp] theorem setCfg_mbr (s : State) (x : StationConfig) : (s.setCfg x).mbr = s.mbr := rfl
@[simp] theorem setCfg_slots (s : State) (x : StationConfig) : (s.setCfg x).slots = s.slots := rfl
@[simp] theorem setCfg_flg (s : State) (x : StationConfig) : (s.setCfg x).flg = s.flg := rfl
@[simp] theorem setCfg_hlt (s : State) (x : StationConfig) : (s.setCfg x).hlt = s.hlt := rfl
@[simp] theorem setCfg_pin (s : State) (x : StationConfig) : (s.setCfg x).pin = s.pin := rfl
@[simp] theorem setCfg_log (s : State) (x : StationConfig) : (s.setCfg x).log = s.log := rfl
@[simp] theorem setCfg_ntf (s : State) (x : StationConfig) : (s.setCfg x).ntf = s.ntf := rfl
@[simp] theorem setCfg_cmd (s : State) (x : StationConfig) : (s.setCfg x).cmd = s.cmd := rfl
@[simp] theorem setCfg_tsc (s : State) (x : StationConfig) : (s.setCfg x).tsc = s.tsc := rfl
@[simp] theorem setCfg_bus (s : State) (x : StationConfig) : (s.setCfg x).bus = s.bus := rfl
@[simp] theorem setCfg_spi (s : State) (x : StationConfig) : (s.setCfg x).spi = s.spi := rfl
@[simp] theorem setCfg_pending (s : State) (x : StationConfig) : (s.setCfg x).pending = s.pending := rfl

@[simp] theorem setLif_cfg (s : State) (x : Lif) : (s.setLif x).cfg = s.cfg := rfl
@[simp] theorem setLif_lif (s : State) (x : Lif) : (s.setLif x).lif = x := rfl
@[simp] theorem setLif_rnd (s : State) (x : Lif) : (s.setLif x).rnd = s.rnd := rfl
@[simp] theorem setLif_mbr (s : State) (x : Lif) : (s.setLif x).mbr = s.mbr := rfl
@[simp] theorem setLif_slots (s : State) (x : Lif) : (s.setLif x).slots = s.slots := rfl
@[simp] theorem setLif_flg (s : State) (x : Lif) : (s.setLif x).flg = s.flg := rfl
@[simp] theorem setLif_hlt (s : State) (x : Lif) : (s.setLif x).hlt = s.hlt := rfl
@[simp] theorem setLif_pin (s : State) (x : Lif) : (s.setLif x).pin = s.pin := rfl
@[simp] theorem setLif_log (s : State) (x : Lif) : (s.setLif x).log = s.log := rfl
@[simp] theorem setLif_ntf (s : State) (x : Lif) : (s.setLif x).ntf = s.ntf := rfl
@[simp] theorem setLif_cmd (s : State) (x : Lif) : (s.setLif x).cmd = s.cmd := rfl
@[simp] theorem setLif_tsc (s : State) (x : Lif) : (s.setLif x).tsc = s.tsc := rfl
@[simp] theorem setLif_bus (s : State) (x : Lif) : (s.setLif x).bus = s.bus := rfl
@[simp] theorem setLif_spi (s : State) (x : Lif) : (s.setLif x).spi = s.spi := rfl
@[simp] theorem setLif_pending (s : State) (x : Lif) : (s.setLif x).pending = s.pending := rfl

@[simp] theorem setRnd_cfg (s : State) (x : Rnd) : (s.setRnd x).cfg = s.cfg := rfl
@[simp] theorem setRnd_lif (s : State) (x : Rnd) : (s.setRnd x).lif = s.lif := rfl
@[simp] theorem setRnd_rnd (s : State) (x : Rnd) : (s.setRnd x).rnd = x := rfl
@[simp] theorem setRnd_mbr (s : State) (x : Rnd) : (s.setRnd x).mbr = s.mbr := rfl
@[simp] theorem setRnd_slots (s : State) (x : Rnd) : (s.setRnd x).slots = s.slots := rfl
@[simp] theorem setRnd_flg (s : State) (x : Rnd) : (s.setRnd x).flg = s.flg := rfl
@[simp] theorem setRnd_hlt (s : State) (x : Rnd) : (s.setRnd x).hlt = s.hlt := rfl
@[simp] theorem setRnd_pin (s : State) (x : Rnd) : (s.setRnd x).pin = s.pin := rfl
@[simp] theorem setRnd_log (s : State) (x : Rnd) : (s.setRnd x).log = s.log := rfl
@[simp] theorem setRnd_ntf (s : State) (x : Rnd) : (s.setRnd x).ntf = s.ntf := rfl
@[simp] theorem setRnd_cmd (s : State) (x : Rnd) : (s.setRnd x).cmd = s.cmd := rfl
@[simp] theorem setRnd_tsc (s : State) (x : Rnd) : (s.setRnd x).tsc = s.tsc := rfl
@[simp] theorem setRnd_bus (s : State) (x : Rnd) : (s.setRnd x).bus = s.bus := rfl
@[simp] theorem setRnd_spi (s : State) (x : Rnd) : (s.setRnd x).spi = s.spi := rfl
@[simp] theorem setRnd_pending (s : State) (x : Rnd) : (s.setRnd x).pending = s.pending := rfl

@[simp] theorem setMbr_cfg (s : State) (x : Mbr) : (s.setMbr x).cfg = s.cfg := rfl
@[simp] theorem setMbr_lif (s : State) (x : Mbr) : (s.setMbr x).lif = s.lif := rfl
@[simp] theorem setMbr_rnd (s : State) (x : Mbr) : (s.setMbr x).rnd = s.rnd := rfl
@[simp] theorem setMbr_mbr (s : State) (x : Mbr) : (s.setMbr x).mbr = x := rfl
@[simp] theorem setMbr_slots (s : State) (x : Mbr) : (s.setMbr x).slots = s.slots := rfl
@[simp] theorem setMbr_flg (s : State) (x : Mbr) : (s.setMbr x).flg = s.flg := rfl
@[simp] theorem setMbr_hlt (s : State) (x : Mbr) : (s.setMbr x).hlt = s.hlt := rfl
@[simp] theorem setMbr_pin (s : State) (x : Mbr) : (s.setMbr x).pin = s.pin := rfl
@[simp] theorem setMbr_log (s : State) (x : Mbr) : (s.setMbr x).log = s.log := rfl
@[simp] theorem setMbr_ntf (s : State) (x : Mbr) : (s.setMbr x).ntf = s.ntf := rfl
@[simp] theorem setMbr_cmd (s : State) (x : Mbr) : (s.setMbr x).cmd = s.cmd := rfl
@[simp] theorem setMbr_tsc (s : State) (x : Mbr) : (s.setMbr x).tsc = s.tsc := rfl
@[simp] theorem setMbr_bus (s : State) (x : Mbr) : (s.setMbr x).bus = s.bus := rfl
@[simp] theorem setMbr_spi (s : State) (x : Mbr) : (s.setMbr x).spi = s.spi := rfl
@[simp] theorem setMbr_pending (s : State) (x : Mbr) : (s.setMbr x).pending = s.pending := rfl

@[simp] theorem setSlots_cfg (s : State) (x : Vector Slot 32) : (s.setSlots x).cfg = s.cfg := rfl
@[simp] theorem setSlots_lif (s : State) (x : Vector Slot 32) : (s.setSlots x).lif = s.lif := rfl
@[simp] theorem setSlots_rnd (s : State) (x : Vector Slot 32) : (s.setSlots x).rnd = s.rnd := rfl
@[simp] theorem setSlots_mbr (s : State) (x : Vector Slot 32) : (s.setSlots x).mbr = s.mbr := rfl
@[simp] theorem setSlots_slots (s : State) (x : Vector Slot 32) : (s.setSlots x).slots = x := rfl
@[simp] theorem setSlots_flg (s : State) (x : Vector Slot 32) : (s.setSlots x).flg = s.flg := rfl
@[simp] theorem setSlots_hlt (s : State) (x : Vector Slot 32) : (s.setSlots x).hlt = s.hlt := rfl
@[simp] theorem setSlots_pin (s : State) (x : Vector Slot 32) : (s.setSlots x).pin = s.pin := rfl
@[simp] theorem setSlots_log (s : State) (x : Vector Slot 32) : (s.setSlots x).log = s.log := rfl
@[simp] theorem setSlots_ntf (s : State) (x : Vector Slot 32) : (s.setSlots x).ntf = s.ntf := rfl
@[simp] theorem setSlots_cmd (s : State) (x : Vector Slot 32) : (s.setSlots x).cmd = s.cmd := rfl
@[simp] theorem setSlots_tsc (s : State) (x : Vector Slot 32) : (s.setSlots x).tsc = s.tsc := rfl
@[simp] theorem setSlots_bus (s : State) (x : Vector Slot 32) : (s.setSlots x).bus = s.bus := rfl
@[simp] theorem setSlots_spi (s : State) (x : Vector Slot 32) : (s.setSlots x).spi = s.spi := rfl
@[simp] theorem setSlots_pending (s : State) (x : Vector Slot 32) : (s.setSlots x).pending = s.pending := rfl

@[simp] theorem setFlg_cfg (s : State) (x : Flg) : (s.setFlg x).cfg = s.cfg := rfl
@[simp] theorem setFlg_lif (s : State) (x : Flg) : (s.setFlg x).lif = s.lif := rfl
@[simp] theorem setFlg_rnd (s : State) (x : Flg) : (s.setFlg x).rnd = s.rnd := rfl
@[simp] theorem setFlg_mbr (s : State) (x : Flg) : (s.setFlg x).mbr = s.mbr := rfl
@[simp] theorem setFlg_slots (s : State) (x : Flg) : (s.setFlg x).slots = s.slots := rfl
@[simp] theorem setFlg_flg (s : State) (x : Flg) : (s.setFlg x).flg = x := rfl
@[simp] theorem setFlg_hlt (s : State) (x : Flg) : (s.setFlg x).hlt = s.hlt := rfl
@[simp] theorem setFlg_pin (s : State) (x : Flg) : (s.setFlg x).pin = s.pin := rfl
@[simp] theorem setFlg_log (s : State) (x : Flg) : (s.setFlg x).log = s.log := rfl
@[simp] theorem setFlg_ntf (s : State) (x : Flg) : (s.setFlg x).ntf = s.ntf := rfl
@[simp] theorem setFlg_cmd (s : State) (x : Flg) : (s.setFlg x).cmd = s.cmd := rfl
@[simp] theorem setFlg_tsc (s : State) (x : Flg) : (s.setFlg x).tsc = s.tsc := rfl
@[simp] theorem setFlg_bus (s : State) (x : Flg) : (s.setFlg x).bus = s.bus := rfl
@[simp] theorem setFlg_spi (s : State) (x : Flg) : (s.setFlg x).spi = s.spi := rfl
@[simp] theorem setFlg_pending (s : State) (x : Flg) : (s.setFlg x).pending = s.pending := rfl

@[simp] theorem setHlt_cfg (s : State) (x : Hlt) : (s.setHlt x).cfg = s.cfg := rfl
@[simp] theorem setHlt_lif (s : State) (x : Hlt) : (s.setHlt x).lif = s.lif := rfl
@[simp] theorem setHlt_rnd (s : State) (x : Hlt) : (s.setHlt x).rnd = s.rnd := rfl
@[simp] theorem setHlt_mbr (s : State) (x : Hlt) : (s.setHlt x).mbr = s.mbr := rfl
@[simp] theorem setHlt_slots (s : State) (x : Hlt) : (s.setHlt x).slots = s.slots := rfl
@[simp] theorem setHlt_flg (s : State) (x : Hlt) : (s.setHlt x).flg = s.flg := rfl
@[simp] theorem setHlt_hlt (s : State) (x : Hlt) : (s.setHlt x).hlt = x := rfl
@[simp] theorem setHlt_pin (s : State) (x : Hlt) : (s.setHlt x).pin = s.pin := rfl
@[simp] theorem setHlt_log (s : State) (x : Hlt) : (s.setHlt x).log = s.log := rfl
@[simp] theorem setHlt_ntf (s : State) (x : Hlt) : (s.setHlt x).ntf = s.ntf := rfl
@[simp] theorem setHlt_cmd (s : State) (x : Hlt) : (s.setHlt x).cmd = s.cmd := rfl
@[simp] theorem setHlt_tsc (s : State) (x : Hlt) : (s.setHlt x).tsc = s.tsc := rfl
@[simp] theorem setHlt_bus (s : State) (x : Hlt) : (s.setHlt x).bus = s.bus := rfl
@[simp] theorem setHlt_spi (s : State) (x : Hlt) : (s.setHlt x).spi = s.spi := rfl
@[simp] theorem setHlt_pending (s : State) (x : Hlt) : (s.setHlt x).pending = s.pending := rfl

@[simp] theorem setPin_cfg (s : State) (x : Pin) : (s.setPin x).cfg = s.cfg := rfl
@[simp] theorem setPin_lif (s : State) (x : Pin) : (s.setPin x).lif = s.lif := rfl
@[simp] theorem setPin_rnd (s : State) (x : Pin) : (s.setPin x).rnd = s.rnd := rfl
@[simp] theorem setPin_mbr (s : State) (x : Pin) : (s.setPin x).mbr = s.mbr := rfl
@[simp] theorem setPin_slots (s : State) (x : Pin) : (s.setPin x).slots = s.slots := rfl
@[simp] theorem setPin_flg (s : State) (x : Pin) : (s.setPin x).flg = s.flg := rfl
@[simp] theorem setPin_hlt (s : State) (x : Pin) : (s.setPin x).hlt = s.hlt := rfl
@[simp] theorem setPin_pin (s : State) (x : Pin) : (s.setPin x).pin = x := rfl
@[simp] theorem setPin_log (s : State) (x : Pin) : (s.setPin x).log = s.log := rfl
@[simp] theorem setPin_ntf (s : State) (x : Pin) : (s.setPin x).ntf = s.ntf := rfl
@[simp] theorem setPin_cmd (s : State) (x : Pin) : (s.setPin x).cmd = s.cmd := rfl
@[simp] theorem setPin_tsc (s : State) (x : Pin) : (s.setPin x).tsc = s.tsc := rfl
@[simp] theorem setPin_bus (s : State) (x : Pin) : (s.setPin x).bus = s.bus := rfl
@[simp] theorem setPin_spi (s : State) (x : Pin) : (s.setPin x).spi = s.spi := rfl
@[simp] theorem setPin_pending (s : State) (x : Pin) : (s.setPin x).pending = s.pending := rfl

@[simp] theorem setLog_cfg (s : State) (x : Log) : (s.setLog x).cfg = s.cfg := rfl
@[simp] theorem setLog_lif (s : State) (x : Log) : (s.setLog x).lif = s.lif := rfl
@[simp] theorem setLog_rnd (s : State) (x : Log) : (s.setLog x).rnd = s.rnd := rfl
@[simp] theorem setLog_mbr (s : State) (x : Log) : (s.setLog x).mbr = s.mbr := rfl
@[simp] theorem setLog_slots (s : State) (x : Log) : (s.setLog x).slots = s.slots := rfl
@[simp] theorem setLog_flg (s : State) (x : Log) : (s.setLog x).flg = s.flg := rfl
@[simp] theorem setLog_hlt (s : State) (x : Log) : (s.setLog x).hlt = s.hlt := rfl
@[simp] theorem setLog_pin (s : State) (x : Log) : (s.setLog x).pin = s.pin := rfl
@[simp] theorem setLog_log (s : State) (x : Log) : (s.setLog x).log = x := rfl
@[simp] theorem setLog_ntf (s : State) (x : Log) : (s.setLog x).ntf = s.ntf := rfl
@[simp] theorem setLog_cmd (s : State) (x : Log) : (s.setLog x).cmd = s.cmd := rfl
@[simp] theorem setLog_tsc (s : State) (x : Log) : (s.setLog x).tsc = s.tsc := rfl
@[simp] theorem setLog_bus (s : State) (x : Log) : (s.setLog x).bus = s.bus := rfl
@[simp] theorem setLog_spi (s : State) (x : Log) : (s.setLog x).spi = s.spi := rfl
@[simp] theorem setLog_pending (s : State) (x : Log) : (s.setLog x).pending = s.pending := rfl

@[simp] theorem setNtf_cfg (s : State) (x : Ntf) : (s.setNtf x).cfg = s.cfg := rfl
@[simp] theorem setNtf_lif (s : State) (x : Ntf) : (s.setNtf x).lif = s.lif := rfl
@[simp] theorem setNtf_rnd (s : State) (x : Ntf) : (s.setNtf x).rnd = s.rnd := rfl
@[simp] theorem setNtf_mbr (s : State) (x : Ntf) : (s.setNtf x).mbr = s.mbr := rfl
@[simp] theorem setNtf_slots (s : State) (x : Ntf) : (s.setNtf x).slots = s.slots := rfl
@[simp] theorem setNtf_flg (s : State) (x : Ntf) : (s.setNtf x).flg = s.flg := rfl
@[simp] theorem setNtf_hlt (s : State) (x : Ntf) : (s.setNtf x).hlt = s.hlt := rfl
@[simp] theorem setNtf_pin (s : State) (x : Ntf) : (s.setNtf x).pin = s.pin := rfl
@[simp] theorem setNtf_log (s : State) (x : Ntf) : (s.setNtf x).log = s.log := rfl
@[simp] theorem setNtf_ntf (s : State) (x : Ntf) : (s.setNtf x).ntf = x := rfl
@[simp] theorem setNtf_cmd (s : State) (x : Ntf) : (s.setNtf x).cmd = s.cmd := rfl
@[simp] theorem setNtf_tsc (s : State) (x : Ntf) : (s.setNtf x).tsc = s.tsc := rfl
@[simp] theorem setNtf_bus (s : State) (x : Ntf) : (s.setNtf x).bus = s.bus := rfl
@[simp] theorem setNtf_spi (s : State) (x : Ntf) : (s.setNtf x).spi = s.spi := rfl
@[simp] theorem setNtf_pending (s : State) (x : Ntf) : (s.setNtf x).pending = s.pending := rfl

@[simp] theorem setCmd_cfg (s : State) (x : Cmd) : (s.setCmd x).cfg = s.cfg := rfl
@[simp] theorem setCmd_lif (s : State) (x : Cmd) : (s.setCmd x).lif = s.lif := rfl
@[simp] theorem setCmd_rnd (s : State) (x : Cmd) : (s.setCmd x).rnd = s.rnd := rfl
@[simp] theorem setCmd_mbr (s : State) (x : Cmd) : (s.setCmd x).mbr = s.mbr := rfl
@[simp] theorem setCmd_slots (s : State) (x : Cmd) : (s.setCmd x).slots = s.slots := rfl
@[simp] theorem setCmd_flg (s : State) (x : Cmd) : (s.setCmd x).flg = s.flg := rfl
@[simp] theorem setCmd_hlt (s : State) (x : Cmd) : (s.setCmd x).hlt = s.hlt := rfl
@[simp] theorem setCmd_pin (s : State) (x : Cmd) : (s.setCmd x).pin = s.pin := rfl
@[simp] theorem setCmd_log (s : State) (x : Cmd) : (s.setCmd x).log = s.log := rfl
@[simp] theorem setCmd_ntf (s : State) (x : Cmd) : (s.setCmd x).ntf = s.ntf := rfl
@[simp] theorem setCmd_cmd (s : State) (x : Cmd) : (s.setCmd x).cmd = x := rfl
@[simp] theorem setCmd_tsc (s : State) (x : Cmd) : (s.setCmd x).tsc = s.tsc := rfl
@[simp] theorem setCmd_bus (s : State) (x : Cmd) : (s.setCmd x).bus = s.bus := rfl
@[simp] theorem setCmd_spi (s : State) (x : Cmd) : (s.setCmd x).spi = s.spi := rfl
@[simp] theorem setCmd_pending (s : State) (x : Cmd) : (s.setCmd x).pending = s.pending := rfl

@[simp] theorem setTsc_cfg (s : State) (x : Tsc) : (s.setTsc x).cfg = s.cfg := rfl
@[simp] theorem setTsc_lif (s : State) (x : Tsc) : (s.setTsc x).lif = s.lif := rfl
@[simp] theorem setTsc_rnd (s : State) (x : Tsc) : (s.setTsc x).rnd = s.rnd := rfl
@[simp] theorem setTsc_mbr (s : State) (x : Tsc) : (s.setTsc x).mbr = s.mbr := rfl
@[simp] theorem setTsc_slots (s : State) (x : Tsc) : (s.setTsc x).slots = s.slots := rfl
@[simp] theorem setTsc_flg (s : State) (x : Tsc) : (s.setTsc x).flg = s.flg := rfl
@[simp] theorem setTsc_hlt (s : State) (x : Tsc) : (s.setTsc x).hlt = s.hlt := rfl
@[simp] theorem setTsc_pin (s : State) (x : Tsc) : (s.setTsc x).pin = s.pin := rfl
@[simp] theorem setTsc_log (s : State) (x : Tsc) : (s.setTsc x).log = s.log := rfl
@[simp] theorem setTsc_ntf (s : State) (x : Tsc) : (s.setTsc x).ntf = s.ntf := rfl
@[simp] theorem setTsc_cmd (s : State) (x : Tsc) : (s.setTsc x).cmd = s.cmd := rfl
@[simp] theorem setTsc_tsc (s : State) (x : Tsc) : (s.setTsc x).tsc = x := rfl
@[simp] theorem setTsc_bus (s : State) (x : Tsc) : (s.setTsc x).bus = s.bus := rfl
@[simp] theorem setTsc_spi (s : State) (x : Tsc) : (s.setTsc x).spi = s.spi := rfl
@[simp] theorem setTsc_pending (s : State) (x : Tsc) : (s.setTsc x).pending = s.pending := rfl

@[simp] theorem setBus_cfg (s : State) (x : Bus) : (s.setBus x).cfg = s.cfg := rfl
@[simp] theorem setBus_lif (s : State) (x : Bus) : (s.setBus x).lif = s.lif := rfl
@[simp] theorem setBus_rnd (s : State) (x : Bus) : (s.setBus x).rnd = s.rnd := rfl
@[simp] theorem setBus_mbr (s : State) (x : Bus) : (s.setBus x).mbr = s.mbr := rfl
@[simp] theorem setBus_slots (s : State) (x : Bus) : (s.setBus x).slots = s.slots := rfl
@[simp] theorem setBus_flg (s : State) (x : Bus) : (s.setBus x).flg = s.flg := rfl
@[simp] theorem setBus_hlt (s : State) (x : Bus) : (s.setBus x).hlt = s.hlt := rfl
@[simp] theorem setBus_pin (s : State) (x : Bus) : (s.setBus x).pin = s.pin := rfl
@[simp] theorem setBus_log (s : State) (x : Bus) : (s.setBus x).log = s.log := rfl
@[simp] theorem setBus_ntf (s : State) (x : Bus) : (s.setBus x).ntf = s.ntf := rfl
@[simp] theorem setBus_cmd (s : State) (x : Bus) : (s.setBus x).cmd = s.cmd := rfl
@[simp] theorem setBus_tsc (s : State) (x : Bus) : (s.setBus x).tsc = s.tsc := rfl
@[simp] theorem setBus_bus (s : State) (x : Bus) : (s.setBus x).bus = x := rfl
@[simp] theorem setBus_spi (s : State) (x : Bus) : (s.setBus x).spi = s.spi := rfl
@[simp] theorem setBus_pending (s : State) (x : Bus) : (s.setBus x).pending = s.pending := rfl

@[simp] theorem setSpi_cfg (s : State) (x : Spi) : (s.setSpi x).cfg = s.cfg := rfl
@[simp] theorem setSpi_lif (s : State) (x : Spi) : (s.setSpi x).lif = s.lif := rfl
@[simp] theorem setSpi_rnd (s : State) (x : Spi) : (s.setSpi x).rnd = s.rnd := rfl
@[simp] theorem setSpi_mbr (s : State) (x : Spi) : (s.setSpi x).mbr = s.mbr := rfl
@[simp] theorem setSpi_slots (s : State) (x : Spi) : (s.setSpi x).slots = s.slots := rfl
@[simp] theorem setSpi_flg (s : State) (x : Spi) : (s.setSpi x).flg = s.flg := rfl
@[simp] theorem setSpi_hlt (s : State) (x : Spi) : (s.setSpi x).hlt = s.hlt := rfl
@[simp] theorem setSpi_pin (s : State) (x : Spi) : (s.setSpi x).pin = s.pin := rfl
@[simp] theorem setSpi_log (s : State) (x : Spi) : (s.setSpi x).log = s.log := rfl
@[simp] theorem setSpi_ntf (s : State) (x : Spi) : (s.setSpi x).ntf = s.ntf := rfl
@[simp] theorem setSpi_cmd (s : State) (x : Spi) : (s.setSpi x).cmd = s.cmd := rfl
@[simp] theorem setSpi_tsc (s : State) (x : Spi) : (s.setSpi x).tsc = s.tsc := rfl
@[simp] theorem setSpi_bus (s : State) (x : Spi) : (s.setSpi x).bus = s.bus := rfl
@[simp] theorem setSpi_spi (s : State) (x : Spi) : (s.setSpi x).spi = x := rfl
@[simp] theorem setSpi_pending (s : State) (x : Spi) : (s.setSpi x).pending = s.pending := rfl


@[simp] theorem setPending_cfg (s : State) (x : List Instr) : (s.setPending x).cfg = s.cfg := rfl
@[simp] theorem setPending_lif (s : State) (x : List Instr) : (s.setPending x).lif = s.lif := rfl
@[simp] theorem setPending_rnd (s : State) (x : List Instr) : (s.setPending x).rnd = s.rnd := rfl
@[simp] theorem setPending_mbr (s : State) (x : List Instr) : (s.setPending x).mbr = s.mbr := rfl
@[simp] theorem setPending_slots (s : State) (x : List Instr) : (s.setPending x).slots = s.slots := rfl
@[simp] theorem setPending_flg (s : State) (x : List Instr) : (s.setPending x).flg = s.flg := rfl
@[simp] theorem setPending_hlt (s : State) (x : List Instr) : (s.setPending x).hlt = s.hlt := rfl
@[simp] theorem setPending_pin (s : State) (x : List Instr) : (s.setPending x).pin = s.pin := rfl
@[simp] theorem setPending_log (s : State) (x : List Instr) : (s.setPending x).log = s.log := rfl
@[simp] theorem setPending_ntf (s : State) (x : List Instr) : (s.setPending x).ntf = s.ntf := rfl
@[simp] theorem setPending_cmd (s : State) (x : List Instr) : (s.setPending x).cmd = s.cmd := rfl
@[simp] theorem setPending_tsc (s : State) (x : List Instr) : (s.setPending x).tsc = s.tsc := rfl
@[simp] theorem setPending_bus (s : State) (x : List Instr) : (s.setPending x).bus = s.bus := rfl
@[simp] theorem setPending_spi (s : State) (x : List Instr) : (s.setPending x).spi = s.spi := rfl
@[simp] theorem setPending_pending (s : State) (x : List Instr) : (s.setPending x).pending = x := rfl

@[simp] theorem slot_setCfg (s : State) (x : StationConfig) (i : SlotNo) : (s.setCfg x).slot i = s.slot i := rfl
@[simp] theorem slot_setLif (s : State) (x : Lif) (i : SlotNo) : (s.setLif x).slot i = s.slot i := rfl
@[simp] theorem slot_setRnd (s : State) (x : Rnd) (i : SlotNo) : (s.setRnd x).slot i = s.slot i := rfl
@[simp] theorem slot_setMbr (s : State) (x : Mbr) (i : SlotNo) : (s.setMbr x).slot i = s.slot i := rfl
@[simp] theorem slot_setFlg (s : State) (x : Flg) (i : SlotNo) : (s.setFlg x).slot i = s.slot i := rfl
@[simp] theorem slot_setHlt (s : State) (x : Hlt) (i : SlotNo) : (s.setHlt x).slot i = s.slot i := rfl
@[simp] theorem slot_setPin (s : State) (x : Pin) (i : SlotNo) : (s.setPin x).slot i = s.slot i := rfl
@[simp] theorem slot_setLog (s : State) (x : Log) (i : SlotNo) : (s.setLog x).slot i = s.slot i := rfl
@[simp] theorem slot_setNtf (s : State) (x : Ntf) (i : SlotNo) : (s.setNtf x).slot i = s.slot i := rfl
@[simp] theorem slot_setCmd (s : State) (x : Cmd) (i : SlotNo) : (s.setCmd x).slot i = s.slot i := rfl
@[simp] theorem slot_setTsc (s : State) (x : Tsc) (i : SlotNo) : (s.setTsc x).slot i = s.slot i := rfl
@[simp] theorem slot_setBus (s : State) (x : Bus) (i : SlotNo) : (s.setBus x).slot i = s.slot i := rfl
@[simp] theorem slot_setSpi (s : State) (x : Spi) (i : SlotNo) : (s.setSpi x).slot i = s.slot i := rfl
@[simp] theorem slot_setPending (s : State) (x : List Instr) (i : SlotNo) : (s.setPending x).slot i = s.slot i := rfl

@[simp] theorem input_setCfg (s : State) (x : StationConfig) (i : Fin 4) : (s.setCfg x).input i = s.input i := rfl
@[simp] theorem inputCfg_setCfg (s : State) (x : StationConfig) (i : Fin 4) : (s.setCfg x).inputCfg i = s.inputCfg i := rfl
@[simp] theorem input_setLif (s : State) (x : Lif) (i : Fin 4) : (s.setLif x).input i = s.input i := rfl
@[simp] theorem inputCfg_setLif (s : State) (x : Lif) (i : Fin 4) : (s.setLif x).inputCfg i = s.inputCfg i := rfl
@[simp] theorem input_setRnd (s : State) (x : Rnd) (i : Fin 4) : (s.setRnd x).input i = s.input i := rfl
@[simp] theorem inputCfg_setRnd (s : State) (x : Rnd) (i : Fin 4) : (s.setRnd x).inputCfg i = s.inputCfg i := rfl
@[simp] theorem input_setMbr (s : State) (x : Mbr) (i : Fin 4) : (s.setMbr x).input i = s.input i := rfl
@[simp] theorem inputCfg_setMbr (s : State) (x : Mbr) (i : Fin 4) : (s.setMbr x).inputCfg i = s.inputCfg i := rfl
@[simp] theorem input_setSlots (s : State) (x : Vector Slot 32) (i : Fin 4) : (s.setSlots x).input i = s.input i := rfl
@[simp] theorem inputCfg_setSlots (s : State) (x : Vector Slot 32) (i : Fin 4) : (s.setSlots x).inputCfg i = s.inputCfg i := rfl
@[simp] theorem input_setFlg (s : State) (x : Flg) (i : Fin 4) : (s.setFlg x).input i = s.input i := rfl
@[simp] theorem inputCfg_setFlg (s : State) (x : Flg) (i : Fin 4) : (s.setFlg x).inputCfg i = s.inputCfg i := rfl
@[simp] theorem input_setHlt (s : State) (x : Hlt) (i : Fin 4) : (s.setHlt x).input i = s.input i := rfl
@[simp] theorem inputCfg_setHlt (s : State) (x : Hlt) (i : Fin 4) : (s.setHlt x).inputCfg i = s.inputCfg i := rfl
@[simp] theorem input_setLog (s : State) (x : Log) (i : Fin 4) : (s.setLog x).input i = s.input i := rfl
@[simp] theorem inputCfg_setLog (s : State) (x : Log) (i : Fin 4) : (s.setLog x).inputCfg i = s.inputCfg i := rfl
@[simp] theorem input_setNtf (s : State) (x : Ntf) (i : Fin 4) : (s.setNtf x).input i = s.input i := rfl
@[simp] theorem inputCfg_setNtf (s : State) (x : Ntf) (i : Fin 4) : (s.setNtf x).inputCfg i = s.inputCfg i := rfl
@[simp] theorem input_setCmd (s : State) (x : Cmd) (i : Fin 4) : (s.setCmd x).input i = s.input i := rfl
@[simp] theorem inputCfg_setCmd (s : State) (x : Cmd) (i : Fin 4) : (s.setCmd x).inputCfg i = s.inputCfg i := rfl
@[simp] theorem input_setTsc (s : State) (x : Tsc) (i : Fin 4) : (s.setTsc x).input i = s.input i := rfl
@[simp] theorem inputCfg_setTsc (s : State) (x : Tsc) (i : Fin 4) : (s.setTsc x).inputCfg i = s.inputCfg i := rfl
@[simp] theorem input_setBus (s : State) (x : Bus) (i : Fin 4) : (s.setBus x).input i = s.input i := rfl
@[simp] theorem inputCfg_setBus (s : State) (x : Bus) (i : Fin 4) : (s.setBus x).inputCfg i = s.inputCfg i := rfl
@[simp] theorem input_setSpi (s : State) (x : Spi) (i : Fin 4) : (s.setSpi x).input i = s.input i := rfl
@[simp] theorem inputCfg_setSpi (s : State) (x : Spi) (i : Fin 4) : (s.setSpi x).inputCfg i = s.inputCfg i := rfl
@[simp] theorem input_setPending (s : State) (x : List Instr) (i : Fin 4) : (s.setPending x).input i = s.input i := rfl
@[simp] theorem inputCfg_setPending (s : State) (x : List Instr) (i : Fin 4) : (s.setPending x).inputCfg i = s.inputCfg i := rfl

@[simp] theorem setSlot_cfg (s : State) (i : SlotNo) (x : Slot) : (s.setSlot i x).cfg = s.cfg := rfl
@[simp] theorem setSlot_lif (s : State) (i : SlotNo) (x : Slot) : (s.setSlot i x).lif = s.lif := rfl
@[simp] theorem setSlot_rnd (s : State) (i : SlotNo) (x : Slot) : (s.setSlot i x).rnd = s.rnd := rfl
@[simp] theorem setSlot_mbr (s : State) (i : SlotNo) (x : Slot) : (s.setSlot i x).mbr = s.mbr := rfl
@[simp] theorem setSlot_flg (s : State) (i : SlotNo) (x : Slot) : (s.setSlot i x).flg = s.flg := rfl
@[simp] theorem setSlot_hlt (s : State) (i : SlotNo) (x : Slot) : (s.setSlot i x).hlt = s.hlt := rfl
@[simp] theorem setSlot_pin (s : State) (i : SlotNo) (x : Slot) : (s.setSlot i x).pin = s.pin := rfl
@[simp] theorem setSlot_log (s : State) (i : SlotNo) (x : Slot) : (s.setSlot i x).log = s.log := rfl
@[simp] theorem setSlot_ntf (s : State) (i : SlotNo) (x : Slot) : (s.setSlot i x).ntf = s.ntf := rfl
@[simp] theorem setSlot_cmd (s : State) (i : SlotNo) (x : Slot) : (s.setSlot i x).cmd = s.cmd := rfl
@[simp] theorem setSlot_tsc (s : State) (i : SlotNo) (x : Slot) : (s.setSlot i x).tsc = s.tsc := rfl
@[simp] theorem setSlot_bus (s : State) (i : SlotNo) (x : Slot) : (s.setSlot i x).bus = s.bus := rfl
@[simp] theorem setSlot_pending (s : State) (i : SlotNo) (x : Slot) : (s.setSlot i x).pending = s.pending := rfl

@[simp] theorem setInput_cfg (s : State) (i : Fin 4) (x : Input) : (s.setInput i x).cfg = s.cfg := rfl
@[simp] theorem setOutput_cfg (s : State) (i : Fin 4) (x : Output) : (s.setOutput i x).cfg = s.cfg := rfl
@[simp] theorem setInput_lif (s : State) (i : Fin 4) (x : Input) : (s.setInput i x).lif = s.lif := rfl
@[simp] theorem setOutput_lif (s : State) (i : Fin 4) (x : Output) : (s.setOutput i x).lif = s.lif := rfl
@[simp] theorem setInput_rnd (s : State) (i : Fin 4) (x : Input) : (s.setInput i x).rnd = s.rnd := rfl
@[simp] theorem setOutput_rnd (s : State) (i : Fin 4) (x : Output) : (s.setOutput i x).rnd = s.rnd := rfl
@[simp] theorem setInput_mbr (s : State) (i : Fin 4) (x : Input) : (s.setInput i x).mbr = s.mbr := rfl
@[simp] theorem setOutput_mbr (s : State) (i : Fin 4) (x : Output) : (s.setOutput i x).mbr = s.mbr := rfl
@[simp] theorem setInput_slots (s : State) (i : Fin 4) (x : Input) : (s.setInput i x).slots = s.slots := rfl
@[simp] theorem setOutput_slots (s : State) (i : Fin 4) (x : Output) : (s.setOutput i x).slots = s.slots := rfl
@[simp] theorem setInput_flg (s : State) (i : Fin 4) (x : Input) : (s.setInput i x).flg = s.flg := rfl
@[simp] theorem setOutput_flg (s : State) (i : Fin 4) (x : Output) : (s.setOutput i x).flg = s.flg := rfl
@[simp] theorem setInput_hlt (s : State) (i : Fin 4) (x : Input) : (s.setInput i x).hlt = s.hlt := rfl
@[simp] theorem setOutput_hlt (s : State) (i : Fin 4) (x : Output) : (s.setOutput i x).hlt = s.hlt := rfl
@[simp] theorem setInput_log (s : State) (i : Fin 4) (x : Input) : (s.setInput i x).log = s.log := rfl
@[simp] theorem setOutput_log (s : State) (i : Fin 4) (x : Output) : (s.setOutput i x).log = s.log := rfl
@[simp] theorem setInput_ntf (s : State) (i : Fin 4) (x : Input) : (s.setInput i x).ntf = s.ntf := rfl
@[simp] theorem setOutput_ntf (s : State) (i : Fin 4) (x : Output) : (s.setOutput i x).ntf = s.ntf := rfl
@[simp] theorem setInput_cmd (s : State) (i : Fin 4) (x : Input) : (s.setInput i x).cmd = s.cmd := rfl
@[simp] theorem setOutput_cmd (s : State) (i : Fin 4) (x : Output) : (s.setOutput i x).cmd = s.cmd := rfl
@[simp] theorem setInput_tsc (s : State) (i : Fin 4) (x : Input) : (s.setInput i x).tsc = s.tsc := rfl
@[simp] theorem setOutput_tsc (s : State) (i : Fin 4) (x : Output) : (s.setOutput i x).tsc = s.tsc := rfl
@[simp] theorem setInput_bus (s : State) (i : Fin 4) (x : Input) : (s.setInput i x).bus = s.bus := rfl
@[simp] theorem setOutput_bus (s : State) (i : Fin 4) (x : Output) : (s.setOutput i x).bus = s.bus := rfl
@[simp] theorem setInput_pending (s : State) (i : Fin 4) (x : Input) : (s.setInput i x).pending = s.pending := rfl
@[simp] theorem setOutput_pending (s : State) (i : Fin 4) (x : Output) : (s.setOutput i x).pending = s.pending := rfl

@[simp] theorem slot_setSlot_same (s : State) (i : SlotNo) (x : Slot) : (s.setSlot i x).slot i = x := by
  simp [State.slot, State.setSlot, State.setSlots]

theorem slot_setSlot_ne (s : State) (i j : SlotNo) (x : Slot) (h : j ≠ i) : (s.setSlot i x).slot j = s.slot j := by
  have h' : i.val ≠ j.val := fun e => h (Fin.ext e.symm)
  simp [State.slot, State.setSlot, State.setSlots, h']

theorem slot_setSlot (s : State) (i j : SlotNo) (x : Slot) :
    (s.setSlot i x).slot j = if j = i then x else s.slot j := by
  by_cases h : j = i
  · subst h
    simp
  · simp [slot_setSlot_ne s i j x h, h]

@[simp] theorem slot_setInput (s : State) (k : Fin 4) (x : Input) (i : SlotNo) : (s.setInput k x).slot i = s.slot i := rfl
@[simp] theorem slot_setOutput (s : State) (k : Fin 4) (x : Output) (i : SlotNo) :
    (s.setOutput k x).slot i = s.slot i := rfl
@[simp] theorem input_setSlot (s : State) (i : SlotNo) (x : Slot) (k : Fin 4) : (s.setSlot i x).input k = s.input k := rfl
@[simp] theorem inputCfg_setSlot (s : State) (i : SlotNo) (x : Slot) (k : Fin 4) :
    (s.setSlot i x).inputCfg k = s.inputCfg k := rfl
@[simp] theorem inputCfg_setInput (s : State) (i k : Fin 4) (x : Input) :
    (s.setInput i x).inputCfg k = s.inputCfg k := rfl
@[simp] theorem pinCfg_setInput (s : State) (i : Fin 4) (x : Input) : (s.setInput i x).pin.cfg = s.pin.cfg := rfl
@[simp] theorem outputs_setInput (s : State) (i : Fin 4) (x : Input) : (s.setInput i x).pin.outputs = s.pin.outputs := rfl
@[simp] theorem pinCfg_setOutput (s : State) (i : Fin 4) (x : Output) : (s.setOutput i x).pin.cfg = s.pin.cfg := rfl
@[simp] theorem inputs_setOutput (s : State) (i : Fin 4) (x : Output) : (s.setOutput i x).pin.inputs = s.pin.inputs := rfl

@[simp] theorem input_setInput_same (s : State) (i : Fin 4) (x : Input) : (s.setInput i x).input i = x := by
  simp [State.input, State.setInput, State.setPin]

theorem input_setInput_ne (s : State) (i j : Fin 4) (x : Input) (h : j ≠ i) : (s.setInput i x).input j = s.input j := by
  have h' : i.val ≠ j.val := fun e => h (Fin.ext e.symm)
  simp [State.input, State.setInput, State.setPin, h']

@[simp] theorem output_setOutput_same (s : State) (i : Fin 4) (x : Output) : (s.setOutput i x).output i = x := by
  simp [State.output, State.setOutput, State.setPin]

theorem output_setOutput_ne (s : State) (i j : Fin 4) (x : Output) (h : j ≠ i) :
    (s.setOutput i x).output j = s.output j := by
  have h' : i.val ≠ j.val := fun e => h (Fin.ext e.symm)
  simp [State.output, State.setOutput, State.setPin, h']

end Sys2Proof.Machine
end

