-- ==== Sys2Proof/Laws/Ops.lean ====
section
/-! SUPPORT. Frames: which blocks each shared operation can change, and how frames compose. -/

namespace Sys2Proof.Machine

/-! ### Composition -/

theorem Frame.refl (bs : List Block) (s : State) : Frame bs s s := by
  intro b _
  cases b <;> rfl

theorem Frame.mono {a c : List Block} {s t : State} (h : Frame a s t) (hc : a ⊆ c) : Frame c s t :=
  fun b hb => h b fun ha => hb (hc ha)

theorem Frame.comp {c : List Block} {s t u : State} (h₁ : Frame c s t) (h₂ : Frame c t u) : Frame c s u := by
  intro b hb
  have e₁ := h₁ b hb
  have e₂ := h₂ b hb
  cases b <;> simp_all [Block.Same]

/-- Two operations one after the other touch what either touches. -/
theorem Frame.then {a b c : List Block} {s t u : State} (h₁ : Frame a s t) (h₂ : Frame b t u) (ha : a ⊆ c) (hb : b ⊆ c) :
    Frame c s u :=
  (h₁.mono ha).comp (h₂.mono hb)

theorem Frame.ite {p : Prop} [Decidable p] {c : List Block} {s t u : State} (ht : Frame c s t) (hu : Frame c s u) :
    Frame c s (if p then t else u) := by
  split
  · exact ht
  · exact hu

theorem Frame.cfg {c : List Block} {s t : State} (h : Frame c s t) (hb : Block.cfg ∉ c := by decide) : t.cfg = s.cfg :=
  h .cfg hb
theorem Frame.lif {c : List Block} {s t : State} (h : Frame c s t) (hb : Block.lif ∉ c := by decide) : t.lif = s.lif :=
  h .lif hb
theorem Frame.rnd {c : List Block} {s t : State} (h : Frame c s t) (hb : Block.rnd ∉ c := by decide) : t.rnd = s.rnd :=
  h .rnd hb
theorem Frame.mbr {c : List Block} {s t : State} (h : Frame c s t) (hb : Block.mbr ∉ c := by decide) : t.mbr = s.mbr :=
  h .mbr hb
theorem Frame.slots {c : List Block} {s t : State} (h : Frame c s t) (hb : Block.slots ∉ c := by decide) : t.slots = s.slots :=
  h .slots hb
theorem Frame.flg {c : List Block} {s t : State} (h : Frame c s t) (hb : Block.flg ∉ c := by decide) : t.flg = s.flg :=
  h .flg hb
theorem Frame.hlt {c : List Block} {s t : State} (h : Frame c s t) (hb : Block.hlt ∉ c := by decide) : t.hlt = s.hlt :=
  h .hlt hb
theorem Frame.pin {c : List Block} {s t : State} (h : Frame c s t) (hb : Block.pin ∉ c := by decide) : t.pin = s.pin :=
  h .pin hb
theorem Frame.log {c : List Block} {s t : State} (h : Frame c s t) (hb : Block.log ∉ c := by decide) : t.log = s.log :=
  h .log hb
theorem Frame.ntf {c : List Block} {s t : State} (h : Frame c s t) (hb : Block.ntf ∉ c := by decide) : t.ntf = s.ntf :=
  h .ntf hb
theorem Frame.cmd {c : List Block} {s t : State} (h : Frame c s t) (hb : Block.cmd ∉ c := by decide) : t.cmd = s.cmd :=
  h .cmd hb
theorem Frame.tsc {c : List Block} {s t : State} (h : Frame c s t) (hb : Block.tsc ∉ c := by decide) : t.tsc = s.tsc :=
  h .tsc hb
theorem Frame.bus {c : List Block} {s t : State} (h : Frame c s t) (hb : Block.bus ∉ c := by decide) : t.bus = s.bus :=
  h .bus hb
theorem Frame.spi {c : List Block} {s t : State} (h : Frame c s t) (hb : Block.spi ∉ c := by decide) : t.spi = s.spi :=
  h .spi hb
theorem Frame.pending {c : List Block} {s t : State} (h : Frame c s t) (hb : Block.pending ∉ c := by decide) : t.pending = s.pending :=
  h .pending hb

/-! ### Block updates -/

theorem frame_setCfg (s : State) (x : StationConfig) : Frame [.cfg] s (s.setCfg x) := by
  intro b hb
  cases b <;> first | rfl | exact absurd (List.mem_singleton.mpr rfl) hb
theorem frame_setLif (s : State) (x : Lif) : Frame [.lif] s (s.setLif x) := by
  intro b hb
  cases b <;> first | rfl | exact absurd (List.mem_singleton.mpr rfl) hb
theorem frame_setRnd (s : State) (x : Rnd) : Frame [.rnd] s (s.setRnd x) := by
  intro b hb
  cases b <;> first | rfl | exact absurd (List.mem_singleton.mpr rfl) hb
theorem frame_setMbr (s : State) (x : Mbr) : Frame [.mbr] s (s.setMbr x) := by
  intro b hb
  cases b <;> first | rfl | exact absurd (List.mem_singleton.mpr rfl) hb
theorem frame_setSlots (s : State) (x : Vector Slot 32) : Frame [.slots] s (s.setSlots x) := by
  intro b hb
  cases b <;> first | rfl | exact absurd (List.mem_singleton.mpr rfl) hb
theorem frame_setFlg (s : State) (x : Flg) : Frame [.flg] s (s.setFlg x) := by
  intro b hb
  cases b <;> first | rfl | exact absurd (List.mem_singleton.mpr rfl) hb
theorem frame_setHlt (s : State) (x : Hlt) : Frame [.hlt] s (s.setHlt x) := by
  intro b hb
  cases b <;> first | rfl | exact absurd (List.mem_singleton.mpr rfl) hb
theorem frame_setPin (s : State) (x : Pin) : Frame [.pin] s (s.setPin x) := by
  intro b hb
  cases b <;> first | rfl | exact absurd (List.mem_singleton.mpr rfl) hb
theorem frame_setLog (s : State) (x : Log) : Frame [.log] s (s.setLog x) := by
  intro b hb
  cases b <;> first | rfl | exact absurd (List.mem_singleton.mpr rfl) hb
theorem frame_setNtf (s : State) (x : Ntf) : Frame [.ntf] s (s.setNtf x) := by
  intro b hb
  cases b <;> first | rfl | exact absurd (List.mem_singleton.mpr rfl) hb
theorem frame_setCmd (s : State) (x : Cmd) : Frame [.cmd] s (s.setCmd x) := by
  intro b hb
  cases b <;> first | rfl | exact absurd (List.mem_singleton.mpr rfl) hb
theorem frame_setTsc (s : State) (x : Tsc) : Frame [.tsc] s (s.setTsc x) := by
  intro b hb
  cases b <;> first | rfl | exact absurd (List.mem_singleton.mpr rfl) hb
theorem frame_setBus (s : State) (x : Bus) : Frame [.bus] s (s.setBus x) := by
  intro b hb
  cases b <;> first | rfl | exact absurd (List.mem_singleton.mpr rfl) hb
theorem frame_setSpi (s : State) (x : Spi) : Frame [.spi] s (s.setSpi x) := by
  intro b hb
  cases b <;> first | rfl | exact absurd (List.mem_singleton.mpr rfl) hb
theorem frame_setPending (s : State) (x : List Instr) : Frame [.pending] s (s.setPending x) := by
  intro b hb
  cases b <;> first | rfl | exact absurd (List.mem_singleton.mpr rfl) hb

/-! ### Folds over slots and inputs -/

/-- A property that each step of a fold over a list keeps holds after it. -/
theorem foldl_keeps {ι : Type} (P : State → Prop) (f : State → ι → State) (hf : ∀ t i, P t → P (f t i)) (l : List ι) :
    ∀ s, P s → P (l.foldl f s) := by
  induction l with
  | nil => intro s h; exact h
  | cons i l ih => intro s h; exact ih _ (hf s i h)

/-- What the work on each slot keeps, the work on all of them keeps. -/
theorem forSlots_keeps (P : State → Prop) (f : SlotNo → State → State) (hf : ∀ i t, P t → P (f i t)) (s : State)
    (h : P s) : P (forSlots f s) :=
  foldl_keeps P (fun t i => f i t) (fun t i => hf i t) _ s h

/-- What the work on each input keeps, the work on all of them keeps. -/
theorem forInputs_keeps (P : State → Prop) (f : Fin 4 → State → State) (hf : ∀ i t, P t → P (f i t)) (s : State)
    (h : P s) : P (forInputs f s) :=
  foldl_keeps P (fun t i => f i t) (fun t i => hf i t) _ s h

theorem frame_forSlots {c : List Block} (f : SlotNo → State → State) (hf : ∀ i t, Frame c t (f i t)) (s : State) :
    Frame c s (forSlots f s) :=
  forSlots_keeps (Frame c s) f (fun i t h => h.comp (hf i t)) s (Frame.refl c s)

theorem frame_forInputs {c : List Block} (f : Fin 4 → State → State) (hf : ∀ i t, Frame c t (f i t)) (s : State) :
    Frame c s (forInputs f s) :=
  forInputs_keeps (Frame c s) f (fun i t h => h.comp (hf i t)) s (Frame.refl c s)

/-! ### Shared operations -/

theorem frame_place (s : State) (c : Class) (n : Fin 32) : Frame [.rnd] s (s.place c n) := frame_setRnd s _

theorem frame_remove (s : State) (c : Class) (n : Fin 32) : Frame [.rnd] s (s.remove c n) := frame_setRnd s _

theorem frame_zeroVoids (s : State) (c : Class) (n : Fin 32) : Frame [.rnd] s (s.zeroVoids c n) := frame_setRnd s _

theorem frame_raise (s : State) (e : Event) : Frame [.ntf] s (s.raise e) := frame_setNtf s _

theorem frame_offer (s : State) (k : Kind) (sel : Fin 32) (tag : Byte) (set : Set32) (v : Half) :
    Frame [.log, .ntf] s (s.offer k sel tag set v) := by
  unfold State.offer
  refine Frame.ite (Frame.refl _ s) (Frame.ite ?_ ?_)
  · exact (frame_setLog s _).then (frame_raise _ _) (by decide) (by decide)
  · exact (frame_setLog s _).then (frame_raise _ _) (by decide) (by decide)

theorem frame_setSlot (s : State) (i : SlotNo) (x : Slot) : Frame [.slots] s (s.setSlot i x) := frame_setSlots s _

theorem frame_setInput (s : State) (i : Fin 4) (x : Input) : Frame [.pin] s (s.setInput i x) := frame_setPin s _

theorem frame_setOutput (s : State) (i : Fin 4) (x : Output) : Frame [.pin] s (s.setOutput i x) := frame_setPin s _

theorem frame_raiseSlot (s : State) (i : SlotNo) : Frame [.ntf] s (s.raiseSlot i) := frame_setNtf s _

theorem frame_offerSlot (s : State) (i : SlotNo) (k : Kind) (tag : Byte) (set : Set32) (v : Half) :
    Frame [.log, .ntf] s (s.offerSlot i k tag set v) := by
  unfold State.offerSlot
  exact (Frame.ite (frame_offer s _ _ _ _ _) (Frame.refl _ s)).then (frame_raiseSlot _ _) (by decide) (by decide)

theorem frame_disarm (s : State) (i : Fin 4) : Frame [.pin] s (s.disarm i) := by
  unfold State.disarm
  exact Frame.ite (frame_setInput s _ _) (Frame.refl _ s)

theorem frame_disarmSource (s : State) (a : Option Arrival) : Frame [.pin] s (s.disarmSource a) := by
  unfold State.disarmSource
  split
  · exact frame_disarm s _
  · exact Frame.refl _ s

theorem frame_actOnCompletion (s : State) (i : SlotNo) (o : Fin 4) : Frame [.pin] s (s.actOnCompletion i o) := by
  unfold State.actOnCompletion
  split
  · exact Frame.ite (frame_setOutput s _ _) (Frame.refl _ s)
  · exact Frame.ite (frame_setOutput s _ _) (Frame.refl _ s)
  · exact Frame.refl _ s

theorem frame_outputsOnCompletion (s : State) (i : SlotNo) : Frame [.pin] s (s.outputsOnCompletion i) :=
  foldl_keeps (Frame [.pin] s) _ (fun t o h => h.comp (frame_actOnCompletion t i o)) _ s (Frame.refl _ s)

theorem frame_settle (s : State) : Frame [.tsc] s s.settle := by
  unfold State.settle
  exact Frame.ite (frame_setTsc s _) (Frame.refl _ s)

theorem frame_setTransfer (s : State) (x : Option Transfer) : Frame [.cmd] s (s.setTransfer x) := frame_setCmd s _

theorem frame_openTransfer (s : State) (sck : Level) : Frame [.cmd, .tsc] s (s.openTransfer sck) := by
  unfold State.openTransfer
  split
  · exact Frame.refl _ s
  · exact (frame_setTsc s _).then (frame_setTransfer _ _) (by decide) (by decide)

theorem frame_beginByte (s : State) : Frame [.cmd] s s.beginByte := by
  unfold State.beginByte
  split
  · exact Frame.refl _ s
  · split
    · split
      · exact frame_setCmd s _
      · exact frame_setTransfer s _
    · exact frame_setTransfer s _
    · exact frame_setTransfer s _

theorem frame_endByte (s : State) (b : Byte) : Frame [.cmd, .log] s (s.endByte b) := by
  unfold State.endByte
  split
  · exact Frame.refl _ s
  · split
    · exact Frame.ite ((frame_setTransfer s _).then (frame_setLog _ _) (by decide) (by decide))
        ((frame_setTransfer s _).mono (by decide))
    · exact (frame_setTransfer s _).mono (by decide)
    · exact (frame_setTransfer s _).mono (by decide)

theorem frame_readyByte (s : State) : Frame [.cmd] s s.readyByte := by
  unfold State.readyByte
  split
  · exact Frame.ite (Frame.refl _ s) (frame_beginByte s)
  · exact Frame.refl _ s

theorem frame_clockByte (s : State) (b : Byte) : Frame [.cmd, .log] s (s.clockByte b) :=
  (frame_readyByte s).then (frame_endByte _ b) (by decide) (by decide)

theorem frame_sckRise (s : State) (sdi : Level) : Frame [.cmd, .log] s (s.sckRise sdi) := by
  unfold State.sckRise
  split
  · exact Frame.refl _ s
  · exact Frame.ite ((frame_setTransfer s _).mono (by decide)) (frame_endByte s _)

theorem frame_clockPort (s : State) : Frame [.cmd, .log, .spi] s s.clockPort := by
  unfold State.clockPort
  split
  · exact Frame.refl _ s
  · rename_i sck sdi rest _
    have h := frame_setSpi s { sck := sck, sdi := sdi, feed := rest }
    dsimp only
    split
    · exact h.then (frame_sckRise _ _) (by decide) (by decide)
    · exact h.then (frame_readyByte _) (by decide) (by decide)
    · exact h.mono (by decide)

theorem frame_deselect (s : State) : Frame [.cmd] s s.deselect := by
  unfold State.deselect
  split
  · exact frame_setCmd s _
  · exact Frame.refl _ s

theorem frame_setLast (s : State) (c : Code) : Frame [.cmd] s (s.setLast c) := frame_setCmd s _

theorem frame_syncFlagsEntry (s : State) : Frame [.rnd] s s.syncFlagsEntry := by
  unfold State.syncFlagsEntry
  exact Frame.ite (frame_remove s _ _) (frame_place s _ _)

theorem frame_requestSet (s : State) (m : Set32) : Frame [.flg, .rnd] s (s.requestSet m) := by
  unfold State.requestSet
  exact Frame.ite ((frame_setFlg s _).then (frame_syncFlagsEntry _) (by decide) (by decide)) (Frame.refl _ s)

theorem frame_requestClear (s : State) (m : Set32) : Frame [.flg, .rnd] s (s.requestClear m) := by
  unfold State.requestClear
  exact Frame.ite ((frame_setFlg s _).then (frame_syncFlagsEntry _) (by decide) (by decide)) (Frame.refl _ s)

theorem frame_discardFlags (s : State) : Frame [.flg, .rnd] s s.discardFlags :=
  (frame_setFlg s _).then (frame_remove _ _ _) (by decide) (by decide)

theorem frame_changeWord (s : State) (new : Word) (cause : Byte) : Frame [.flg, .log, .ntf] s (s.changeWord new cause) := by
  unfold State.changeWord
  refine Frame.ite ((frame_setFlg s _).mono (by decide)) ?_
  exact ((frame_setFlg s _).then (frame_offer _ _ _ _ _ _) (by decide) (by decide)).then (frame_raise _ _)
    (List.Subset.refl _) (by decide)

theorem frame_applyFlags (s : State) (sets clears latchS latchC : Set32) :
    Frame [.flg, .rnd, .log, .ntf] s (s.applyFlags sets clears latchS latchC) := by
  unfold State.applyFlags
  refine Frame.comp (Frame.ite ?_ ?_) ((frame_changeWord _ _ _).mono (by decide))
  · exact (frame_setFlg s _).then (frame_remove _ _ _) (by decide) (by decide)
  · exact (frame_setFlg s _).then (frame_zeroVoids _ _ _) (by decide) (by decide)

theorem frame_requestHalt (s : State) (cause : Half) : Frame [.hlt, .rnd] s (s.requestHalt cause) :=
  (frame_setHlt s _).then (frame_place _ _ _) (by decide) (by decide)

theorem frame_haltSource (s : State) (cause : Half) : Frame [.hlt, .rnd] s (s.haltSource cause) := by
  unfold State.haltSource
  exact Frame.ite (frame_requestHalt s _) (Frame.refl _ s)

theorem frame_commandHalt (s : State) (cause : Half) : Frame [.hlt, .rnd] s (s.commandHalt cause) := by
  unfold State.commandHalt
  split
  · exact (frame_requestHalt s _).then (frame_setHlt _ _) (List.Subset.refl _) (by decide)
  · exact (frame_setHlt s _).mono (by decide)

theorem frame_inputHalt (s : State) (i : Fin 4) : Frame [.hlt, .rnd] s (s.inputHalt i) := by
  unfold State.inputHalt
  exact Frame.ite ((frame_haltSource s _).then (frame_setHlt _ _) (List.Subset.refl _) (by decide)) (Frame.refl _ s)

theorem frame_inputUnhalt (s : State) (i : Fin 4) : Frame [.hlt] s (s.inputUnhalt i) := frame_setHlt s _

theorem frame_dropHaltRequest (s : State) : Frame [.hlt, .rnd] s s.dropHaltRequest :=
  (frame_setHlt s _).then (frame_remove _ _ _) (by decide) (by decide)

theorem frame_leaveHalt (s : State) : Frame [.hlt, .rnd] s s.leaveHalt :=
  ((frame_setHlt s _).then (frame_remove _ _ _) (by decide) (by decide)).then (frame_remove _ _ _)
    (List.Subset.refl _) (by decide)

theorem frame_takeArrival (s : State) (i : SlotNo) (v : Half) (src : Source) :
    Frame [.slots, .rnd] s (s.takeArrival i v src) :=
  (frame_setSlot s _ _).then (frame_place _ _ _) (by decide) (by decide)

theorem frame_attempt (s : State) (i : SlotNo) (v : Half) (src : Source) :
    Frame [.slots, .rnd] s (s.attempt i v src).1 := by
  unfold State.attempt
  split
  · exact frame_takeArrival s _ _ _
  · exact Frame.refl _ s

theorem frame_levelAttempt (s : State) (k : Fin 4) : Frame [.slots, .rnd, .pin] s (s.levelAttempt k) := by
  unfold State.levelAttempt
  exact Frame.ite ((frame_attempt s _ _ _).mono (by decide)) ((frame_disarm s _).mono (by decide))

theorem frame_removeArrival (s : State) (i : SlotNo) : Frame [.slots, .rnd, .pin] s (s.removeArrival i) :=
  ((frame_setSlot s _ _).then (frame_remove _ _ _) (by decide) (by decide)).then (frame_disarmSource _ _)
    (List.Subset.refl _) (by decide)

theorem frame_withdrawNow (s : State) (i : SlotNo) (k : Kind) :
    Frame [.slots, .rnd, .pin, .log, .ntf] s (s.withdrawNow i k) :=
  (frame_removeArrival s i).then (frame_offerSlot _ _ _ _ _ _) (by decide) (by decide)

theorem frame_abortNow (s : State) (i : SlotNo) (reason : Byte) :
    Frame [.slots, .rnd, .pin, .log, .ntf] s (s.abortNow i reason) :=
  (frame_removeArrival s i).then (frame_offerSlot _ _ _ _ _ _) (by decide) (by decide)

theorem frame_timeoutNow (s : State) (i : SlotNo) :
    Frame [.slots, .rnd, .pin, .log, .ntf, .hlt] s (s.timeoutNow i) := by
  unfold State.timeoutNow
  dsimp only
  split
  · exact (frame_withdrawNow s _ _).then (frame_haltSource _ _) (by decide) (by decide)
  · exact (frame_withdrawNow s _ _).mono (by decide)

theorem frame_haltAbortSlot (i : SlotNo) (s : State) :
    Frame [.slots, .rnd, .pin, .log, .ntf] s (State.haltAbortSlot i s) := by
  unfold State.haltAbortSlot
  have h : Frame [.slots, .rnd, .pin, .log, .ntf] s (if (s.slot i).state = .waiting then s.abortNow i reasonHalt else s) :=
    Frame.ite (frame_abortNow s _ _) (Frame.refl _ s)
  exact Frame.ite (h.comp ((frame_setSlot _ _ _).mono (by decide))) h

theorem frame_haltAbort (s : State) : Frame [.slots, .rnd, .pin, .log, .ntf] s s.haltAbort :=
  frame_forSlots _ frame_haltAbortSlot s

theorem frame_resolveUncompleted (s : State) (i : SlotNo) :
    Frame [.slots, .rnd, .pin, .log, .ntf, .hlt] s (s.resolveUncompleted i) := by
  unfold State.resolveUncompleted
  refine Frame.ite (Frame.ite ?_ (Frame.ite ?_ ?_)) (Frame.refl _ s)
  · exact (frame_withdrawNow s _ _).mono (by decide)
  · exact frame_timeoutNow s _
  · exact (frame_setSlot s _ _).mono (by decide)

theorem frame_rebaseSlot (reason : Byte) (sync : Sync) (i : SlotNo) (s : State) :
    Frame [.slots, .rnd, .pin, .log, .ntf] s (State.rebaseSlot reason sync i s) := by
  unfold State.rebaseSlot
  have h : Frame [.slots, .rnd, .pin, .log, .ntf] s (if (s.slot i).state = .waiting then s.abortNow i reason else s) :=
    Frame.ite (frame_abortNow s _ _) (Frame.refl _ s)
  exact Frame.ite (h.comp ((frame_setSlot _ _ _).mono (by decide))) (Frame.refl _ s)

theorem frame_enter (s : State) (m : Membership) : Frame [.mbr, .ntf] s (s.enter m) :=
  (frame_setMbr s _).then (frame_raise _ _) (by decide) (by decide)

theorem frame_changeRoster (s : State) (new : Set32) (sel : Fin 32) (cause : Byte) :
    Frame [.mbr, .log, .ntf] s (s.changeRoster new sel cause) := by
  unfold State.changeRoster
  refine Frame.ite (Frame.refl _ s) ?_
  exact ((frame_setMbr s _).then (frame_offer _ _ _ _ _ _) (by decide) (by decide)).then (frame_raise _ _)
    (List.Subset.refl _) (by decide)

theorem frame_goOffline (s : State) :
    Frame [.mbr, .ntf, .rnd, .lif, .flg, .hlt, .slots, .pin, .log] s s.goOffline := by
  unfold State.goOffline
  refine Frame.comp ?_ ((frame_forSlots _ (frame_rebaseSlot _ _) _).mono (by decide))
  refine Frame.comp ?_ ((frame_setHlt _ _).mono (by decide))
  refine Frame.comp ?_ ((frame_setFlg _ _).mono (by decide))
  refine Frame.comp ?_ ((frame_setLif _ _).mono (by decide))
  refine Frame.comp ?_ ((frame_setRnd _ _).mono (by decide))
  refine Frame.comp ?_ ((frame_setMbr _ _).mono (by decide))
  exact (frame_enter s _).mono (by decide)

theorem frame_leaveBus (s : State) (cause : Byte) :
    Frame [.mbr, .ntf, .rnd, .lif, .flg, .hlt, .slots, .pin, .log] s (s.leaveBus cause) :=
  (frame_offer s _ _ _ _ _).then (frame_goOffline _) (by decide) (List.Subset.refl _)

theorem frame_refuseJoin (s : State) (reason : Byte) (set : Set32) :
    Frame [.mbr, .ntf, .rnd, .lif, .flg, .hlt, .slots, .pin, .log] s (s.refuseJoin reason set) :=
  (frame_offer s _ _ _ _ _).then (frame_goOffline _) (by decide) (List.Subset.refl _)

theorem frame_followInput (clears : Bool) (i : Fin 4) (s : State) :
    Frame [.flg, .rnd] s (State.followInput clears i s) := by
  unfold State.followInput
  refine Frame.ite (Frame.ite (frame_requestSet s _) (Frame.ite (frame_requestClear s _) (Frame.refl _ s))) (Frame.refl _ s)

theorem frame_abandon (s : State) (framing : Bool) :
    Frame [.slots, .rnd, .pin, .log, .ntf, .hlt] s (s.abandon framing) := by
  unfold State.abandon
  split
  · exact Frame.refl _ s
  · rename_i r _
    have h : Frame [.slots, .rnd, .pin, .log, .ntf, .hlt] s
        ((s.setRnd { s.rnd with round := none }).resolveLatches r) := by
      refine Frame.comp ((frame_setRnd s { s.rnd with round := none }).mono (by decide)) ?_
      unfold State.resolveLatches
      split
      · exact frame_resolveUncompleted _ _
      · exact Frame.refl _ _
    dsimp only
    refine Frame.ite (h.comp ?_) h
    unfold State.framingRecord
    split
    · exact (frame_offer _ _ _ _ _ _).then (frame_raise _ _) (by decide) (by decide)
    · exact (frame_offer _ _ _ _ _ _).then (frame_raise _ _) (by decide) (by decide)

theorem frame_enterSleep (s : State) : Frame [.tsc, .lif, .pin] s s.enterSleep := by
  unfold State.enterSleep
  refine Frame.comp ?_ ((frame_forInputs _ (fun i t => frame_setInput t i _) _).mono (by decide))
  exact (frame_setTsc s _).then (frame_setLif _ _) (by decide) (by decide)

theorem frame_resumeInput (s : State) (i : Fin 4) : Frame [.pin] s (s.resumeInput i) := frame_setInput s i _

theorem frame_awake (s : State) : Frame [.tsc, .lif, .pin] s s.awake := by
  unfold State.awake
  refine Frame.comp ?_ ((frame_forInputs _ (fun i t => frame_resumeInput t i) _).mono (by decide))
  exact (frame_setTsc s _).then (frame_setLif _ _) (by decide) (by decide)

theorem frame_startWake (s : State) : Frame [.tsc, .lif, .pin] s s.startWake := by
  unfold State.startWake
  refine Frame.ite (Frame.refl _ s) (Frame.ite (Frame.refl _ s) (Frame.ite (frame_awake s) ?_))
  exact (frame_setTsc s _).mono (by decide)

/-! ### The end of every meaning -/

/-- The auto-sleep timer is set to zero or left alone: nothing else of the timebase changes (R179). -/
theorem settle_tsc (s : State) : TscQuiet s s.settle := by
  unfold State.settle
  split
  · exact Or.inr rfl
  · exact Or.inl rfl

/-- `done` always answers a next state, the state after the settling of the auto-sleep timer. -/
theorem done_eq (s : State) : done s = .next s.settle := rfl

end Sys2Proof.Machine
end

