-- ==== Sys2Proof/Laws/Folds.lean ====
section
/-! SUPPORT. What a walk over all slots or all inputs establishes for each of them, said once. -/

namespace Sys2Proof.Machine

/-- A walk over a list without repetition: each member's turn turns its `Pre` into its `Post`, other turns keep both, and
every turn keeps `Inv`. -/
theorem foldl_each {ι : Type} (f : ι → State → State) (Inv : State → Prop) (Pre Post : ι → State → Prop)
    (hInv : ∀ i t, Inv t → Inv (f i t)) (hPost : ∀ i t, Inv t → Pre i t → Post i (f i t))
    (hPre : ∀ i j t, j ≠ i → Inv t → Pre i t → Pre i (f j t))
    (hKeep : ∀ i j t, j ≠ i → Inv t → Post i t → Post i (f j t)) (l : List ι) (hl : l.Nodup) :
    ∀ s, Inv s → (∀ i ∈ l, Pre i s) →
      Inv (l.foldl (fun t i => f i t) s) ∧ (∀ i ∈ l, Post i (l.foldl (fun t i => f i t) s))
        ∧ (∀ i, i ∉ l → (Pre i s → Pre i (l.foldl (fun t i => f i t) s)) ∧ (Post i s → Post i (l.foldl (fun t i => f i t) s))) := by
  induction l with
  | nil => intro s hs _; exact ⟨hs, by simp, fun i _ => ⟨id, id⟩⟩
  | cons a l ih =>
    intro s hs hp
    have hn := List.nodup_cons.mp hl
    have hs' := hInv a s hs
    have hp' : ∀ i ∈ l, Pre i (f a s) := fun i hi =>
      hPre i a s (fun e => hn.1 (e ▸ hi)) hs (hp i (List.mem_cons_of_mem a hi))
    obtain ⟨h₁, h₂, h₃⟩ := ih hn.2 (f a s) hs' hp'
    refine ⟨h₁, ?_, ?_⟩
    · intro i hi
      rcases List.mem_cons.mp hi with rfl | hi
      · exact (h₃ i hn.1).2 (hPost i s hs (hp i (by simp)))
      · exact h₂ i hi
    · intro i hi
      have hi' : i ≠ a ∧ i ∉ l := by simpa using hi
      have hne : a ≠ i := fun e => hi'.1 e.symm
      exact ⟨fun h => (h₃ i hi'.2).1 (hPre i a s hne hs h), fun h => (h₃ i hi'.2).2 (hKeep i a s hne hs h)⟩

/-- `foldl_each` for the slots. -/
theorem forSlots_each (f : SlotNo → State → State) (Inv : State → Prop) (Pre Post : SlotNo → State → Prop)
    (hInv : ∀ i t, Inv t → Inv (f i t)) (hPost : ∀ i t, Inv t → Pre i t → Post i (f i t))
    (hPre : ∀ i j t, j ≠ i → Inv t → Pre i t → Pre i (f j t))
    (hKeep : ∀ i j t, j ≠ i → Inv t → Post i t → Post i (f j t)) (s : State) (hs : Inv s) (hp : ∀ i, Pre i s) :
    Inv (forSlots f s) ∧ ∀ i, Post i (forSlots f s) := by
  obtain ⟨h₁, h₂, _⟩ :=
    foldl_each f Inv Pre Post hInv hPost hPre hKeep (List.finRange 32) (List.nodup_finRange 32) s hs fun i _ => hp i
  exact ⟨h₁, fun i => h₂ i (List.mem_finRange i)⟩

/-- `foldl_each` for the inputs. -/
theorem forInputs_each (f : Fin 4 → State → State) (Inv : State → Prop) (Pre Post : Fin 4 → State → Prop)
    (hInv : ∀ i t, Inv t → Inv (f i t)) (hPost : ∀ i t, Inv t → Pre i t → Post i (f i t))
    (hPre : ∀ i j t, j ≠ i → Inv t → Pre i t → Pre i (f j t))
    (hKeep : ∀ i j t, j ≠ i → Inv t → Post i t → Post i (f j t)) (s : State) (hs : Inv s) (hp : ∀ i, Pre i s) :
    Inv (forInputs f s) ∧ ∀ i, Post i (forInputs f s) := by
  obtain ⟨h₁, h₂, _⟩ :=
    foldl_each f Inv Pre Post hInv hPost hPre hKeep (List.finRange 4) (List.nodup_finRange 4) s hs fun i _ => hp i
  exact ⟨h₁, fun i => h₂ i (List.mem_finRange i)⟩

end Sys2Proof.Machine
end

