-- ==== Sys2Proof/Laws/PerInstr.lean ====
section
/-! SUPPORT. One lemma per command: the bytes that carry it begin with a code of 12.2 that names a command, an event has none. -/

namespace Sys2Proof.Laws.Opcode

/-- The transfer that carries a command begins with a code of 12.2 that names a command (12.2). -/
def Statement (i : Instr) : Prop :=
  ∀ bytes, encodeCommand i = some bytes → ∃ opcode rest, bytes = opcode :: rest ∧ namesCommand opcode = true

theorem readStatus (n : Nat) : Statement (.readStatus n) := by
  intro b h; cases h; exact ⟨_, _, rfl, by decide⟩
theorem readRoster (n : Nat) : Statement (.readRoster n) := by
  intro b h; cases h; exact ⟨_, _, rfl, by decide⟩
theorem readFlags (n : Nat) : Statement (.readFlags n) := by
  intro b h; cases h; exact ⟨_, _, rfl, by decide⟩
theorem readEvents (n : Nat) : Statement (.readEvents n) := by
  intro b h; cases h; exact ⟨_, _, rfl, by decide⟩
theorem readSlot (slot : Byte) (n : Nat) : Statement (.readSlot slot n) := by
  intro b h; cases h; exact ⟨_, _, rfl, by decide⟩
theorem readLog (n : Nat) : Statement (.readLog n) := by
  intro b h; cases h; exact ⟨_, _, rfl, by decide⟩
theorem readStationConfig (n : Nat) : Statement (.readStationConfig n) := by
  intro b h; cases h; exact ⟨_, _, rfl, by decide⟩
theorem readSlotConfig (slot : Byte) (n : Nat) : Statement (.readSlotConfig slot n) := by
  intro b h; cases h; exact ⟨_, _, rfl, by decide⟩
theorem readPinConfig (n : Nat) : Statement (.readPinConfig n) := by
  intro b h; cases h; exact ⟨_, _, rfl, by decide⟩
theorem join : Statement .join := by
  intro b h; cases h; exact ⟨_, _, rfl, by decide⟩
theorem leave : Statement .leave := by
  intro b h; cases h; exact ⟨_, _, rfl, by decide⟩
theorem busReset : Statement .busReset := by
  intro b h; cases h; exact ⟨_, _, rfl, by decide⟩
theorem arrive (slot : Byte) (value : Half) : Statement (.arrive slot value) := by
  intro b h; cases h; exact ⟨_, _, rfl, by decide⟩
theorem withdraw (slot : Byte) : Statement (.withdraw slot) := by
  intro b h; cases h; exact ⟨_, _, rfl, by decide⟩
theorem clearSlot (slot : Byte) : Statement (.clearSlot slot) := by
  intro b h; cases h; exact ⟨_, _, rfl, by decide⟩
theorem setFlags (mask : Set32) : Statement (.setFlags mask) := by
  intro b h; cases h; exact ⟨_, _, rfl, by decide⟩
theorem clearFlags (mask : Set32) : Statement (.clearFlags mask) := by
  intro b h; cases h; exact ⟨_, _, rfl, by decide⟩
theorem halt (cause : Half) : Statement (.halt cause) := by
  intro b h; cases h; exact ⟨_, _, rfl, by decide⟩
theorem resume : Statement .resume := by
  intro b h; cases h; exact ⟨_, _, rfl, by decide⟩
theorem clearEvents (line : Byte) (kinds : Half) : Statement (.clearEvents line kinds) := by
  intro b h; cases h; exact ⟨_, _, rfl, by decide⟩
theorem setMask (line : Byte) (kinds : Half) : Statement (.setMask line kinds) := by
  intro b h; cases h; exact ⟨_, _, rfl, by decide⟩
theorem clearMask (line : Byte) (kinds : Half) : Statement (.clearMask line kinds) := by
  intro b h; cases h; exact ⟨_, _, rfl, by decide⟩
theorem writeStationConfig (bytes : List Byte) : Statement (.writeStationConfig bytes) := by
  intro b h; cases h; exact ⟨_, _, rfl, by decide⟩
theorem writeSlotConfig (slot : Byte) (bytes : List Byte) : Statement (.writeSlotConfig slot bytes) := by
  intro b h; cases h; exact ⟨_, _, rfl, by decide⟩
theorem writePinConfig (bytes : List Byte) : Statement (.writePinConfig bytes) := by
  intro b h; cases h; exact ⟨_, _, rfl, by decide⟩
theorem sleep : Statement .sleep := by
  intro b h; cases h; exact ⟨_, _, rfl, by decide⟩
theorem wake : Statement .wake := by
  intro b h; cases h; exact ⟨_, _, rfl, by decide⟩
theorem softReset : Statement .softReset := by
  intro b h; cases h; exact ⟨_, _, rfl, by decide⟩
theorem transferStart (sck : Level) : Statement (.transferStart sck) := by
  intro b h; cases h
theorem transferDiscarded (sdi : List Byte) (extraBits : Nat) : Statement (.transferDiscarded sdi extraBits) := by
  intro b h; cases h
theorem unknownOpcode (opcode : Byte) (n : Nat) : Statement (.unknownOpcode opcode n) := by
  intro b h; cases h
theorem startIssued : Statement .startIssued := by
  intro b h; cases h
theorem roundStart : Statement .roundStart := by
  intro b h; cases h
theorem unframedActivity : Statement .unframedActivity := by
  intro b h; cases h
theorem haltRound : Statement .haltRound := by
  intro b h; cases h
theorem resumeRound : Statement .resumeRound := by
  intro b h; cases h
theorem joinRound : Statement .joinRound := by
  intro b h; cases h
theorem arriveRound : Statement .arriveRound := by
  intro b h; cases h
theorem flagsRound : Statement .flagsRound := by
  intro b h; cases h
theorem rollRound : Statement .rollRound := by
  intro b h; cases h
theorem voidRound (dis : Level) : Statement (.voidRound dis) := by
  intro b h; cases h
theorem closingEnd (dat : Level) : Statement (.closingEnd dat) := by
  intro b h; cases h
theorem framingViolation : Statement .framingViolation := by
  intro b h; cases h
theorem busIdle : Statement .busIdle := by
  intro b h; cases h
theorem lineStuck (line : StuckLine) : Statement (.lineStuck line) := by
  intro b h; cases h
theorem busResetPulseEnd : Statement .busResetPulseEnd := by
  intro b h; cases h
theorem busResetArmed : Statement .busResetArmed := by
  intro b h; cases h
theorem busResetRecognised : Statement .busResetRecognised := by
  intro b h; cases h
theorem rollTimerExpiry : Statement .rollTimerExpiry := by
  intro b h; cases h
theorem timeout (slot : SlotNo) : Statement (.timeout slot) := by
  intro b h; cases h
theorem inputChange (input : Fin 4) (level : Level) : Statement (.inputChange input level) := by
  intro b h; cases h
theorem inputAccepted (input : Fin 4) : Statement (.inputAccepted input) := by
  intro b h; cases h
theorem pulseEnd (output : Fin 4) : Statement (.pulseEnd output) := by
  intro b h; cases h
theorem autoSleepExpiry : Statement .autoSleepExpiry := by
  intro b h; cases h
theorem oscillatorStop : Statement .oscillatorStop := by
  intro b h; cases h
theorem asyncStart : Statement .asyncStart := by
  intro b h; cases h
theorem wakeInputEdge (input : Fin 4) : Statement (.wakeInputEdge input) := by
  intro b h; cases h
theorem oscillatorRuns : Statement .oscillatorRuns := by
  intro b h; cases h
theorem powerOn : Statement .powerOn := by
  intro b h; cases h
theorem resetn : Statement .resetn := by
  intro b h; cases h
theorem internalResetEnd (straps : Straps) : Statement (.internalResetEnd straps) := by
  intro b h; cases h
theorem positionBegins : Statement .positionBegins := by
  intro b h; cases h
theorem positionSampled (dat : Level) : Statement (.positionSampled dat) := by
  intro b h; cases h
theorem tlowExpired : Statement .tlowExpired := by
  intro b h; cases h
theorem datFallInClosing : Statement .datFallInClosing := by
  intro b h; cases h
theorem busResetDetectorDisarmed (line : Line) : Statement (.busResetDetectorDisarmed line) := by
  intro b h; cases h

end Sys2Proof.Laws.Opcode
end

