-- ==== Sys2Proof/Laws/Port.lean ====
section
/-! SUPPORT. The command port: what opening a transfer does, what clocking the rest of one does where each byte still to begin is the same, and so the whole transfer of a write command, in SLEEP and in the internal reset. -/

namespace Sys2Proof.Machine

/-! ### CSN falls -/

theorem openTransfer_of_some {s : State} {x : Transfer} (h : s.cmd.transfer = some x) (sck : Level) :
    s.openTransfer sck = s := by
  simp [State.openTransfer, h]

theorem openTransfer_quiet (s : State) (sck : Level) : TscQuiet s (s.openTransfer sck) := by
  unfold State.openTransfer TscQuiet
  cases hx : s.cmd.transfer with
  | some x => exact Or.inl rfl
  | none => by_cases hp : s.tsc.power = .active <;> simp [hp, State.setTransfer]

theorem openTransfer_cmd {s : State} (h : s.cmd.transfer = none) (sck : Level) :
    (s.openTransfer sck).cmd = { s.cmd with transfer := some (s.newTransfer sck) } := by
  simp only [State.openTransfer, h, State.setTransfer]
  split <;> rfl

/-- The bytes that SDO has begun to shift out in the transfer. -/
def Transfer.begun (x : Transfer) : List Byte := if x.clocked < 8 then x.sent ++ [x.out] else x.sent

/-- What the port holds once a transfer that can carry `lead` and `n` bytes is open: the transfer in progress, or the one that
begins now. -/
theorem openTransfer_open {h : Handling} {lead : List Byte} {n extra : Nat} {s : State} (hp : PortOpen h lead n extra s) :
    ∃ x, (s.openTransfer .low).cmd = { s.cmd with transfer := some x } ∧ x.Sound ∧ x.handling = h
      ∧ x.agrees lead n extra = true ∧ s.shown = x.begun ∧ x.record = s.shiftsRecord := by
  obtain ⟨hs, hp⟩ := hp
  cases hx : s.cmd.transfer with
  | some x =>
    rw [hx] at hp
    refine ⟨x, ?_, hs x hx, hp.1, hp.2, by simp [State.shown, Transfer.begun, hx], by simp [State.shiftsRecord, hx]⟩
    rw [openTransfer_of_some hx, ← hx]
  | none =>
    rw [hx] at hp
    refine ⟨s.newTransfer .low, openTransfer_cmd hx .low, ?_, hp, ?_, ?_, ?_⟩
    · exact ⟨⟨by simp [State.newTransfer], by simp [State.newTransfer]⟩, by simp [State.newTransfer],
        by simp [State.newTransfer], by simp [State.newTransfer]⟩
    · cases hh : s.handling <;> simp [Transfer.agrees, Transfer.levels, State.newTransfer, hh]
    · simp [State.shown, Transfer.begun, State.newTransfer, hx]
    · simp [State.shiftsRecord, State.newTransfer, hx]

/-! ### Bytes -/

/-- A byte `b` of SDI clocked where the byte to begin next would be `fill`. -/
def Transfer.clock (fill : Byte) (x : Transfer) (b : Byte) : Transfer :=
  let y := if x.clocked < 8 then x else x.start fill
  match x.handling with
  | .active | .asleep => y.finish (y.received ++ [b])
  | .ignored => y.finish []

@[simp] theorem clock_handling (fill : Byte) (x : Transfer) (b : Byte) : (x.clock fill b).handling = x.handling := by
  unfold Transfer.clock
  cases hh : x.handling <;> by_cases hc : x.clocked < 8 <;> simp [hc, hh, Transfer.finish, Transfer.start]

@[simp] theorem clock_record (fill : Byte) (x : Transfer) (b : Byte) : (x.clock fill b).record = x.record := by
  unfold Transfer.clock
  cases x.handling <;> by_cases hc : x.clocked < 8 <;> simp [hc, Transfer.finish, Transfer.start]

@[simp] theorem clock_clocked (fill : Byte) (x : Transfer) (b : Byte) : (x.clock fill b).clocked = 8 := by
  unfold Transfer.clock
  cases x.handling <;> rfl

@[simp] theorem clock_sent (fill : Byte) (x : Transfer) (b : Byte) :
    (x.clock fill b).sent = x.sent ++ [if x.clocked < 8 then x.out else fill] := by
  unfold Transfer.clock
  cases x.handling <;> by_cases hc : x.clocked < 8 <;> simp [hc, Transfer.finish, Transfer.start]

theorem clock_received (fill : Byte) (x : Transfer) (b : Byte) (h : x.handling ≠ .ignored) :
    (x.clock fill b).received = x.received ++ [b] := by
  unfold Transfer.clock
  cases hh : x.handling with
  | ignored => exact absurd hh h
  | active | asleep => by_cases hc : x.clocked < 8 <;> simp [hc, Transfer.finish, Transfer.start]

@[simp] theorem foldl_clock_handling (fill : Byte) (l : List Byte) (x : Transfer) :
    (l.foldl (Transfer.clock fill) x).handling = x.handling := by
  induction l generalizing x with
  | nil => rfl
  | cons b l ih => simp [ih]

/-- What SDO has shifted out once the bytes `l` have been clocked. -/
theorem foldl_clock_sent (fill : Byte) (l : List Byte) (x : Transfer) :
    (l.foldl (Transfer.clock fill) x).sent
      = (x.begun ++ List.replicate l.length fill).take (x.sent.length + l.length) := by
  induction l generalizing x with
  | nil => by_cases hc : x.clocked < 8 <;> simp [Transfer.begun, hc]
  | cons b l ih =>
    rw [List.foldl_cons, ih]
    by_cases hc : x.clocked < 8
    · have e : x.sent ++ [x.out] ++ List.replicate (l.length + 1) fill
          = (x.sent ++ [x.out] ++ List.replicate l.length fill) ++ [fill] := by
        rw [List.replicate_succ', ← List.append_assoc]
      have hl : x.sent.length + (l.length + 1) = (x.sent ++ [x.out] ++ List.replicate l.length fill).length := by
        simp
      simp only [Transfer.begun, clock_clocked, clock_sent, hc, if_true, Nat.lt_irrefl, if_false, List.length_cons, e]
      rw [hl, List.take_left' rfl]
      simp; omega
    · have e : x.sent ++ List.replicate (l.length + 1) fill = x.sent ++ [fill] ++ List.replicate l.length fill := by
        rw [List.replicate_succ]; simp
      simp only [Transfer.begun, clock_clocked, clock_sent, hc, Nat.lt_irrefl, if_false, List.length_cons, e]
      simp; omega

/-- A byte is clocked in a transfer that shifts out no record, the byte to begin next being `fill`. -/
theorem clockByte_clock {s : State} {x : Transfer} {fill : Byte} (hr : x.record = false)
    (hb : ¬x.clocked < 8 → (s.setTransfer (some x)).beginByte = s.setTransfer (some (x.start fill))) (b : Byte) :
    (s.setTransfer (some x)).clockByte b = s.setTransfer (some (x.clock fill b)) := by
  have ready : (s.setTransfer (some x)).readyByte = s.setTransfer (some (if x.clocked < 8 then x else x.start fill)) := by
    by_cases hc : x.clocked < 8
    · simp [State.readyByte, State.setTransfer, hc]
    · rw [if_neg hc, ← hb hc]
      simp [State.readyByte, State.setTransfer, hc]
  rw [State.clockByte, ready]
  cases hh : x.handling <;> by_cases hc : x.clocked < 8 <;>
    simp [State.endByte, State.setTransfer, Transfer.clock, Transfer.start, hh, hc, hr, State.setCmd]

/-- The bytes `l` are clocked in a transfer that shifts out no record, while each byte to begin is `fill`: `Good` says so of a
transfer and the bytes still to come, and is kept. -/
theorem foldl_clockByte (s : State) (fill : Byte) (Good : Transfer → List Byte → Prop)
    (hb : ∀ y b l, Good y (b :: l) → ¬y.clocked < 8 →
      (s.setTransfer (some y)).beginByte = s.setTransfer (some (y.start fill)))
    (hg : ∀ y b l, Good y (b :: l) → Good (y.clock fill b) l) (l : List Byte) :
    ∀ x : Transfer, x.record = false → Good x l →
      l.foldl State.clockByte (s.setTransfer (some x)) = s.setTransfer (some (l.foldl (Transfer.clock fill) x)) := by
  induction l with
  | nil => intros; rfl
  | cons b l ih =>
    intro x hr hx
    rw [List.foldl_cons, List.foldl_cons, clockByte_clock hr (hb x b l hx), ih _ (by simpa using hr) (hg x b l hx)]

/-! ### The whole transfer -/

/-- The transfer is over: SDO has shifted out `data` after the status byte, and nothing else but the auto-sleep timer
differs. -/
structure Deselected (s t : State) (data : List Byte) : Prop where
  shifted : Shifted data s t
  last : t.cmd.last = s.cmd.last
  snapshot : t.cmd.snapshot = s.cmd.snapshot
  quiet : TscQuiet s t
  frame : Frame [.cmd, .tsc] s t

theorem bitsOf_length (b : Byte) : (bitsOf b).length = 8 := by simp [bitsOf]

theorem flatMap_bitsOf_length (l : List Byte) : (l.flatMap bitsOf).length = 8 * l.length := by
  induction l with
  | nil => rfl
  | cons b l ih => simp [ih, bitsOf_length]; omega

/-- A transfer that can end with the bytes given has not shifted out more. -/
theorem agrees_sent {x : Transfer} {lead : List Byte} {n : Nat} (hs : x.Sound) (ha : x.agrees lead n 0 = true) :
    x.sent.length ≤ lead.length + n := by
  cases hh : x.handling with
  | ignored => simp only [Transfer.agrees, hh, decide_eq_true_eq] at ha; omega
  | active | asleep =>
    simp only [Transfer.agrees, hh, Bool.and_eq_true, decide_eq_true_eq, Transfer.levels, List.length_append,
      flatMap_bitsOf_length] at ha
    have := (hs.taken (by simp [hh])).1
    omega

/-- The whole transfer of `lead` and `n` bytes where no record is being shifted out and each byte still to begin is `fill`. -/
theorem transfer_fill {h : Handling} {lead : List Byte} {n : Nat} {s : State} (hp : PortOpen h lead n 0 s)
    (hl : lead ≠ []) (fill : Byte) (hr : s.shiftsRecord = false) (Good : Transfer → List Byte → Prop)
    (hb : ∀ y b l, Good y (b :: l) → ¬y.clocked < 8 →
      ((s.openTransfer .low).setTransfer (some y)).beginByte = (s.openTransfer .low).setTransfer (some (y.start fill)))
    (hg : ∀ y b l, Good y (b :: l) → Good (y.clock fill b) l)
    (hx : ∀ x, x.Sound → x.handling = h → x.agrees lead n 0 = true → Good x ((lead ++ zeros n).drop x.sent.length))
    (body : Handling → State → State) :
    ∃ t, s.transfer lead n 0 body = body h t ∧ Deselected s t (List.replicate (lead.length + n - 1) fill) := by
  obtain ⟨x, hc, hs, hh, ha, hsh, hrec⟩ := openTransfer_open hp
  have ho := frame_openTransfer s .low
  have hx' := hx x hs hh ha
  generalize hwire : (lead ++ zeros n).drop x.sent.length = wire at hx'
  have hset : (s.openTransfer .low).setTransfer (some x) = s.openTransfer .low := by
    have : (s.openTransfer .low).cmd.transfer = some x := by rw [hc]
    simp only [State.setTransfer, ← this]
    rfl
  have hfold := foldl_clockByte (s.openTransfer .low) fill Good hb hg wire x (hrec.trans hr) hx'
  rw [hset] at hfold
  have hpos : 0 < lead.length := List.length_pos_of_ne_nil hl
  have hle := agrees_sent hs ha
  have hlen : x.sent.length + wire.length = lead.length + n := by
    rw [← hwire]; simp [zeros]; omega
  refine ⟨((s.openTransfer .low).setTransfer (some (wire.foldl (Transfer.clock fill) x))).deselect, ?_, ⟨⟨?_, ?_⟩, ?_, ?_, ?_, ?_⟩⟩
  · have ht : (s.openTransfer .low).cmd.transfer = some x := by rw [hc]
    simp only [State.transfer, ht, ha, if_true, hwire, hfold, hh]
  · simp [State.deselect, State.setTransfer]
  · have hsdo : (((s.openTransfer .low).setTransfer (some (wire.foldl (Transfer.clock fill) x))).deselect).cmd.sdo
        = (x.begun ++ List.replicate wire.length fill).take (x.sent.length + wire.length) := by
      rw [← foldl_clock_sent]; simp [State.deselect, State.setTransfer]
    rw [hsdo, hsh, hlen]
    have hbe : x.sent.length ≤ x.begun.length := by unfold Transfer.begun; split <;> simp
    simp only [List.take_append, List.drop_replicate, List.length_replicate, List.take_replicate]
    have e₁ : lead.length + n - 1 + 1 = lead.length + n := by omega
    rw [e₁]
    by_cases h0 : x.begun.length = 0
    · unfold Transfer.begun at h0 hsh
      by_cases hc8 : x.clocked < 8
      · simp [hc8] at h0
      · simp only [hc8, if_false, List.length_eq_zero_iff] at h0
        have h8 : x.clocked = 8 := by have := hs.clocked.1; omega
        exact absurd h0 (hs.clocked.2 h8)
    · congr 2
      omega
  · simp [State.deselect, State.setTransfer, hc]
  · simp [State.deselect, State.setTransfer, hc]
  · exact openTransfer_quiet s .low
  · exact ho.then ((frame_setTransfer _ _).comp (frame_deselect _)) (by simp) (by simp)

/-- A record is being shifted out in ACTIVE alone. -/
theorem shiftsRecord_inactive {h : Handling} {lead : List Byte} {n extra : Nat} {s : State}
    (hp : PortOpen h lead n extra s) (hh : h ≠ .active) : s.shiftsRecord = false := by
  obtain ⟨x, _, hs, hx, _, _, hrec⟩ := openTransfer_open hp
  rw [← hrec]
  by_contra hn
  have := (hs.record (by simpa using hn)).1
  exact hh (hx ▸ this)

/-- In SLEEP SDO shifts the status byte and then 0x00, and nothing is done (R175). -/
theorem transfer_asleep {lead : List Byte} {n : Nat} {s : State} (hp : PortOpen .asleep lead n 0 s) (hl : lead ≠ [])
    (body : Handling → State → State) :
    ∃ t, s.transfer lead n 0 body = body .asleep t ∧ Deselected s t (List.replicate (lead.length + n - 1) 0#8) := by
  refine transfer_fill hp hl 0#8 (shiftsRecord_inactive hp (by simp)) (fun y _ => y.handling = .asleep) ?_ ?_ ?_ body
  · intro y b l hy _
    simp [State.beginByte, State.setTransfer, hy, State.setCmd]
  · intro y b l hy; simpa using hy
  · intro x _ hx _; exact hx

/-- SDO shifts 0xFF in a transfer that the port ignores, and nothing is done (R174). -/
theorem transfer_ignored {lead : List Byte} {n : Nat} {s : State} (hp : PortOpen .ignored lead n 0 s) (hl : lead ≠ [])
    (body : Handling → State → State) :
    ∃ t, s.transfer lead n 0 body = body .ignored t ∧ Deselected s t (List.replicate (lead.length + n - 1) 0xFF#8) := by
  refine transfer_fill hp hl 0xFF#8 (shiftsRecord_inactive hp (by simp)) (fun y _ => y.handling = .ignored) ?_ ?_ ?_ body
  · intro y b l hy _
    simp [State.beginByte, State.setTransfer, hy, State.setCmd]
  · intro y b l hy; simpa using hy
  · intro x _ hx _; exact hx

/-- A command of a code from 0x10 on has no data (12.2). -/
theorem dataFor_write (s : State) (opcode : Byte) (rest : List Byte) (h : 0x10 ≤ opcode.toNat) :
    dataFor s (opcode :: rest) = none := by
  show (decodeCommand opcode rest).bind (dataDue s) = none
  unfold decodeCommand
  split <;> first | (exfalso; omega) | skip
  all_goals (repeat' split) <;> simp [dataDue]

theorem bitsOf_injective {a b : Byte} (h : bitsOf a = bitsOf b) : a = b := by
  have hi : ∀ i, i < 8 → a.getLsbD (7 - i) = b.getLsbD (7 - i) := by
    intro i hi
    have := congrArg (fun l => l[i]?) h
    simp only [bitsOf, List.getElem?_map, List.getElem?_range hi, Option.map_some, Option.some.injEq] at this
    cases ha : a.getLsbD (7 - i) <;> cases hb : b.getLsbD (7 - i) <;> simp [ha, hb] at this ⊢
  apply BitVec.eq_of_getLsbD_eq
  intro i hi'
  have := hi (7 - i) (by omega)
  rwa [show 7 - (7 - i) = i by omega] at this

/-- The first byte that a transfer has received is the first of those it can end with. -/
theorem agrees_head {x : Transfer} {opcode : Byte} {ops : List Byte} {n extra : Nat} (hh : x.handling = .active)
    (ha : x.agrees (opcode :: ops) n extra = true) {b : Byte} {rest : List Byte} (hr : x.received = b :: rest) :
    b = opcode := by
  simp only [Transfer.agrees, hh, Bool.and_eq_true, decide_eq_true_eq, beq_iff_eq] at ha
  have h8 := congrArg (List.take 8) ha.2
  have hlong : 8 ≤ x.levels.length := by
    simp only [Transfer.levels, hr, List.flatMap_cons, List.length_append, bitsOf_length]; omega
  have hmin : min 8 (8 * (opcode :: ops).length) = 8 := by simp only [List.length_cons]; omega
  rw [List.take_take, List.take_take, hmin, Nat.min_eq_left hlong] at h8
  simp only [Transfer.levels, hr, List.flatMap_cons, List.append_assoc] at h8
  rw [List.take_left' (bitsOf_length b), List.take_left' (bitsOf_length opcode)] at h8
  exact bitsOf_injective h8

/-- A write command taken in ACTIVE: SDO shifts the status byte and then 0x00, and the body runs at the rise of CSN. -/
theorem transfer_write {opcode : Byte} {ops : List Byte} {n : Nat} {s : State}
    (hp : PortOpen .active (opcode :: ops) n 0 s) (hw : 0x10 ≤ opcode.toNat) (body : Handling → State → State) :
    ∃ t, s.transfer (opcode :: ops) n 0 body = body .active t
      ∧ Deselected s t (List.replicate ((opcode :: ops).length + n - 1) 0#8) := by
  have hr : s.shiftsRecord = false := by
    obtain ⟨x, _, hs, hx, ha, _, hrec⟩ := openTransfer_open hp
    rw [← hrec]
    by_contra hn
    obtain ⟨_, hl, _⟩ := hs.record (by simpa using hn)
    cases hre : x.received with
    | nil => simp [readsLog, hre] at hl
    | cons b rest =>
      have hb := agrees_head hx ha hre
      subst hb
      have h6 : b = 0x06#8 := by simpa [readsLog, hre] using hl
      subst h6
      exact absurd hw (by decide)
  refine transfer_fill hp (by simp) 0#8 hr
    (fun y l => y.handling = .active ∧ (¬y.clocked < 8 → y.received ≠ []) ∧ (y.received ++ l).head? = some opcode ∨ l = [])
    ?_ ?_ ?_ body
  · intro y b l hy hc
    rcases hy with ⟨ha, hne, hh⟩ | hy
    · cases hre : y.received with
      | nil => exact absurd hre (hne hc)
      | cons a rest =>
        have hao : a = opcode := by simpa [hre] using hh
        subst hao
        simp only [State.beginByte, State.setTransfer, setCmd_cmd, ha, hre, dataFor_write _ a rest hw]
        rfl
    · cases hy
  · intro y b l hy
    rcases hy with ⟨ha, _, hh⟩ | hy
    · left
      have hrec := clock_received 0#8 y b (by simp [ha])
      refine ⟨by simpa using ha, fun _ => by simp [hrec], ?_⟩
      rw [hrec]; simpa using hh
    · cases hy
  · intro x hs hx ha
    by_cases hd : ((opcode :: ops) ++ zeros n).drop x.sent.length = []
    · exact Or.inr hd
    · left
      refine ⟨hx, ?_, ?_⟩
      · intro hc hre
        have h8 : x.clocked = 8 := by have := hs.clocked.1; omega
        have := (hs.taken (by simp [hx])).1
        rw [hre] at this
        exact hs.clocked.2 h8 (List.length_eq_zero_iff.mp this.symm)
      · cases hre : x.received with
        | nil =>
          have := (hs.taken (by simp [hx])).1
          rw [hre] at this
          simp [← this]
        | cons b rest => simp [agrees_head hx ha hre]

end Sys2Proof.Machine
end

