-- ==== Sys2Proof/Laws/Requests.lean ====
section
/-! SUPPORT. The request list: what each list operation does to the entry of every class and selector, and that the order stays. -/

namespace Sys2Proof.Machine

/-! ### Identities -/

theorem identityOf_inj {c c' : Class} {n n' : Fin 32} (h : identityOf c n = identityOf c' n') : c = c' ∧ n = n' := by
  have hn := n.isLt
  have hn' := n'.isLt
  have hc : c.code = c'.code := by simp only [identityOf] at h; omega
  have hv : n = n' := Fin.ext (by simp only [identityOf] at h; omega)
  refine ⟨?_, hv⟩
  cases c <;> cases c' <;> simp_all [Class.code]

theorem Entry.is_iff (e : Entry) (c : Class) (n : Fin 32) : e.is c n = true ↔ e.cls = c ∧ e.sel = n := by
  simp [Entry.is]

theorem Entry.is_identity (e : Entry) (c : Class) (n : Fin 32) : e.is c n = true ↔ e.identity = identityOf c n := by
  rw [Entry.is_iff]
  constructor
  · rintro ⟨rfl, rfl⟩
    rfl
  · exact fun h => identityOf_inj h

theorem hasEntry_isSome (l : List Entry) (c : Class) (n : Fin 32) : hasEntry l c n = (findEntry l c n).isSome := by
  induction l with
  | nil => rfl
  | cons a l ih =>
    simp only [hasEntry, findEntry] at ih ⊢
    by_cases ha : a.is c n <;> simp [ha, ih]

/-! ### Placing -/

theorem mem_insertEntry (l : List Entry) (e x : Entry) : x ∈ insertEntry l e ↔ x = e ∨ x ∈ l := by
  induction l with
  | nil => simp [insertEntry]
  | cons a l ih =>
    simp only [insertEntry]
    split
    · simp
    · simp only [List.mem_cons, ih]
      tauto

theorem findEntry_insertEntry (l : List Entry) (e : Entry) (c : Class) (n : Fin 32) (h : hasEntry l e.cls e.sel = false) :
    findEntry (insertEntry l e) c n = if e.is c n then some e else findEntry l c n := by
  induction l with
  | nil => by_cases hc : e.is c n <;> simp [insertEntry, findEntry, hc]
  | cons a l ih =>
    have h' : a.is e.cls e.sel = false ∧ hasEntry l e.cls e.sel = false := by simpa [hasEntry] using h
    have hne : e.is c n = true → a.is c n = false := by
      intro hc
      rw [Entry.is_iff] at hc
      rw [← hc.1, ← hc.2]
      exact h'.1
    have ih := ih h'.2
    simp only [findEntry] at ih ⊢
    simp only [insertEntry]
    split
    · simp only [List.find?_cons]
      by_cases hc : e.is c n <;> simp [hc]
    · simp only [List.find?_cons]
      by_cases hc : e.is c n
      · simp [hne hc, ih, hc]
      · by_cases ha : a.is c n <;> simp_all

/-- Placement leaves an entry of the same class and selector as it stands, and adds one with void count 0 otherwise (R29). -/
theorem findEntry_placeEntry_same (l : List Entry) (c : Class) (n : Fin 32) :
    findEntry (placeEntry l c n) c n
      = match findEntry l c n with
        | some e => some e
        | none => some { cls := c, sel := n, voids := 0 } := by
  by_cases h : hasEntry l c n
  · have hs := h
    rw [hasEntry_isSome] at hs
    obtain ⟨e, he⟩ := Option.isSome_iff_exists.mp hs
    simp [placeEntry, h, he]
  · have h' : hasEntry l c n = false := by simpa using h
    have hf : findEntry l c n = none := by
      rw [hasEntry_isSome] at h'
      simpa using h'
    have hi := findEntry_insertEntry l { cls := c, sel := n, voids := 0 } c n h'
    simp only [placeEntry, h', hf, Bool.false_eq_true, if_false]
    rw [hi]
    simp [Entry.is]

theorem findEntry_placeEntry_ne (l : List Entry) (c c' : Class) (n n' : Fin 32) (h : (c', n') ≠ (c, n)) :
    findEntry (placeEntry l c n) c' n' = findEntry l c' n' := by
  unfold placeEntry
  split
  · rfl
  · rename_i hn
    have hh : hasEntry l c n = false := by simpa using hn
    rw [findEntry_insertEntry _ _ _ _ hh, if_neg]
    intro hc
    rw [Entry.is_iff] at hc
    exact h (by rw [← hc.1, ← hc.2])

theorem hasEntry_placeEntry_same (l : List Entry) (c : Class) (n : Fin 32) : hasEntry (placeEntry l c n) c n = true := by
  rw [hasEntry_isSome, findEntry_placeEntry_same]
  cases findEntry l c n <;> rfl

/-! ### Removing -/

theorem findEntry_removeEntry_same (l : List Entry) (c : Class) (n : Fin 32) : findEntry (removeEntry l c n) c n = none := by
  simp only [findEntry, removeEntry, List.find?_eq_none, List.mem_filter]
  rintro e ⟨_, he⟩
  simpa using he

theorem findEntry_removeEntry_ne (l : List Entry) (c c' : Class) (n n' : Fin 32) (h : (c', n') ≠ (c, n)) :
    findEntry (removeEntry l c n) c' n' = findEntry l c' n' := by
  induction l with
  | nil => rfl
  | cons a l ih =>
    simp only [findEntry, removeEntry] at ih ⊢
    by_cases ha : a.is c n
    · have hb : a.is c' n' = false := by
        rw [Entry.is_iff] at ha
        rw [Bool.eq_false_iff]
        intro hb
        rw [Entry.is_iff] at hb
        exact h (by rw [← hb.1, ← hb.2, ha.1, ha.2])
      simp [ha, hb, ih]
    · by_cases hb : a.is c' n' <;> simp [ha, hb, ih]

theorem hasEntry_removeEntry_same (l : List Entry) (c : Class) (n : Fin 32) : hasEntry (removeEntry l c n) c n = false := by
  rw [hasEntry_isSome, findEntry_removeEntry_same]
  rfl

/-! ### Void counts -/

theorem findEntry_setVoids_same (l : List Entry) (c : Class) (n : Fin 32) (v : Nat) :
    findEntry (setVoids l c n v) c n = (findEntry l c n).map fun e => { e with voids := v } := by
  induction l with
  | nil => rfl
  | cons a l ih =>
    simp only [findEntry, setVoids] at ih ⊢
    by_cases ha : a.is c n
    · have hb : Entry.is { a with voids := v } c n = true := ha
      simp [ha, hb]
    · simp [ha, ih]

theorem findEntry_setVoids_ne (l : List Entry) (c c' : Class) (n n' : Fin 32) (v : Nat) (h : (c', n') ≠ (c, n)) :
    findEntry (setVoids l c n v) c' n' = findEntry l c' n' := by
  induction l with
  | nil => rfl
  | cons a l ih =>
    simp only [findEntry, setVoids] at ih ⊢
    by_cases ha : a.is c n
    · have hb : a.is c' n' = false := by
        rw [Entry.is_iff] at ha
        rw [Bool.eq_false_iff]
        intro hb
        rw [Entry.is_iff] at hb
        exact h (by rw [← hb.1, ← hb.2, ha.1, ha.2])
      have hb' : Entry.is { a with voids := v } c' n' = false := hb
      simp [ha, hb, hb', ih]
    · by_cases hb : a.is c' n' <;> simp [ha, hb, ih]

theorem hasEntry_setVoids (l : List Entry) (c c' : Class) (n n' : Fin 32) (v : Nat) :
    hasEntry (setVoids l c n v) c' n' = hasEntry l c' n' := by
  rw [hasEntry_isSome, hasEntry_isSome]
  by_cases h : (c', n') = (c, n)
  · obtain ⟨rfl, rfl⟩ := Prod.mk.inj h
    rw [findEntry_setVoids_same]
    simp
  · rw [findEntry_setVoids_ne _ _ _ _ _ _ h]

/-! ### Order -/

/-- The list stands in strictly ascending identity (R28). -/
abbrev Ascending (l : List Entry) : Prop := l.Pairwise fun a b => a.identity < b.identity

theorem ascending_insertEntry (l : List Entry) (e : Entry) (h : Ascending l) (hn : hasEntry l e.cls e.sel = false) :
    Ascending (insertEntry l e) := by
  induction l with
  | nil => simp [Ascending, insertEntry]
  | cons a l ih =>
    have h' : a.is e.cls e.sel = false ∧ hasEntry l e.cls e.sel = false := by simpa [hasEntry] using hn
    have ha := List.pairwise_cons.mp h
    simp only [insertEntry]
    split
    · rename_i hlt
      refine List.pairwise_cons.mpr ⟨?_, h⟩
      intro x hx
      rcases List.mem_cons.mp hx with rfl | hx
      · exact hlt
      · exact lt_trans hlt (ha.1 x hx)
    · rename_i hge
      refine List.pairwise_cons.mpr ⟨?_, ih ha.2 h'.2⟩
      intro x hx
      rcases (mem_insertEntry l e x).mp hx with rfl | hx
      · refine lt_of_le_of_ne (Nat.le_of_not_lt hge) fun he => ?_
        have : a.is x.cls x.sel = true := (Entry.is_identity a x.cls x.sel).mpr he
        simp [this] at h'
      · exact ha.1 x hx

theorem ascending_placeEntry (l : List Entry) (c : Class) (n : Fin 32) (h : Ascending l) : Ascending (placeEntry l c n) := by
  unfold placeEntry
  split
  · exact h
  · rename_i hn
    exact ascending_insertEntry l _ h (by simpa using hn)

theorem ascending_removeEntry (l : List Entry) (c : Class) (n : Fin 32) (h : Ascending l) : Ascending (removeEntry l c n) :=
  h.filter _

theorem ascending_setVoids (l : List Entry) (c : Class) (n : Fin 32) (v : Nat) (h : Ascending l) :
    Ascending (setVoids l c n v) := by
  have hid : ∀ e : Entry, (if e.is c n then { e with voids := v } else e).identity = e.identity := by
    intro e
    split <;> rfl
  unfold setVoids
  rw [Ascending, List.pairwise_map]
  exact h.imp fun {a b} hab => by rw [hid, hid]; exact hab

end Sys2Proof.Machine
end

