-- ==== Sys2Proof/Laws/Tick.lean ====
section
/-! SUPPORT. The tick: what the line filters and the line timers become in one, said once for each of them. -/

namespace Sys2Proof.Machine

/-! ### The line filters (R2) -/

theorem filterStb_filtered (x : Lif) (pin : Level) :
    Filtered pin x.stb x.stbFilter (x.filterStb pin).stb (x.filterStb pin).stbFilter := by
  obtain ⟨link, stbDrive, datDrive, stb, dat, stbFilter, rest⟩ := x
  cases stbFilter <;> cases stb <;> cases pin <;> simp [Filtered, Lif.filterStb, Lif.seeStb, Config.filterTicks]

theorem filterDat_filtered (x : Lif) (pin : Level) :
    Filtered pin x.dat x.datFilter (x.filterDat pin).dat (x.filterDat pin).datFilter := by
  obtain ⟨link, stbDrive, datDrive, stb, dat, stbFilter, datFilter, rest⟩ := x
  cases datFilter <;> cases dat <;> cases pin <;> simp [Filtered, Lif.filterDat, Lif.seeDat, Config.filterTicks]

/-- The filter of STB leaves alone everything but STB's own fields and the both-low count. -/
theorem filterStb_frame (x : Lif) (pin : Level) :
    x.filterStb pin = { x with
      stb := (x.filterStb pin).stb, stbFilter := (x.filterStb pin).stbFilter, stbPin := (x.filterStb pin).stbPin
      stbStuck := (x.filterStb pin).stbStuck, stbLast := (x.filterStb pin).stbLast
      stbExempt := (x.filterStb pin).stbExempt, bothLow := (x.filterStb pin).bothLow } := by
  unfold Lif.filterStb
  split
  · rfl
  · split
    · rfl
    · unfold Lif.seeStb
      split <;> rfl

/-- The filter of DAT likewise. -/
theorem filterDat_frame (x : Lif) (pin : Level) :
    x.filterDat pin = { x with
      dat := (x.filterDat pin).dat, datFilter := (x.filterDat pin).datFilter, datPin := (x.filterDat pin).datPin
      datStuck := (x.filterDat pin).datStuck, datLast := (x.filterDat pin).datLast
      datExempt := (x.filterDat pin).datExempt, bothLow := (x.filterDat pin).bothLow } := by
  unfold Lif.filterDat
  split
  · rfl
  · split
    · rfl
    · unfold Lif.seeDat
      split <;> rfl

/-- What the filter of STB makes of the stuck timer before the tick is counted (R15, R19). -/
theorem filterStb_stuck (x : Lif) (pin : Level) :
    match x.stb, (x.filterStb pin).stb with
    | .high, .low => (x.filterStb pin).stbStuck = 2 ∧ (x.filterStb pin).stbLast = x.stbLast
    | .low, .high => (x.filterStb pin).stbStuck = 0 ∧ (x.filterStb pin).stbLast = x.stbStuck
    | _, _ => (x.filterStb pin).stbStuck = x.stbStuck ∧ (x.filterStb pin).stbLast = x.stbLast := by
  obtain ⟨link, stbDrive, datDrive, stb, dat, stbFilter, rest⟩ := x
  cases stbFilter <;> cases stb <;> cases pin <;> simp [Lif.filterStb, Lif.seeStb, Config.filterTicks]

/-- The same for DAT. -/
theorem filterDat_stuck (x : Lif) (pin : Level) :
    match x.dat, (x.filterDat pin).dat with
    | .high, .low => (x.filterDat pin).datStuck = 2 ∧ (x.filterDat pin).datLast = x.datLast
    | .low, .high => (x.filterDat pin).datStuck = 0 ∧ (x.filterDat pin).datLast = x.datStuck
    | _, _ => (x.filterDat pin).datStuck = x.datStuck ∧ (x.filterDat pin).datLast = x.datLast := by
  obtain ⟨link, stbDrive, datDrive, stb, dat, stbFilter, datFilter, rest⟩ := x
  cases datFilter <;> cases dat <;> cases pin <;> simp [Lif.filterDat, Lif.seeDat, Config.filterTicks]

/-- The both-low count once both filters have read their pins, before the tick is counted (R18). -/
theorem filters_bothLow (x : Lif) (stb dat : Level) :
    let y := (x.filterStb stb).filterDat dat
    y.stb = .low → y.dat = .low →
      y.bothLow = if x.stb = .low ∧ x.dat = .low then x.bothLow else if x.Detects then 2 else 0 := by
  obtain ⟨link, stbDrive, datDrive, s, d, stbFilter, datFilter, rest⟩ := x
  cases stbFilter <;> cases datFilter <;> cases s <;> cases d <;> cases stb <;> cases dat <;>
    simp [Lif.filterStb, Lif.filterDat, Lif.seeStb, Lif.seeDat, Config.filterTicks]

/-! ### The line interface (R6, R9 to R11, R15 to R18) -/

/-- The line interface once its filters have read the pins and its timers have counted the tick. -/
def State.lifCounted (s : State) : Lif := s.lif.count ((s.lif.filterStb s.stbAtPin).filterDat s.datAtPin)

/-- After that the tick changes only the detector, and what the own pull of STB changes. -/
theorem lifAfter_frame (s : State) :
    s.lifAfter = { s.lifCounted with
      armed := s.lifAfter.armed, ownPulse := s.lifAfter.ownPulse
      stbDrive := s.lifAfter.stbDrive, tLow := s.lifAfter.tLow, tHigh := s.lifAfter.tHigh } := by
  simp only [State.lifAfter, State.lifCounted]
  split <;> split <;> rfl

/-- What the counted line interface holds, field by field, of the filters' result `y`. -/
theorem lifCounted_fields (s : State) :
    let y := (s.lif.filterStb s.stbAtPin).filterDat s.datAtPin
    s.lifCounted.link = s.lif.link ∧ s.lifCounted.begun = s.lif.begun ∧ s.lifCounted.tHigh = bump s.lif.tHigh
      ∧ s.lifCounted.tLow = bump s.lif.tLow ∧ y.idleTimer = s.lif.idleTimer ∧ y.link = s.lif.link
      ∧ y.pulse = s.lif.pulse ∧ y.stbDrive = s.lif.stbDrive ∧ y.ownPulse = s.lif.ownPulse := by
  simp only [State.lifCounted, Lif.count]
  rw [filterDat_frame, filterStb_frame]
  exact ⟨rfl, rfl, rfl, rfl, rfl, rfl, rfl, rfl, rfl⟩

/-- A tick pulls STB exactly where the counted line interface has tHIGH passed, and keeps drive and counts where not. -/
theorem lifAfter_pull (s : State) :
    s.lifAfter.stbDrive = (if s.pullsStb s.lifCounted then .low else s.lifCounted.stbDrive)
      ∧ s.lifAfter.tLow = (if s.pullsStb s.lifCounted then some 0 else s.lifCounted.tLow)
      ∧ s.lifAfter.tHigh = (if s.pullsStb s.lifCounted then none else s.lifCounted.tHigh) := by
  have h : s.pullsStb { s.lifCounted with armed := false, ownPulse := false } = s.pullsStb s.lifCounted := rfl
  have e : s.lifAfter =
      let z := if s.releaseTooLate s.lifCounted then { s.lifCounted with armed := false, ownPulse := false } else s.lifCounted
      if s.pullsStb z then { z with stbDrive := .low, tLow := some 0, tHigh := none } else z := rfl
  rw [e]
  cases hr : s.releaseTooLate s.lifCounted <;> cases hp : s.pullsStb s.lifCounted <;>
    simp only [hp, h, if_true, if_false, Bool.false_eq_true] <;> refine ⟨?_, ?_, ?_⟩ <;> first | rfl | trivial

end Sys2Proof.Machine
end

