-- ==== Sys2Proof/Tests/Slice0.lean ====
section
/-! SUPPORT. Tests on small states: ill-formed terms refused, transfers byte by byte, what commands and events do, and states that meet the hypotheses of the statements. -/

namespace Sys2Proof.Tests

open Sys2Proof.Machine

set_option maxRecDepth 20000

/-! ### Small states -/

/-- The state after an answer. -/
def after : Host.Outcome State Fault Refusal → State
  | .next s => s
  | _ => State.reset

/-- Run one row. -/
def runRow (i : Instr) (s : State) : State := after (exec i s)

/-- Station 0 on an idle bus with station 1 in its roster. -/
def station (m : Membership) : State :=
  let s := State.reset
  let s := s.setMbr { s.mbr with membership := m, roster := 3#32, nonce := some 7#16 }
  let s := s.setLif { s.lif with link := .idle, idleTimer := 60 }
  s.setFlg { s.flg with sync := if m = .online ∨ m = .leaving then .synced else .unsynced }

/-- Its slot 3, enabled and STATIC with stations 0 and 1, in the given state. -/
def slotIn (state : SlotState) (committed : Bool) (source : Source) : Slot :=
  { Slot.reset with
    cfg := { SlotConfig.default with enabled := true, mask := 3#32, timeout := 5#16, policy := .halt, retry := 0 }
    state := state, committed := committed
    arrival := if state = .waiting then some { value := 9#16, source := source, time := 1#32 } else none }

/-- A member with slot 3 in the given state, its ARRIVE entry held while it is WAITING. -/
def withSlot (m : Membership) (state : SlotState) (committed : Bool) : State :=
  let s := (station m).setSlot 3 (slotIn state committed .command)
  if state = .waiting then s.place .arrive 3 else s

/-- Input 0 configured, its pin at `pin` and its filtered level the other one. -/
def withInput (s : State) (d : Detection) (b : Binding) (target : Byte) (pin filtered : Level) (armed : Bool) : State :=
  let c : InputConfig := { detection := d, debounce := false, wake := true, binding := b, target := target, value := 5#16 }
  let s := s.setPin { s.pin with cfg := { s.pin.cfg with inputs := s.pin.cfg.inputs.set 0 c } }
  s.setInput 0 { pin := pin, filtered := filtered, timer := none, armed := armed, wakeArmed := false }

/-- Output 0 in the given mode, following number 3. -/
def withOutput (s : State) (m : Mode) : State :=
  let c : OutputConfig := { OutputConfig.default with mode := m, target := 3#8 }
  s.setPin { s.pin with cfg := { s.pin.cfg with outputs := s.pin.cfg.outputs.set 0 c } }

/-- A number as the samples of a field. -/
def levelsOf (width n : Nat) : List Level :=
  (List.range width).map fun i => if n.testBit (width - 1 - i) then .high else .low

/-- A set as the samples of a field. -/
def claimsOf (x : Set32) : List Level := (List.range 32).map fun n => if x.getLsbD n then .low else .high

/-- The samples of positions 0 to 99 of a round; CHK is not compared here. -/
def samplesOf (identity tag : Nat) (a b : Set32) (v : Nat) : List Level :=
  levelsOf 8 identity ++ levelsOf 4 tag ++ claimsOf a ++ claimsOf b ++ levelsOf 16 v ++ levelsOf 8 0

/-- A station in ROUND, STB released and low, with the first `k` samples of a round. -/
def inRound (s : State) (k : Nat) (l : List Level) : State :=
  (s.setLif { s.lif with link := .round, begun := true, stb := .low }).setRnd
    { s.rnd with round := some { Round.fresh with samples := l.take k } }

/-- The round the station is in, with `f` applied. -/
def editRound (s : State) (f : Round → Round) : State := s.setRnd { s.rnd with round := s.rnd.round.map f }

/-- The station in SLEEP. -/
def sleeping (s : State) : State := s.setTsc { s.tsc with power := .sleep }

/-- The station in its internal reset. -/
def resetting (s : State) : State := s.setTsc { s.tsc with inReset := true }

/-- The round the state holds. -/
def roundOf (s : State) : Round :=
  match s.rnd.round with
  | some r => r
  | none => .fresh

/-! ### Well-formedness -/

theorem test_refuses_short_station_config : (Instr.writeStationConfig [1#8]).wellFormed = false := by decide
theorem test_refuses_short_slot_config : (Instr.writeSlotConfig 0#8 [1#8]).wellFormed = false := by decide
theorem test_refuses_long_pin_config : (Instr.writePinConfig (List.replicate 34 0#8)).wellFormed = false := by decide
theorem test_refuses_eight_extra_bits : (Instr.transferDiscarded [] 8).wellFormed = false := by decide
theorem test_accepts_arrive : (Instr.arrive 3#8 7#16).wellFormed = true := by decide

/-! ### Transfers, byte by byte from 12.2 and R168 -/

theorem test_bytes_arrive : judge [0x20#8, 0x04#8, 0x00#8, 0x78#8] 0 = .whole (.arrive 4#8 120#16) := by decide
theorem test_bytes_set_flags :
    judge [0x30#8, 0x80#8, 0x00#8, 0x00#8, 0x01#8] 0 = .whole (.setFlags 0x80000001#32) := by decide
theorem test_bytes_read_slot : judge [0x05#8, 0x1F#8, 0x00#8, 0x00#8] 0 = .whole (.readSlot 31#8 2) := by decide
theorem test_bytes_clear_events :
    judge [0x40#8, 0x01#8, 0x01#8, 0x02#8] 0 = .whole (.clearEvents 1#8 0x0102#16) := by decide
theorem test_bytes_wake : judge [0x61#8] 0 = .whole .wake := by decide
theorem test_bytes_halt : judge [0x38#8, 0x7F#8, 0xFF#8] 0 = .whole (.halt 0x7FFF#16) := by decide
theorem test_bytes_unknown : judge [0x00#8, 0x10#8] 0 = .unknown ∧ judge [0xFF#8] 0 = .unknown := by decide
theorem test_bytes_discarded :
    judge [0x21#8] 0 = .discarded ∧ judge [0x05#8] 0 = .discarded ∧ judge [0x10#8, 0x00#8] 0 = .discarded
      ∧ judge [0x10#8] 3 = .discarded ∧ judge [] 5 = .discarded ∧ judge [] 0 = .noEdge := by decide
theorem test_default_station_config_bytes :
    parseStationConfig [16#8, 16#8, 48#8, 0x21#8, 10#8, 0xFD#8, 0#8] = some StationConfig.default := by decide
theorem test_no_row_has_bits : decodeTableWord 8 0x10 = none := by decide

/-! ### Steps -/

theorem test_step_runs_the_front : (State.reset.setPending [.join]).pending = .join :: [] := by decide
theorem test_tick_running : State.reset.pending = [] ∧ State.reset.Running := by decide
theorem test_tick_asleep : (sleeping State.reset).pending = [] ∧ (sleeping State.reset).tsc.power = .sleep := by decide
theorem test_join_is_no_reset_end :
    PortSound State.reset ∧ exec .join State.reset = .next (runRow .join State.reset)
      ∧ ∀ p, Instr.join ≠ .internalResetEnd p := ⟨fun _ h => (nomatch h), rfl, fun _ h => (nomatch h)⟩

/-! ### Formats, records, port -/

theorem test_read_back_hypotheses :
    (Instr.arrive 31#8 7#16).wellFormed = true
      ∧ encodeCommand (.arrive 31#8 7#16) = some (0x20#8 :: [31#8, 0#8, 7#8]) := by decide
theorem test_default_configurations_valid : StationConfig.default.valid = true ∧ SlotConfig.default.valid = true := by decide
theorem test_pin_config_hypotheses :
    let c := (withOutput (withInput State.reset .high .arrive 31#8 .low .low true) .pulse).pin.cfg
    (∀ i : Fin 4, c.inputs[i].binding.usesTarget = true → c.inputs[i].target.toNat < 32)
      ∧ ∀ o : Fin 4, (c.outputs[o].mode.usesTarget = true → c.outputs[o].target.toNat < 32) ∧ c.outputs[o].width ≠ 0#8 := by
  decide
theorem test_status_cases :
    State.reset.rnd.requests.length ≤ 37 ∧ State.reset.log.records.length ≤ 16
      ∧ (resetting State.reset).tsc.inReset = true ∧ State.reset.tsc.inReset = false := by decide
theorem test_filter_cases :
    State.reset.cfg.filter.getLsbD Kind.progress.group = false ∧ State.reset.cfg.filter.getLsbD Kind.void.group = true := by
  decide

/-- A log with `n` records. -/
def withRecords (n : Nat) : State :=
  State.reset.setLog
    { records := List.replicate n { seq := 7#8, kind := .void, sel := 0, tag := 0#8, set := 0#32, value := 0#16, time := 0#32 }
      next := 0#8 }

theorem test_log_cases : (withRecords 15).log.records.length < 16 ∧ 16 ≤ (withRecords 16).log.records.length := by decide
theorem test_log_switches :
    (Slot.reset).cfg.logRecords = true ∧ (Slot.reset).cfg.logProgress = false
      ∧ (State.reset.slot 0).state ≠ .waiting ∧ (State.reset.slot 0).arrival = none
      ∧ ((withSlot .online .waiting true).slot 3).arrival.isSome = true
      ∧ findEntry (withSlot .online .waiting true).rnd.requests .arrive 3 = some { cls := .arrive, sel := 3, voids := 0 } := by
  decide
theorem test_full_log_drops :
    ((withRecords 16).offer .void 0 0#8 0#32 0#16).log.records.length = 16
      ∧ ((withRecords 16).offer .void 0 0#8 0#32 0#16).ntf.pendA = 4#9 := by decide

/-- The bits, clocked one by one. -/
def clocked (l : List Level) (s : State) : State := l.foldl (fun t b => t.readyByte.sckRise b) s

/-- The transfer in progress. -/
def transferOf (s : State) : Transfer :=
  match s.cmd.transfer with
  | some x => x
  | none => State.reset.newTransfer .low

/-- A transfer is sound where each clause of it is true. -/
theorem sound_of {x : Transfer}
    (h : (x.clocked ≤ 8 ∧ (x.clocked = 8 → x.sent ≠ []))
      ∧ (x.handling ≠ .ignored → x.received.length = x.sent.length ∧ x.bits.length = x.clocked % 8)
      ∧ (x.handling = .ignored → x.received = [] ∧ x.bits = [])
      ∧ (x.record = true →
          x.handling = .active ∧ readsLog x.received = true ∧ (x.clocked = 8 → x.received.length % 14 ≠ 1))) : x.Sound :=
  ⟨h.1, h.2.1, h.2.2.1, h.2.2.2⟩

/-- A transfer in progress lets a command end it where it is sound, handled as said and has carried nothing else. -/
theorem portOpen_of {s : State} {h : Handling} {lead : List Byte} {n extra : Nat} (x : Transfer)
    (hx : s.cmd.transfer = some x) (hs : x.Sound) (ha : x.handling = h ∧ x.agrees lead n extra = true) :
    PortOpen h lead n extra s := by
  refine ⟨fun y hy => ?_, by rw [hx]; exact ha⟩
  rw [hx] at hy
  exact Option.some.inj hy ▸ hs

/-- A free port lets any transfer begin. -/
theorem portOpen_free {s : State} {h : Handling} (lead : List Byte) (n extra : Nat) (hx : s.cmd.transfer = none)
    (hh : s.handling = h) : PortOpen h lead n extra s :=
  ⟨fun y hy => (by rw [hx] at hy; cases hy), by rw [hx]; exact hh⟩

theorem test_port_active (c : Instr) : PortActive c State.reset := ⟨by decide, portOpen_free _ _ _ rfl rfl⟩
theorem test_port_asleep (c : Instr) : PortAsleep c (sleeping State.reset) := portOpen_free _ _ _ rfl rfl
theorem test_port_in_reset (c : Instr) :
    PortIgnores c (resetting State.reset) ∧ (resetting State.reset).tsc.inReset = true :=
  ⟨portOpen_free _ _ _ rfl rfl, rfl⟩

/-- ARRIVE of value 120 at slot 3 with the first 12 bits of its 32 clocked. -/
def arriving (s : State) : State :=
  clocked ([0x20#8, 0x03#8].flatMap bitsOf |>.take 12) (runRow (.transferStart .low) s)

theorem test_port_clocked :
    PortActive (.arrive 3#8 120#16) (arriving State.reset) ∧ PortAsleep (.arrive 3#8 120#16) (arriving (sleeping State.reset))
      ∧ PortIgnores (.arrive 3#8 120#16) (arriving (resetting State.reset)) :=
  ⟨⟨by decide, portOpen_of _ rfl (sound_of (by decide)) (by decide)⟩, portOpen_of _ rfl (sound_of (by decide)) (by decide),
    portOpen_of _ rfl (sound_of (by decide)) (by decide)⟩
theorem test_clocked_arrive :
    (transferOf (arriving State.reset)).received = [0x20#8] ∧ (transferOf (arriving State.reset)).clocked = 4
      ∧ (runRow (.arrive 3#8 120#16) (arriving (withSlot .online .ready false))).cmd.last = .ok
      ∧ ((runRow (.arrive 3#8 120#16) (arriving (withSlot .online .ready false))).slot 3).arrivalValue = 120#16
      ∧ (runRow (.arrive 4#8 120#16) (arriving State.reset)).cmd.last = .state
      ∧ (runRow (.withdraw 3#8) (arriving State.reset)).cmd = (arriving State.reset).cmd := by decide

/-- The transfer in progress as the internal reset begins in its second byte. -/
def cutTransfer : State := runRow .resetn (arriving State.reset)

theorem test_reset_cuts_a_transfer :
    PortIgnores (.arrive 3#8 120#16) cutTransfer
      ∧ (runRow (.arrive 3#8 120#16) cutTransfer).cmd.sdo = [0x00#8, 0x0F#8, 0xFF#8, 0xFF#8]
      ∧ (runRow (.arrive 3#8 120#16) cutTransfer).cmd.last = .ok
      ∧ (transferOf cutTransfer).received = [] ∧ (transferOf cutTransfer).sent = [0x00#8] :=
  ⟨portOpen_of _ rfl (sound_of (by decide)) (by decide), by decide, by decide, by decide, by decide⟩

/-! ### SCK edges -/

/-- The port with SCK at `sck` and one more level of SCK and SDI to come. -/
def edge (sck next sdi : Level) (s : State) : State := s.setSpi { sck := sck, sdi := .low, feed := [(next, sdi)] }

/-- A transfer that has carried the given bytes. -/
def carrying (l : List Byte) (s : State) : State := clocked (l.flatMap bitsOf) (runRow (.transferStart .low) s)

theorem test_edges_of_sck :
    let rise := step (edge .low .high .high (arriving State.reset))
    let whole := step (edge .low .high .high (clocked [.low, .low, .high] (arriving State.reset)))
    (arriving State.reset).pending = [] ∧ (transferOf (after rise)).clocked = 5
      ∧ (transferOf (after rise)).bits = [.low, .low, .low, .low, .high]
      ∧ (transferOf (after whole)).received = [0x20#8, 0x03#8] ∧ (transferOf (after whole)).clocked = 8
      ∧ (transferOf (after (step (edge .high .low .low (after whole))))).clocked = 0
      ∧ after (step (edge .high .low .low (arriving State.reset))) ≠ State.reset := by decide
theorem test_falling_edge_begins_data :
    (transferOf (after (step (edge .high .low .low (carrying [0x06#8] (withRecords 1)))))).record = true
      ∧ (transferOf (after (step (edge .high .low .low (carrying [0x06#8] (withRecords 1)))))).out = 7#8
      ∧ (transferOf (after (step (edge .high .low .low (carrying [0x05#8, 0x1F#8] State.reset))))).out = 0x1F#8
      ∧ (transferOf (after (step (edge .high .low .low (carrying [0x01#8] State.reset))))).out = 0x00#8
      ∧ (transferOf (after (step (edge .high .low .low (carrying [0x01#8] (resetting State.reset)))))).out = 0xFF#8 := by
  decide
theorem test_sound_transfers :
    (transferOf (arriving State.reset)).Sound ∧ (transferOf (carrying [0x06#8] (withRecords 1))).Sound
      ∧ (transferOf (carrying [0x05#8, 0x1F#8] State.reset)).Sound
      ∧ (transferOf (carrying [0x01#8] (sleeping State.reset))).Sound
      ∧ (transferOf (carrying [0x01#8] (resetting State.reset))).Sound :=
  ⟨sound_of (by decide), sound_of (by decide), sound_of (by decide), sound_of (by decide), sound_of (by decide)⟩
theorem test_record_goes_with_its_last_bit :
    (carrying (0x06#8 :: List.replicate 13 0#8) (withRecords 2)).log.records.length = 2
      ∧ (carrying (0x06#8 :: List.replicate 14 0#8) (withRecords 2)).log.records.length = 1
      ∧ (clocked [.low] (carrying (0x06#8 :: List.replicate 13 0#8) (withRecords 2))).log.records.length = 2 := by decide
theorem test_record_after_none :
    let s := (carrying (0x06#8 :: List.replicate 14 0#8) State.reset).offer .void 5 0#8 0#32 0#16
    let t := runRow (.readLog 28) s
    PortActive (.readLog 28) s ∧ (t.cmd.sdo.drop 1).take 14 = List.replicate 14 0#8 ∧ t.cmd.sdo[17]? = some 5#8
      ∧ t.log.records = [] :=
  ⟨⟨by decide, portOpen_of _ rfl (sound_of (by decide)) (by decide)⟩, by decide, by decide, by decide⟩
theorem test_sdo_pin :
    State.reset.sdoPin = none ∧ (runRow (.transferStart .low) State.reset).sdoPin = some .low
      ∧ (runRow (.transferStart .high) (resetting State.reset)).sdoPin = some .high := by decide

theorem test_encoded_commands : encodeCommand .join = some [0x10#8] ∧ Instr.join ≠ .wake := by decide
theorem test_transfer_start_cases :
    (runRow (.transferStart .high) State.reset).cmd.transfer ≠ none ∧ State.reset.cmd.transfer = none
      ∧ (State.reset.tsc.inReset = false ∧ State.reset.tsc.power = .active)
      ∧ (sleeping State.reset).tsc.inReset = false := by decide
theorem test_discard_ports :
    PortOpen .active [] 0 0 State.reset ∧ PortOpen .active [0x06#8, 0#8] 0 1 State.reset
      ∧ PortOpen .active [0x21#8] 0 0 (carrying [0x21#8] State.reset)
      ∧ PortOpen .asleep [0x21#8] 0 0 (sleeping State.reset) ∧ PortOpen .ignored [0x21#8] 0 0 (resetting State.reset)
      ∧ PortOpen .active [0x00#8] 2 0 State.reset ∧ PortOpen .asleep [0x00#8] 2 0 (sleeping State.reset) :=
  ⟨portOpen_free _ _ _ rfl rfl, portOpen_free _ _ _ rfl rfl, portOpen_of _ rfl (sound_of (by decide)) (by decide),
    portOpen_free _ _ _ rfl rfl, portOpen_free _ _ _ rfl rfl, portOpen_free _ _ _ rfl rfl, portOpen_free _ _ _ rfl rfl⟩
theorem test_discard_cases :
    judge [0x06#8, 0#8] 1 = .discarded ∧ judge [0x21#8] 0 = .discarded ∧ [0x21#8].head? ≠ some 0x06#8
      ∧ (Instr.transferDiscarded [0x06#8, 0#8] 1).wellFormed = true ∧ (Instr.transferDiscarded [0x21#8] 7).wellFormed = true
      ∧ namesCommand 0x00#8 = false := by decide
theorem test_operand_bounds : (31#8).toNat < 32 ∧ 32 ≤ (32#8).toNat ∧ 2 ≤ (2#8).toNat := by decide

theorem test_read_status_bytes : (runRow (.readStatus 2) State.reset).cmd.sdo = [0#8, 0#8, 0#8] := by decide
theorem test_read_roster : (runRow (.readRoster 5) (station .online)).cmd.sdo.tail = [0#8, 0#8, 0#8, 3#8, 0#8] := by decide
theorem test_read_flags : (runRow (.readFlags 5) (station .online)).cmd.sdo.tail = [0#8, 0#8, 0#8, 0#8, 1#8] := by decide
theorem test_read_events : (runRow (.readEvents 2) (State.reset.raise .bus)).cmd.sdo.tail = [1#8, 0#8] := by decide
theorem test_read_slot :
    (runRow (.readSlot 3#8 2) (withSlot .online .waiting false)).cmd.sdo.tail = [0#8, 3#8, 2#8] := by decide
theorem test_read_slot_wraps : (runRow (.readSlot 31#8 27) State.reset).cmd.sdo.getLast? = some 0#8 := by decide
theorem test_read_log : (runRow (.readLog 28) (withRecords 15)).log.records.length = 13 := by decide
theorem test_cut_read_log : (runRow (.readLog 27) (withRecords 15)).log.records.length = 14 := by decide
theorem test_read_station_config :
    (runRow (.readStationConfig 7) State.reset).cmd.sdo.tail = [16#8, 16#8, 48#8, 0x21#8, 10#8, 0xFD#8, 0#8] := by decide
theorem test_read_slot_config : (runRow (.readSlotConfig 0#8 2) State.reset).cmd.sdo.tail = [0#8, 0#8, 0x42#8] := by decide
theorem test_read_pin_config : (runRow (.readPinConfig 33) State.reset).cmd.sdo.length = 34 := by decide
theorem test_discarded_read_log :
    (runRow (.transferDiscarded (0x06#8 :: List.replicate 14 0#8) 3) (withRecords 2)).log.records.length = 1
      ∧ (runRow (.transferDiscarded [0x06#8] 3) State.reset).cmd.last = .discarded := by decide
theorem test_unknown_opcode : (runRow (.unknownOpcode 0x00#8 2) State.reset).cmd.last = .unknown := by decide
theorem test_mask_unhides :
    (runRow (.setMask 0#8 0x100#16) (State.reset.raise .bus)).naLow = true
      ∧ (runRow (.clearMask 0#8 0x100#16) (runRow (.setMask 0#8 0x100#16) (State.reset.raise .bus))).naLow = false := by
  decide
theorem test_clear_events : (runRow (.clearEvents 1#8 0x100#16) (State.reset.raise .bus)).ntf.pendB = 0#9 := by decide

/-! ### Write commands -/

theorem test_join_cases :
    (State.reset.mbr.membership = .offline ∧ State.reset.lif.link = .detached ∧ ¬State.reset.StbStuck ∧ ¬State.reset.DatStuck)
      ∧ ¬((station .online).mbr.membership = .offline ∧ (station .online).lif.link = .detached)
      ∧ (State.reset.setLif { State.reset.lif with dat := .low, datStuck := 256000 }).DatStuck := by decide
theorem test_join :
    (runRow .join State.reset).mbr.membership = .joining ∧ (runRow .join State.reset).rnd.requests = [{ cls := .join, sel := 0, voids := 0 }] := by
  decide
theorem test_leave_cases :
    ((withSlot .online .waiting false).slot 3).state = .waiting ∧ ((withSlot .online .waiting false).slot 3).committed = false
      ∧ ((withSlot .online .waiting true).slot 3).committed = true ∧ (station .leaving).mbr.membership ≠ .online := by decide
theorem test_leave :
    (runRow .leave (withSlot .online .waiting false)).mbr.membership = .leaving
      ∧ ((runRow .leave (withSlot .online .waiting true)).slot 3).withdrawPending = true := by decide
theorem test_own_pulse_in_detached :
    let s := runRow .busResetPulseEnd (runRow .busReset State.reset)
    s.lif.link = .detached ∧ s.lif.ownPulse = true ∧ s.lif.armed = false
      ∧ (runRow .busResetArmed s).lif.armed = true ∧ (runRow .busResetArmed s).lif.link = .detached := by decide
theorem test_bus_reset :
    (runRow .busReset State.reset).lif.link = .resetting ∧ (runRow .busReset (runRow .busReset State.reset)).cmd.last = .already := by
  decide
theorem test_arrive :
    ((runRow (.arrive 3#8 9#16) (withSlot .online .ready false)).slot 3).state = .waiting
      ∧ (runRow (.arrive 3#8 9#16) (withSlot .online .waiting false)).cmd.last = .already := by decide
theorem test_arrive_refusals :
    (runRow (.arrive 32#8 9#16) (station .online)).cmd.last = .operand
      ∧ (runRow (.arrive 31#8 9#16) (station .online)).cmd.last = .operand
      ∧ (runRow (.arrive 3#8 9#16) (station .joining)).cmd.last = .state
      ∧ (runRow (.arrive 3#8 9#16) (withSlot .online .fault false)).cmd.last = .state := by decide
theorem test_withdraw :
    ((runRow (.withdraw 3#8) (withSlot .online .waiting false)).slot 3).state = .ready
      ∧ (runRow (.withdraw 3#8) (withSlot .online .waiting true)).cmd.last = .pending := by decide
theorem test_clear_slot :
    ((runRow (.clearSlot 3#8) (withSlot .online .fault false)).slot 3).state = .ready
      ∧ (runRow (.clearSlot 3#8) (withSlot .online .ready false)).cmd.last = .state := by decide
theorem test_set_flags :
    (runRow (.setFlags 5#32) (station .online)).flg.setReq = 5#32
      ∧ (runRow (.clearFlags 0#32) (station .online)).rnd.requests = [] := by decide
theorem test_clear_flags :
    (runRow (.clearFlags 4#32) (runRow (.setFlags 5#32) (station .online))).flg.setReq = 1#32 := by decide

/-- The station, HALTED. -/
def haltedStation : State := (station .online).setHlt (Hlt.clear .halted)

theorem test_halt :
    (runRow (.halt 9#16) (station .online)).hlt.request = some 9#16 ∧ (runRow (.halt 9#16) haltedStation).hlt.heldCause = some 9#16
      ∧ (runRow (.halt 0x8000#16) (station .online)).cmd.last = .operand := by decide
theorem test_resume :
    (runRow .resume haltedStation).hlt.resumePending = true ∧ (runRow .resume (station .online)).cmd.last = .state := by decide
theorem test_config_lengths :
    [4#8, 4#8, 8#8, 0#8, 0#8, 0#8, 15#8].length = 7 ∧ ([0x90#8, 3#8, 0#8, 0#8, 0#8, 0#8, 0#8, 0#8] : List Byte).length = 8
      ∧ ([1#8] : List Byte).length ≠ 7 ∧ ([1#8] : List Byte).length ≠ 8 ∧ ([1#8] : List Byte).length ≠ 33 := by decide
theorem test_write_station_config :
    (runRow (.writeStationConfig [4#8, 4#8, 8#8, 0x30#8, 0#8, 0#8, 15#8]) State.reset).cfg.tIdle = 8#8
      ∧ (runRow (.writeStationConfig [4#8, 8#8, 8#8, 0x30#8, 0#8, 0#8, 15#8]) State.reset).cmd.last = .operand
      ∧ (runRow (.writeStationConfig [4#8, 4#8, 8#8, 0x30#8, 0#8, 0#8, 16#8]) State.reset).cmd.last = .operand := by decide
theorem test_write_slot_config :
    ((runRow (.writeSlotConfig 31#8 [0x90#8, 3#8, 0#8, 0#8, 0#8, 0#8, 0#8, 0#8]) State.reset).slot 31).state = .ready
      ∧ (runRow (.writeSlotConfig 31#8 [0x80#8, 3#8, 0#8, 0#8, 0#8, 0#8, 0#8, 0#8]) State.reset).cmd.last = .operand
      ∧ (runRow (.writeSlotConfig 0#8 []) State.reset).cmd.last = .discarded := by decide

/-- The default pin configuration as bytes, with one byte of the first input changed. -/
def pinBytes (target : Byte) : List Byte :=
  [0x03#8, 0x01#8, target, 0#8, 5#8] ++ (pinConfigBytes PinConfig.default).drop 5

theorem test_write_pin_config :
    ((runRow (.writePinConfig (pinBytes 31#8)) State.reset).inputCfg 0).binding = .arrive
      ∧ (runRow (.writePinConfig (pinBytes 32#8)) State.reset).cmd.last = .operand := by decide
theorem test_pin_config_cases :
    (pinBytes 31#8).length = 33 ∧ (∀ i, ¬InputRefused (pinBytes 31#8) i) ∧ (∀ o, ¬OutputRefused (pinBytes 31#8) o)
      ∧ InputRefused (pinBytes 32#8) 0 ∧ InputRefused ((pinBytes 0#8).set 15 5#8) 3 ∧ InputRefused ((pinBytes 0#8).set 6 6#8) 1
      ∧ OutputRefused ((pinBytes 0#8).set 31 0#8) 3 ∧ OutputRefused ((pinBytes 0#8).set 20 7#8) 0
      ∧ OutputRefused (((pinBytes 0#8).set 23 4#8).set 24 32#8) 1
      ∧ State.reset.mbr.membership = .offline ∧ (station .online).mbr.membership ≠ .offline := by
  unfold InputRefused OutputRefused; decide
theorem test_refused_pin_configs :
    (runRow (.writePinConfig ((pinBytes 0#8).set 15 5#8)) State.reset).cmd.last = .operand
      ∧ (runRow (.writePinConfig ((pinBytes 0#8).set 31 0#8)) State.reset).cmd.last = .operand
      ∧ (runRow (.writePinConfig ((pinBytes 0#8).set 24 32#8)) State.reset).cmd.last = .ok := by decide

/-! ### Power and reset -/

theorem test_reset_cases :
    ¬(State.reset.tsc.inReset = true ∧ State.reset.tsc.cause = .powerOn)
      ∧ (resetting State.reset).tsc.inReset = true ∧ (resetting State.reset).tsc.cause = .powerOn := by decide
theorem test_resets :
    (runRow .powerOn (station .online)).tsc.inReset = true ∧ (runRow .resetn (station .online)).tsc.cause = .pin
      ∧ (runRow .softReset (station .online)).tsc.cause = .soft := by decide
theorem test_reset_end :
    (runRow (.internalResetEnd ⟨.low, .high, .low, .low, .high⟩) (runRow .softReset (station .online))).mbr.number = 9
      ∧ (runRow (.internalResetEnd ⟨.high, .low, .low, .low, .low⟩) (runRow .softReset (station .online))).mbr.number = 16
      ∧ (runRow (.internalResetEnd ⟨.low, .high, .low, .low, .high⟩) (runRow .softReset (station .online))).mbr.membership = .offline
      ∧ (transferOf (runRow (.internalResetEnd ⟨.low, .low, .low, .low, .low⟩) cutTransfer)).handling = .ignored
      ∧ (runRow (.internalResetEnd ⟨.low, .low, .low, .low, .low⟩) cutTransfer).cmd.last = .ok := by decide
theorem test_sleep_cases :
    (State.reset.setCmd { State.reset.cmd with transfer := none }).sleepOk = true
      ∧ ((withSlot .online .waiting false).setCmd { State.reset.cmd with transfer := none }).sleepOk = false := by decide

/-- An OFFLINE station with auto-sleep on. -/
def drowsy : State := State.reset.setCfg { State.reset.cfg with autoSleep := 1 }

theorem test_auto_sleep_case : drowsy.Running ∧ drowsy.cfg.autoSleep ≠ 0 ∧ drowsy.sleepOk = true := by decide
theorem test_sleep :
    (runRow .sleep State.reset).tsc.power = .sleep ∧ (runRow .autoSleepExpiry drowsy).tsc.power = .sleep
      ∧ (runRow .sleep (station .online)).lif.startDetector = true := by decide

/-- A sleeping member on an idle bus, its start detector armed, the oscillator stopped. -/
def sleepingMember : State := runRow .oscillatorStop (runRow .sleep (station .online))

theorem test_sleeping_member :
    sleepingMember.tsc.power = .sleep ∧ sleepingMember.tsc.waking = false ∧ sleepingMember.tsc.inReset = false
      ∧ sleepingMember.tsc.oscillator = false ∧ sleepingMember.lif.startDetector = true
      ∧ sleepingMember.mbr.membership ≠ .offline ∧ sleepingMember.lif.link = .idle := by decide
theorem test_wake :
    (runRow .wake sleepingMember).tsc.waking = true ∧ (runRow .wake (runRow .sleep State.reset)).tsc.power = .active
      ∧ (runRow .oscillatorRuns (runRow .wake sleepingMember)).tsc.power = .active := by decide
theorem test_wake_cases :
    PortAsleep .wake sleepingMember ∧ PortAsleep .wake (sleeping State.reset)
      ∧ (sleeping State.reset).tsc.oscillator = true ∧ (runRow .wake sleepingMember).tsc.waking = true
      ∧ (runRow .wake sleepingMember).tsc.power = .sleep :=
  ⟨portOpen_free _ _ _ (by decide) (by decide), test_port_asleep .wake, by decide, by decide, by decide⟩
theorem test_wake_in_a_transfer_begun_asleep :
    let t := runRow (.transferStart .low) (sleeping State.reset)
    let s := t.setTsc { t.tsc with power := .active }
    PortAsleep .wake s ∧ s.tsc.power = .active := ⟨portOpen_of _ rfl (sound_of (by decide)) (by decide), rfl⟩

/-- A sleeping station whose input 0 has its debounce timer held at 5. -/
def heldInput : State :=
  let s := sleeping (withInput State.reset .rising .off 0#8 .high .low true)
  s.setInput 0 { s.input 0 with timer := some 5 }

theorem test_held_debounce_starts_from_zero :
    (heldInput.input 0).timer = some 5 ∧ ((runRow .wake heldInput).input 0).timer = some 0
      ∧ ((runRow .wake heldInput).input 1).timer = none := by decide

/-- A sleeping station whose input 0 can wake it. -/
def sleepingInput : State := runRow .sleep (withInput State.reset .rising .off 0#8 .low .low true)

theorem test_wake_input_case : (sleepingInput.input 0).wakeArmed = true ∧ (sleepingInput.input 1).wakeArmed = false := by decide
theorem test_wake_input :
    (runRow (.wakeInputEdge 0) sleepingInput).tsc.power = .active
      ∧ (runRow (.inputChange 1 .high) sleepingInput).tsc.power = .sleep
      ∧ (runRow (.inputChange 0 .high) sleepingInput).tsc.power = .active
      ∧ (runRow (.inputChange 0 .high) (runRow .oscillatorStop sleepingInput)).tsc.waking = true := by decide
theorem test_detector_sees_a_start :
    (after (step (sleepingMember.setBus { stb := .high, dat := .low, feed := [] }))).pending = [.asyncStart]
      ∧ (after (step (sleepingMember.setBus { stb := .low, dat := .low, feed := [] }))).pending = []
      ∧ (after (step (resetting (sleepingMember.setBus { stb := .high, dat := .low, feed := [] })))).pending = [] := by decide
theorem test_async_start :
    (runRow .asyncStart sleepingMember).lif.stretch = true ∧ (runRow .asyncStart sleepingMember).tsc.waking = true := by decide

/-! ### Timers and pins -/

theorem test_timer_cases :
    (withSlot .online .waiting false).Running ∧ Member (withSlot .online .waiting false)
      ∧ (withSlot .online .waiting false).cfg.rollPeriod ≠ 0#8
      ∧ ((withSlot .online .waiting false).slot 3).cfg.timeout ≠ 0#16
      ∧ ((withSlot .online .waiting false).slot 3).cfg.policy = .halt := by decide
theorem test_roll_timer : hasEntry (runRow .rollTimerExpiry (station .online)).rnd.requests .roll 0 = true := by decide
theorem test_timeout :
    (runRow (.timeout 3) (withSlot .online .waiting false)).hlt.request = some 0x8003#16
      ∧ ((runRow (.timeout 3) (withSlot .online .waiting true)).slot 3).timeoutPending = true := by decide
theorem test_input_change :
    ((runRow (.inputChange 0 .high) State.reset).input 0).timer = some 0
      ∧ ((runRow (.inputChange 0 .low) (runRow (.inputChange 0 .high) State.reset)).input 0).timer = none := by decide
theorem test_input_accepted_case :
    (State.reset.input 0).pin = .low
      ∧ ((withInput State.reset .rising .off 0#8 .high .low true).input 0).pin
          ≠ ((withInput State.reset .rising .off 0#8 .high .low true).input 0).filtered
      ∧ ((withInput State.reset .rising .off 0#8 .low .high true).input 0).pin
          ≠ ((withInput State.reset .rising .off 0#8 .low .high true).inputCfg 0).detection.active := by decide
theorem test_input_acceptance_times :
    let held (n : Nat) : State :=
      let s := withInput State.reset .rising .off 0#8 .high .low true
      s.setInput 0 { s.input 0 with timer := some n }
    let debounced (n : Nat) : State :=
      let s := held n
      s.setPin { s.pin with cfg := { s.pin.cfg with inputs := s.pin.cfg.inputs.set 0 { s.inputCfg 0 with debounce := true } } }
    (after (step (held 0))).pending = [] ∧ (after (step (held 1))).pending = [.inputAccepted 0]
      ∧ (after (step (debounced 510))).pending = [] ∧ (after (step (debounced 511))).pending = [.inputAccepted 0] := by decide
theorem test_level_input_arrives :
    let s := withInput (withSlot .online .ready false) .high .arrive 3#8 .high .low true
    s.arrivalTest 3 = .ok ∧ ((runRow (.inputAccepted 0) s).slot 3).state = .waiting := by decide
theorem test_level_input_refused :
    let s := withInput (withSlot .online .fault false) .high .arrive 3#8 .high .low true
    s.arrivalTest 3 ≠ .ok ∧ ((runRow (.inputAccepted 0) s).input 0).armed = false := by decide
theorem test_level_input_disarmed :
    let s := withInput (withSlot .online .ready false) .high .arrive 3#8 .high .low false
    (s.input 0).armed = false ∧ ((runRow (.inputAccepted 0) s).slot 3).state = .ready := by decide
theorem test_edge_input_arrives :
    let s := withInput (withSlot .online .ready false) .falling .arrive 3#8 .low .high true
    (s.inputCfg 0).detection.isEdge (s.input 0).pin = true ∧ ((runRow (.inputAccepted 0) s).slot 3).state = .waiting := by
  decide
theorem test_edge_input_refused :
    let s := withInput (station .online) .rising .arrive 31#8 .high .low true
    (s.inputCfg 0).detection.isEdge (s.input 0).pin = true ∧ s.arrivalTest 31 ≠ .ok := by decide
theorem test_changes_that_ask_for_nothing :
    let arrive := withInput (withSlot .online .ready false) .rising .arrive 3#8 .low .high true
    let set := withInput (station .online) .low .flagSet 31#8 .high .low true
    let edgeHalt := withInput haltedStation .both .halt 0#8 .low .high true
    (arrive.inputCfg 0).detection.isEdge (arrive.input 0).pin = false
      ∧ (set.inputCfg 0).detection.isLevel = true ∧ (set.input 0).pin ≠ (set.inputCfg 0).detection.active
      ∧ (edgeHalt.inputCfg 0).detection.isEdge (edgeHalt.input 0).pin = true ∧ edgeHalt.hlt.condition = .halted
      ∧ ((runRow (.inputAccepted 0) arrive).slot 3).state = .ready ∧ (runRow (.inputAccepted 0) set).flg = set.flg
      ∧ (runRow (.inputAccepted 0) edgeHalt).hlt = edgeHalt.hlt := by decide
theorem test_flag_inputs :
    let s := withInput (station .online) .rising .flagSet 31#8 .high .low true
    let c := withInput (station .online) .low .flagClear 31#8 .low .high true
    (s.inputCfg 0).asks (s.input 0).pin = true ∧ (c.inputCfg 0).asks (c.input 0).pin = true
      ∧ (runRow (.inputAccepted 0) s).flg.setReq = 0x80000000#32
      ∧ (runRow (.inputAccepted 0) c).flg.clearReq = 0x80000000#32 := by decide
theorem test_follow_input :
    (runRow (.inputAccepted 0) (withInput (station .online) .high .flagFollow 2#8 .high .low true)).flg.setReq = 4#32
      ∧ (runRow (.inputAccepted 0) (withInput (station .online) .high .flagFollow 2#8 .low .high true)).flg.clearReq = 4#32
      ∧ (runRow (.inputAccepted 0) (withInput (station .leaving) .high .flagFollow 2#8 .low .high true)).flg.clearReq = 0#32 := by
  decide
theorem test_halt_inputs :
    (runRow (.inputAccepted 0) (withInput (station .online) .high .halt 0#8 .high .low true)).hlt.inputHold = 1#4
      ∧ (runRow (.inputAccepted 0) (withInput (station .joining) .high .halt 0#8 .high .low true)).hlt.inputHold = 0#4
      ∧ (runRow (.inputAccepted 0) (withInput (station .online) .high .halt 0#8 .low .high true)).hlt.inputHold = 0#4
      ∧ (runRow (.inputAccepted 0) (withInput (station .online) .rising .halt 0#8 .high .low true)).hlt.request
          = some 0x8100#16 := by decide
theorem test_halt_inputs_meet_a_request :
    let asks (d : Detection) (cause : Half) : State := withInput (runRow (.halt cause) (station .online)) d .halt 0#8 .high .low true
    (asks .rising 5#16).hlt.request = some 5#16 ∧ (runRow (.inputAccepted 0) (asks .rising 5#16)).hlt.request = some 5#16
      ∧ (runRow (.inputAccepted 0) (asks .high 5#16)).hlt.inputHold = 1#4
      ∧ (runRow (.inputAccepted 0) (withInput haltedStation .high .halt 0#8 .high .low true)).hlt
          = { Hlt.clear .halted with inputHold := 1#4 } := by decide

/-- A pulse runs at output 0. -/
def pulsing : State := (withOutput (station .online) .pulse).setOutput 0 { active := true, pulse := some 3 }

theorem test_pulse_end :
    (pulsing.output 0).pulse ≠ none ∧ (runRow (.pulseEnd 0) pulsing).output 0 = { active := false, pulse := none } := by decide
theorem test_pulse_ticks :
    let s := pulsing.setOutput 0 { active := true, pulse := some 158 }
    pulsing.pending = [] ∧ pulsing.Running ∧ (after (step s)).pending = []
      ∧ (after (step (after (step s)))).pending = [.pulseEnd 0]
      ∧ (withOutput (station .online) .toggle).outputActive 0 = false ∧ pulsing.outputActive 0 = true := by decide
theorem test_output_modes :
    (withOutput (withSlot .online .waiting false) .waitLevel).outputActive 0 = true
      ∧ (withOutput (station .online) .flag).outputActive 0 = false
      ∧ (withOutput haltedStation .halted).outputActive 0 = true
      ∧ (withOutput (station .online) .online).outputPin 0 = .high ∧ (station .online).tsc.inReset = false := by decide

/-! ### The lines -/

/-- A member that asks for a ROLL round. -/
def asking : State := (station .online).place .roll 0

theorem test_start_issued :
    asking.rnd.requests ≠ [] ∧ asking.cfg.tIdle.toNat ≤ asking.lif.idleTimer ∧ asking.lif.datDrive = .released
      ∧ (runRow .startIssued asking).lif.datDrive = .low := by decide
theorem test_round_start :
    (runRow .roundStart asking).lif.link = .round ∧ (runRow .roundStart asking).lif.tHigh = some 2 := by decide
theorem test_unframed_activity : (runRow .unframedActivity (station .online)).lif.link = .seeking := by decide

/-- A member in CLOSING; `low` in its low phase, STB released. -/
def closing (low : Bool) : State := (station .online).setLif { (station .online).lif with link := .closing, begun := low }

theorem test_closing_cases :
    (closing false).lif.link = .closing ∧ (closing false).lif.begun = false ∧ (closing true).lif.begun = true
      ∧ (closing true).lif.stbDrive = .released := by decide
theorem test_dat_fall_in_closing : (runRow .datFallInClosing (closing false)).lif.link = .seeking := by decide
theorem test_closing_end :
    (runRow (.closingEnd .high) (closing true)).lif.link = .idle ∧ (runRow (.closingEnd .low) (closing true)).lif.link = .seeking := by
  decide

/-- An ARRIVE round on slot 3 that station 1 has arrived at with value 9, `k` positions sampled. -/
def arriveRound (s : State) (k : Nat) : State := inRound s k (samplesOf 99 15 2#32 0#32 9)

/-- The same station before the low phase of its position. -/
def highPhase (s : State) : State := s.setLif { s.lif with begun := false, stb := .high }

theorem test_round_names :
    (roundOf (arriveRound (station .online) 44)).named = some (.arrive, 3)
      ∧ (roundOf (arriveRound (station .online) 7)).named = none
      ∧ (roundOf (inRound (station .online) 12 (samplesOf 128 15 0#32 0#32 0))).named = some (.flags, 0)
      ∧ (roundOf (inRound (station .online) 12 (samplesOf 0 15 0#32 0#32 0))).named = some (.halt, 0)
      ∧ (roundOf (inRound (station .online) 44 (samplesOf 32 15 0#32 0#32 0))).named = some (.resume, 0)
      ∧ (roundOf (inRound (station .online) 8 (samplesOf 1 15 0#32 0#32 0))).named = none := by decide
theorem test_framing_violation :
    (runRow .framingViolation (arriveRound (station .online) 50)).rnd.round = none
      ∧ (runRow .framingViolation (arriveRound (station .online) 50)).log.records.map (fun r => (r.tag, r.value))
          = [(3#8, 50#16)] := by decide
theorem test_framing_idle_start :
    (runRow .framingViolation (highPhase (arriveRound (station .online) 50))).lif.idleTimer = 2
      ∧ (runRow .framingViolation (arriveRound (station .online) 50)).lif.idleTimer = 0 := by decide

/-- The same station as tHIGH reaches its 16 ticks at the next tick. -/
def pulling : State :=
  let s := highPhase (arriveRound (withSlot .online .waiting false) 12)
  s.setLif { s.lif with tHigh := some 15 }

theorem test_own_pull :
    pulling.pending = [] ∧ pulling.Running ∧ pulling.lif.begun = false ∧ pulling.lif.stbDrive = .released
      ∧ (after (step pulling)).lif.stbDrive = .low ∧ (after (step pulling)).lif.tLow = some 0
      ∧ (after (step pulling)).lif.datDrive = .released ∧ (after (step pulling)).pending = []
      ∧ (after (step (after (step (after (step pulling)))))).pending = [.positionBegins]
      ∧ (runRow .positionBegins (after (step (after (step (after (step pulling))))))).lif.tLow = some 2
      ∧ (runRow .positionBegins (highPhase (arriveRound (station .online) 12))).lif.tLow = some 2 := by decide
theorem test_own_pull_case : PullsStb pulling (after (step pulling)) :=
  ⟨by decide, by decide, by decide, by decide, by decide, 15, by decide, by decide⟩
theorem test_position_begins :
    (runRow .positionBegins (highPhase (arriveRound (withSlot .online .waiting false) 12))).lif.datDrive = .low
      ∧ (runRow .positionBegins (closing false)).lif.stbDrive = .low := by decide
theorem test_latches :
    ((runRow .positionBegins (highPhase (arriveRound (withSlot .online .waiting false) 12))).slot 3).committed = true
      ∧ (roundOf (runRow .positionBegins (highPhase (arriveRound (withSlot .online .ready false) 44)))).required = some 3#32 := by
  decide
theorem test_drives :
    (roundOf (runRow .positionBegins (highPhase (inRound asking 0 [])))).field = .contend 8 160
      ∧ (runRow .positionBegins (highPhase (inRound asking 0 []))).lif.datDrive = .released
      ∧ (roundOf (runRow .positionBegins (highPhase (arriveRound (withSlot .online .waiting false) 76)))).field = .recessive
      ∧ (roundOf (runRow .positionBegins (highPhase (arriveRound (withSlot .online .waiting true) 76)))).field = .contend 16 9
      ∧ (roundOf (runRow .positionBegins (highPhase (arriveRound (withSlot .online .ready false) 44)))).field
          = .claim (~~~3#32)
      ∧ (roundOf (runRow .positionBegins (highPhase (inRound (station .online) 8 (samplesOf 66 15 3#32 0#32 9))))).field
          = .value 4 15
      ∧ (roundOf (runRow .positionBegins (highPhase (inRound (station .joining) 76 (samplesOf 64 15 2#32 0#32 9))))).field
          = .contend 16 7
      ∧ (roundOf (runRow .positionBegins (highPhase (inRound (station .leaving) 12 (samplesOf 160 15 3#32 0#32 0))))).leavingAtSeta
          = true
      ∧ (roundOf (runRow .positionBegins (highPhase (editRound (arriveRound (station .online) 100)
          fun r => { r with dissent := { r.dissent with cls := true } })))).driveNow = .low := by decide
theorem test_drive_cases :
    (roundOf (inRound (station .online) 76 (samplesOf 0 15 2#32 0#32 9))).named = some (.halt, 0)
      ∧ (roundOf (inRound (station .online) 12 (samplesOf 160 15 3#32 0#32 0))).named = some (.roll, 0)
      ∧ (roundOf (inRound (station .joining) 76 (samplesOf 64 15 2#32 0#32 9))).named = some (.join, 0)
      ∧ (station .joining).mbr.nonce = some 7#16 ∧ (roundOf (arriveRound (station .online) 44)).required = none
      ∧ ¬Member (station .joining) := by decide

/-- A station that contends in TAG with epoch 15 and has one position of it left. -/
def contending : State := editRound (arriveRound (station .online) 11) fun r => { r with field := .contend 4 15 }

theorem test_skew_and_exclusion :
    (roundOf contending).named = some (.arrive, 3) ∧ (roundOf contending).samples.length = 11
      ∧ (roundOf (runRow (.positionSampled .low) contending)).lost = true
      ∧ (roundOf (runRow (.positionSampled .low) contending)).dissent.skew = true
      ∧ (roundOf (runRow (.positionSampled .high) contending)).dissent.skew = false
      ∧ (roundOf (runRow (.positionSampled .low)
          (editRound (inRound (station .online) 75 (samplesOf 99 15 2#32 1#32 9)) fun r => { r with required := some 3#32 }))).dissent.exclusion
          = true
      ∧ (roundOf (runRow (.positionSampled .low) (arriveRound (station .online) 75))).dissent.exclusion = false := by decide
theorem test_position_sampled :
    (roundOf (runRow (.positionSampled .low) (arriveRound (station .online) 99))).samples.length = 100
      ∧ (roundOf (runRow (.positionSampled .low) (arriveRound (station .online) 7))).dissent.cls = false
      ∧ (roundOf (runRow (.positionSampled .high) (inRound (station .online) 7 (samplesOf 0 0 0#32 0#32 0)))).dissent.cls = true := by
  decide
theorem test_sampling_cases :
    (arriveRound (station .online) 99).lif.begun = true ∧ (arriveRound (station .online) 99).lif.stbDrive = .released
      ∧ (roundOf (arriveRound (station .online) 99)).samples.length < 100
      ∧ (roundOf (arriveRound (station .online) 91)).samples.length < 92 := by decide
theorem test_check_of_a_zero_and_a_one : checkStep 0xFF#8 .low = 0xF9#8 ∧ checkStep 0xFF#8 .high = 0xFE#8 := by decide
theorem test_tlow_expired :
    let s := (arriveRound (station .online) 20).setLif { (arriveRound (station .online) 20).lif with stbDrive := .low }
    s.lif.begun = true ∧ (runRow .tlowExpired s).lif.stbDrive = .released := by decide

/-- An OFFLINE station in FAULT. -/
def faulted : State := State.reset.setLif { State.reset.lif with link := .fault }

theorem test_bus_idle :
    (runRow .busIdle faulted).lif.link = .detached ∧ (runRow .busIdle (runRow .join State.reset)).lif.link = .idle := by decide
theorem test_line_stuck :
    (runRow (.lineStuck .both) (station .online)).lif.link = .fault
      ∧ (runRow (.lineStuck .both) (station .online)).mbr.membership = .offline
      ∧ (station .online).lif.stbExempt = false ∧ (station .online).lif.datExempt = false := by decide

/-- A station whose bus-reset detector is armed, both lines low for 5 ms. -/
def armed (m : Membership) : State :=
  (station m).setLif { (station m).lif with link := .seeking, armed := true, stb := .low, dat := .low, stbStuck := 80000, datStuck := 80000 }

theorem test_bus_reset_cases :
    (runRow .busReset (station .online)).lif.link = .resetting ∧ (station .online).lif.armed = false
      ∧ (station .online).lif.link ≠ .detached ∧ (armed .online).lif.armed = true ∧ faulted.lif.armed = false := by decide
/-- An OFFLINE station in FAULT that sends a pulse while both lines stand at tSTUCK. -/
def pulsingInFault : State :=
  runRow .busReset (faulted.setLif { faulted.lif with stb := .low, dat := .low, stbStuck := 256000, datStuck := 256000 })

theorem test_exemption_ends_with_the_pulse :
    pulsingInFault.lif.link = .resetting ∧ pulsingInFault.lif.stbExempt = true ∧ pulsingInFault.lif.datExempt = true
      ∧ (runRow (.lineStuck .both) pulsingInFault).lif.link = .resetting
      ∧ (runRow .busResetPulseEnd pulsingInFault).lif.stbExempt = false
      ∧ (runRow .busResetPulseEnd pulsingInFault).lif.datExempt = false
      ∧ (runRow .join (runRow .busResetPulseEnd pulsingInFault)).lif.link = .fault := by decide
theorem test_bus_reset_pulse_end :
    (runRow .busResetPulseEnd (runRow .busReset (station .online))).lif.link = .seeking
      ∧ (runRow .busResetPulseEnd (runRow .busReset State.reset)).lif.link = .detached := by decide
theorem test_bus_reset_armed :
    (runRow .busResetArmed (station .online)).lif.link = .seeking ∧ (runRow .busResetArmed faulted).lif.link = .fault := by decide
theorem test_bus_reset_disarmed : (runRow (.busResetDetectorDisarmed .stb) (armed .online)).lif.armed = false := by decide
theorem test_recognises :
    Recognises (armed .offline) ∧ Recognises (armed .joining) ∧ Recognises (armed .online) ∧ Recognises (armed .leaving) :=
  ⟨by unfold Recognises; decide, by unfold Recognises; decide, by unfold Recognises; decide, by unfold Recognises; decide⟩
theorem test_bus_reset_recognised :
    (runRow .busResetRecognised (armed .online)).mbr.roster = 1#32
      ∧ (runRow .busResetRecognised (armed .leaving)).mbr.membership = .offline
      ∧ (runRow .busResetRecognised (armed .joining)).mbr.membership = .joining
      ∧ (runRow .busResetRecognised (armed .offline)).log.records.map (fun r => r.kind) = [.busReset] := by decide

/-! ### Round ends -/

/-- A station at the end of a round of the given identity, TAG, sets and value. -/
def atEnd (s : State) (identity tag : Nat) (a b : Set32) (v : Nat) : State := inRound s 100 (samplesOf identity tag a b v)

/-- The round that a state holds is accepted by it. -/
theorem accepts_of (s : State) (c : Machine.Class) (n : Fin 32)
    (h : s.Running ∧ s.lif.link = .round ∧ s.lif.begun = true ∧ s.lif.stbDrive = .released
      ∧ s.rnd.round = some (roundOf s) ∧ (roundOf s).samples.length = 100 ∧ (roundOf s).named = some (c, n)
      ∧ (roundOf s).dissent.any = false) : Accepts s (roundOf s) c n :=
  ⟨⟨h.1, h.2.1, h.2.2.1, h.2.2.2.1, h.2.2.2.2.1, h.2.2.2.2.2.1⟩, h.2.2.2.2.2.2.1, h.2.2.2.2.2.2.2⟩

theorem test_accepts_halt :
    Accepts (atEnd (station .online) 0 15 2#32 0#32 9) (roundOf (atEnd (station .online) 0 15 2#32 0#32 9)) .halt 0 :=
  accepts_of _ _ _ (by decide)
theorem test_accepts_resume :
    Accepts (atEnd haltedStation 32 15 2#32 0#32 0) (roundOf (atEnd haltedStation 32 15 2#32 0#32 0)) .resume 0 :=
  accepts_of _ _ _ (by decide)
theorem test_accepts_join :
    Accepts (atEnd (station .online) 66 15 3#32 0#32 9) (roundOf (atEnd (station .online) 66 15 3#32 0#32 9)) .join 2
      ∧ Accepts (atEnd (station .joining) 64 15 2#32 0#32 7) (roundOf (atEnd (station .joining) 64 15 2#32 0#32 7)) .join 0
      ∧ Accepts (atEnd (station .joining) 95 15 2#32 0#32 7) (roundOf (atEnd (station .joining) 95 15 2#32 0#32 7)) .join 31 :=
  ⟨accepts_of _ _ _ (by decide), accepts_of _ _ _ (by decide), accepts_of _ _ _ (by decide)⟩
theorem test_accepts_flags :
    Accepts (atEnd (station .online) 128 15 4#32 1#32 0) (roundOf (atEnd (station .online) 128 15 4#32 1#32 0)) .flags 0 :=
  accepts_of _ _ _ (by decide)
theorem test_accepts_roll :
    Accepts (atEnd (station .online) 160 15 1#32 0#32 0) (roundOf (atEnd (station .online) 160 15 1#32 0#32 0)) .roll 0 :=
  accepts_of _ _ _ (by decide)

/-- The end of an ARRIVE round on slot 3 with value 9, its required set taken at SETB. -/
def arriveEnd (s : State) (a : Set32) (required : Option Set32) : State :=
  editRound (atEnd s 99 15 a 0#32 9) fun r => { r with required := required }

theorem test_completion_case :
    let s := arriveEnd (withSlot .online .waiting true) 3#32 (some 3#32)
    Accepts s (roundOf s) .arrive 3 ∧ (roundOf s).required = some 3#32 ∧ (3#32 : Set32) ≠ 0#32
      ∧ 3#32 &&& (roundOf s).setA = 3#32 ∧ (s.slot 3).committed = true ∧ (s.slot 3).withdrawPending = false
      ∧ ∀ a, (s.slot 3).arrival = some a → a.source = .command :=
  ⟨accepts_of _ _ _ (by decide), by decide, by decide, by decide, by decide, by decide,
    fun a h => by
      have : a = { value := 9#16, source := .command, time := 1#32 } := by
        have h' := h
        simp only [show ((arriveEnd (withSlot .online .waiting true) 3#32 (some 3#32)).slot 3).arrival
          = some { value := 9#16, source := .command, time := 1#32 } by decide, Option.some.injEq] at h'
        exact h'.symm
      rw [this]⟩

/-- The arrival of slot 3 came from input 0, level-armed and still active; `pending` while a withdrawal is. -/
def levelArrived (pending : Bool) : State :=
  let s := withInput (withSlot .online .waiting true) .high .arrive 3#8 .high .high true
  let x := slotIn .waiting true (.input 0)
  arriveEnd (s.setSlot 3 { x with withdrawPending := pending }) 3#32 (some 3#32)

theorem test_level_input_attempts_again :
    SourceBound 3 (levelArrived false) ∧ (levelArrived false).MayArrive 3
      ∧ (levelArrived false).LevelArmed 0 ∧ (levelArrived false).InputActive 0 ∧ ((levelArrived false).input 0).armed = true
      ∧ ((runRow .arriveRound (levelArrived false)).slot 3).state = .waiting
      ∧ ((runRow .arriveRound (levelArrived false)).slot 3).arrivalValue = 5#16
      ∧ ((runRow .arriveRound (levelArrived false)).slot 3).committed = false
      ∧ ((runRow .arriveRound (levelArrived false)).input 0).armed = true :=
  ⟨fun a k ha hs => (by
      rw [show ((levelArrived false).slot 3).arrival = some { value := 9#16, source := .input 0, time := 1#32 } by decide,
        Option.some.injEq] at ha
      rw [← ha] at hs
      cases hs
      decide), by unfold State.MayArrive; decide, by decide, by decide, by decide, by decide, by decide, by decide, by decide⟩
theorem test_level_input_refused_again :
    let s := (levelArrived false).setMbr { (levelArrived false).mbr with membership := .leaving }
    ¬s.MayArrive 3 ∧ ((runRow .arriveRound s).slot 3).state = .ready ∧ ((runRow .arriveRound s).input 0).armed = false := by
  unfold State.MayArrive; decide
/-- The round end of a completing round falls in the tick in which the slot's timeout and a pulse end. -/
def crowdedTick : State :=
  let s := withOutput (arriveEnd (withSlot .online .waiting true) 3#32 (some 3#32)) .pulse
  let s := s.setOutput 0 { active := true, pulse := some 159 }
  let s := s.setSlot 3 { s.slot 3 with timer := 4999 }
  let s := s.setTsc { s.tsc with subTicks := 15 }
  s.setLif { s.lif with stbFilter := 1 }

theorem test_expiries_come_before_the_round_end :
    let t := after (step crowdedTick)
    let u := after (step (after (step (after (step t)))))
    t.pending = [.timeout 3, .pulseEnd 0, .arriveRound] ∧ (u.slot 3).state = .ready
      ∧ u.output 0 = { active := true, pulse := some 0 } ∧ u.log.records.map (fun r => r.kind) = [.complete] := by decide
theorem test_too_late :
    (runRow .arriveRound (levelArrived true)).log.records.map (fun r => (r.kind, r.value))
      = [(.complete, 9#16), (.tooLate, 9#16)] := by decide
theorem test_source_bound_command : SourceBound 3 (arriveEnd (withSlot .online .waiting true) 3#32 (some 3#32)) :=
  fun a k ha hs => (by
    rw [show ((arriveEnd (withSlot .online .waiting true) 3#32 (some 3#32)).slot 3).arrival
      = some { value := 9#16, source := .command, time := 1#32 } by decide, Option.some.injEq] at ha
    rw [← ha] at hs
    cases hs)

/-- A committed arrival of slot 3 with a withdrawal or a timeout pending. -/
def pendingSlot (withdraw timeout : Bool) : State :=
  (withSlot .online .waiting true).setSlot 3
    { slotIn .waiting true .command with withdrawPending := withdraw, timeoutPending := timeout }

theorem test_progress_resolves_the_pending :
    let s := arriveEnd (pendingSlot true true) 1#32 (some 3#32)
    let t := arriveEnd (pendingSlot false true) 1#32 (some 3#32)
    Accepts s (roundOf s) .arrive 3 ∧ (s.slot 3).withdrawPending = true ∧ (t.slot 3).timeoutPending = true
      ∧ (runRow .arriveRound s).log.records.map (fun r => r.kind) = [.withdrawn]
      ∧ (runRow .arriveRound t).log.records.map (fun r => r.kind) = [.timeout]
      ∧ (runRow .arriveRound t).hlt.request = some 0x8003#16 :=
  ⟨accepts_of _ _ _ (by decide), by decide, by decide, by decide, by decide, by decide⟩
theorem test_progress_cases :
    let s := arriveEnd (withSlot .online .waiting true) 1#32 (some 3#32)
    Accepts s (roundOf s) .arrive 3 ∧ (roundOf s).required = some 3#32 ∧ ¬(3#32 &&& (roundOf s).setA = 3#32)
      ∧ (s.slot 3).withdrawPending = false ∧ (s.slot 3).timeoutPending = false
      ∧ (roundOf s).setA.getLsbD s.mbr.number.val = true :=
  ⟨accepts_of _ _ _ (by decide), by decide, by decide, by decide, by decide, by decide⟩
theorem test_progress_of_no_participant :
    let s := arriveEnd (station .online) 2#32 none
    Accepts s (roundOf s) .arrive 3 ∧ (roundOf s).required = none :=
  ⟨accepts_of _ _ _ (by decide), by decide⟩
theorem test_unpublished_case :
    let s := arriveEnd (withSlot .online .waiting false) 2#32 (some 3#32)
    (s.slot 3).published = false ∧ (roundOf s).setA.getLsbD s.mbr.number.val = false := by decide

theorem test_halt_round :
    (runRow .haltRound (atEnd (withSlot .online .waiting true) 0 15 2#32 0#32 9)).hlt.condition = .halted
      ∧ ((runRow .haltRound (atEnd (withSlot .online .waiting true) 0 15 2#32 0#32 9)).slot 3).state = .ready := by decide
theorem test_resume_round :
    (runRow .resumeRound (atEnd haltedStation 32 15 2#32 0#32 0)).hlt.condition = .running
      ∧ (runRow .resumeRound (atEnd haltedStation 32 15 2#32 1#32 0)).hlt.condition = .halted := by decide

/-- A HALTED station whose command hold was set since SETB began, with a held cause. -/
def newlyHeld : State := (station .online).setHlt { Hlt.clear .halted with commandHold := true, heldCause := some 5#16 }

theorem test_resume_renews :
    newlyHeld.hlt.heldCause = some 5#16 ∧ newlyHeld.hlt.inputHold = 0#4 ∧ newlyHeld.hlt.request = none
      ∧ (runRow .resumeRound (atEnd newlyHeld 32 15 2#32 0#32 0)).hlt.request = some 5#16 := by decide
theorem test_level_hold_renews :
    let s := (station .online).setHlt { Hlt.clear .halted with inputHold := 4#4 }
    s.hlt.inputHold.getLsbD 2 = true
      ∧ (runRow .resumeRound (atEnd s 32 15 2#32 0#32 0)).hlt.request = some 0x8102#16 := by decide
theorem test_empty_requester_sets :
    (roundOf (atEnd (station .online) 0 15 0#32 0#32 0)).setA = 0#32
      ∧ (runRow .haltRound (atEnd (runRow (.halt 5#16) (station .online)) 0 15 0#32 0#32 0)).rnd.requests
          = [{ cls := .halt, sel := 0, voids := 0 }]
      ∧ (runRow .resumeRound (atEnd haltedStation 32 15 0#32 0#32 0)).hlt.condition = .halted := by decide
theorem test_join_round :
    (runRow .joinRound (atEnd (station .joining) 64 15 2#32 0#32 7)).mbr.roster = 3#32
      ∧ (runRow .joinRound (atEnd (station .joining) 64 15 3#32 0#32 7)).mbr.membership = .offline
      ∧ (runRow .joinRound (atEnd (station .joining) 64 15 2#32 0#32 6)).mbr.membership = .offline
      ∧ (runRow .joinRound (atEnd (station .online) 66 15 3#32 0#32 9)).mbr.roster = 7#32 := by decide
theorem test_arrive_round :
    ((runRow .arriveRound (arriveEnd (withSlot .online .waiting true) 3#32 (some 3#32))).slot 3).result
        = some { epoch := 15#4, arrived := 3#32, agreed := 9#16, time := 0#32 }
      ∧ ((runRow .arriveRound (arriveEnd (withSlot .online .waiting true) 1#32 (some 3#32))).slot 3).published = true := by decide
theorem test_pulse_on_completion :
    ((runRow .arriveRound (withOutput (arriveEnd (withSlot .online .waiting true) 3#32 (some 3#32)) .pulse)).output 0).pulse = some 0
      ∧ ((runRow .arriveRound (withOutput (arriveEnd (withSlot .online .waiting true) 3#32 (some 3#32)) .toggle)).output 0).active
          = true := by decide
theorem test_flags_round :
    (runRow .flagsRound (atEnd (station .online) 128 15 4#32 1#32 0)).flg.word = 4#32
      ∧ (runRow .flagsRound (atEnd (station .joining) 128 15 4#32 1#32 0)).flg.word = 0#32 := by decide
theorem test_roll_round :
    (runRow .rollRound (atEnd (station .online) 160 15 1#32 0#32 0)).mbr.roster = 1#32
      ∧ (runRow .rollRound (editRound (atEnd (station .leaving) 160 15 1#32 0#32 0)
          fun r => { r with leavingAtSeta := true })).mbr.membership = .offline := by decide
theorem test_roll_cases :
    (station .leaving).mbr.membership = .leaving ∧ (Round.fresh).leavingAtSeta = false
      ∧ (roundOf (atEnd (station .online) 160 15 1#32 0#32 0)).tag.getLsbD 3 = true
      ∧ (roundOf (atEnd (station .online) 160 7 1#32 0#32 0)).tag.getLsbD 3 = false := by decide

/-- A member whose ROSTER slot 3 waits and has last seen station 0 alone, with no entry of its own. -/
def probing : State :=
  let x := slotIn .waiting false .command
  (station .online).setSlot 3 { x with cfg := { x.cfg with participation := .roster }, lastSeen := 1#32, published := true }

theorem test_roll_probes :
    let s := atEnd probing 160 15 1#32 0#32 0
    (roundOf s).setA ≠ s.mbr.roster ∧ (roundOf s).setA ≠ 0#32 ∧ (s.slot 3).state = .waiting
      ∧ (roundOf s).setA &&& ~~~(s.slot 3).lastSeen = 0#32
      ∧ hasEntry (runRow .rollRound s).rnd.requests .arrive 3 = true ∧ ((runRow .rollRound s).slot 3).probe = true := by decide

/-! ### Void rounds -/

/-- A member that holds an entry with the given void count, at the end of a round of its identity. -/
def voidable (m : Membership) (c : Machine.Class) (n : Fin 32) (voids : Nat) : State :=
  let s := withSlot m .waiting true
  atEnd (s.setRnd { s.rnd with requests := [{ cls := c, sel := n, voids := voids }] }) (identityOf c n) 15 2#32 0#32 9

theorem test_at_round_end (m : Membership) (c : Machine.Class) (n : Fin 32) (voids : Nat) :
    AtRoundEnd (voidable m c n voids) (roundOf (voidable m c n voids)) := by
  refine ⟨⟨?_, ?_⟩, ?_, ?_, ?_, ?_, ?_⟩ <;> cases m <;> cases c <;> rfl
theorem test_void_cases :
    (roundOf (voidable .online .roll 0 1)).named = some (.roll, 0)
      ∧ findEntry (voidable .online .roll 0 1).rnd.requests .roll 0 = some { cls := .roll, sel := 0, voids := 1 }
      ∧ (voidable .online .roll 0 1).retryLimit .roll 0 = 2 ∧ findEntry (voidable .online .halt 0 1).rnd.requests .roll 0 = none
      ∧ (roundOf (atEnd (station .online) 1 15 0#32 0#32 0)).named = none := by decide
theorem test_void_round :
    (runRow (.voidRound .low) (voidable .online .roll 0 1)).rnd.requests = [{ cls := .roll, sel := 0, voids := 2 }]
      ∧ (runRow (.voidRound .low) (voidable .leaving .roll 0 2)).mbr.membership = .offline := by decide
theorem test_void_of_a_committed_arrival :
    let s := atEnd (withSlot .online .waiting true) 99 15 2#32 0#32 9
    let s := s.setSlot 3 { s.slot 3 with cfg := { (s.slot 3).cfg with retry := 2 } }
    let p := s.setSlot 3 { s.slot 3 with timeoutPending := true }
    (roundOf s).named = some (.arrive, 3) ∧ (s.slot 3).committed = true ∧ s.retryLimit .arrive 3 = 2
      ∧ ((runRow (.voidRound .low) s).slot 3).committed = false
      ∧ findEntry (runRow (.voidRound .low) s).rnd.requests .arrive 3 = some { cls := .arrive, sel := 3, voids := 1 }
      ∧ ((runRow (.voidRound .low) p).slot 3).state = .ready
      ∧ hasEntry (runRow (.voidRound .low) p).rnd.requests .arrive 3 = false
      ∧ (runRow (.voidRound .low) p).log.records.map (fun r => r.kind) = [.void, .timeout] := by decide
theorem test_drops :
    ((runRow (.voidRound .low) (voidable .online .arrive 3 0)).slot 3).state = .fault
      ∧ (runRow (.voidRound .low) (voidable .joining .join 0 2)).mbr.membership = .offline
      ∧ (runRow (.voidRound .low) (voidable .online .flags 0 2)).rnd.requests = []
      ∧ (runRow (.voidRound .low) (voidable .online .halt 0 2)).rnd.requests = []
      ∧ (runRow (.voidRound .low) (voidable .online .resume 0 2)).rnd.requests = [] := by decide

/-! ### Invariants -/

/-- A member with a WAITING slot and a flag request, START issued. -/
def busy : State :=
  let s := runRow .startIssued (runRow (.setFlags 5#32) (withSlot .online .waiting false))
  s.setPending [.roundStart]

/-- An arrival whose source is no input meets what is asked of a source input. -/
theorem sourceBound_of {s : State} {i : SlotNo} (h : ∀ k, (s.slot i).arrival.map Arrival.source ≠ some (.input k)) :
    SourceBound i s := fun a k ha hs => absurd (by rw [ha, ← hs]; rfl) (h k)

theorem test_busy_is_sound :
    LogBounded busy ∧ PortSound busy ∧ FlagUnitOk busy ∧ RequestsOk busy ∧ SlotsOk busy ∧ DriversOk busy
      ∧ AutoSleepHeld busy :=
  ⟨by unfold LogBounded; decide,
   fun x hx => (by rw [show busy.cmd.transfer = none by decide] at hx; cases hx),
   ⟨by decide, fun h => absurd (by decide) h, by decide, by decide⟩,
   ⟨by decide, fun h => absurd h (by decide), fun h => absurd h (by decide), by decide, by decide, by decide, by decide,
    by decide⟩,
   ⟨by decide, by decide, by decide, fun i => sourceBound_of (by revert i; decide), by decide,
    fun h => absurd h (by decide), fun _ => by decide⟩,
   ⟨fun h => absurd h (by decide), fun _ => by decide⟩,
   fun _ _ => by decide⟩
theorem test_busy_steps : step busy = .next (after (step busy)) := rfl

end Sys2Proof.Tests
end

section
/-! The check of a round (R36): what ROUND_START and POSITION_SAMPLED make of the round in progress, and the accumulator. -/

namespace Sys2Proof.Machine

/-- Settling the auto-sleep timer leaves the round engine alone (R179). -/
@[simp] theorem settle_rnd (s : State) : s.settle.rnd = s.rnd := frame_settle s .rnd (by decide)

/-- A meaning that ends in `done` answers the settled state and no other. -/
theorem done_eq_next {s t : State} : done s = .next t ↔ t = s.settle := by
  rw [done_eq, Host.Outcome.next.injEq, eq_comm]

/-! ### Rows of the round engine -/

theorem exec_roundStart (s : State) : exec .roundStart s = execRoundStart s := rfl

theorem exec_positionSampled (dat : Level) (s : State) : exec (.positionSampled dat) s = execPositionSampled dat s :=
  rfl

/-- A station on the bus with its link IDLE begins a fresh round at ROUND_START (R9, R22). -/
theorem roundStart_rnd {s t : State} (hrun : s.Running) (hbus : s.OnBus) (hlink : s.lif.link = .idle)
    (h : exec .roundStart s = .next t) : t.rnd = { s.rnd with round := some .fresh } := by
  rw [exec_roundStart, execRoundStart, if_pos ⟨hrun, hbus, hlink⟩] at h
  rw [done_eq_next.mp h, settle_rnd, setRnd_rnd]

/-- In the low phase of a position of the round, the sample enters the round in progress, which is then judged (R11, R39). -/
theorem positionSampled_rnd {dat : Level} {s t : State} {r : Round} (hlow : s.LowPhase) (hlink : s.lif.link = .round)
    (hround : s.rnd.round = some r) (hpos : r.position < 100) (h : exec (.positionSampled dat) s = .next t) :
    t.rnd = { s.rnd with round := some (r.sample s.lif.datDrive dat).judge } := by
  simp only [exec_positionSampled, execPositionSampled, hround] at h
  rw [if_pos ⟨hlow, hlink, hpos⟩] at h
  rw [done_eq_next.mp h, settle_rnd, setLif_rnd, setRnd_rnd]

/-! ### The accumulator -/

/-- Judging a sampled position finds reasons to dissent and leaves the accumulator alone (R39). -/
@[simp] theorem judge_check (r : Round) : r.judge.check = r.check := by
  unfold Round.judge
  split
  · rfl
  · split
    · split <;> rfl
    · split
      · split <;> rfl
      · split <;> rfl

/-- A sample enters the accumulator at positions 0 to 91, and at no later one (R36). -/
theorem sample_check (r : Round) (own : Driver) (l : Level) :
    (r.sample own l).check = if r.samples.length < 92 then checkStep r.check l else r.check := rfl

/-- One step of the check by its feedback bit: bit 7 against the sample (R36). -/
theorem checkStep_eq (acc : Byte) (l : Level) :
    checkStep acc l = if acc.getLsbD 7 = (l == .high) then acc <<< 1 else (acc <<< 1) ^^^ 0x07#8 := by
  have htop : acc.msb = acc.getLsbD 7 := BitVec.msb_eq_getLsbD_last acc
  simp only [checkStep, htop, bne_iff_ne, ite_not]

/-- Settles O41: a fresh round holds the preset, a sample takes one step of the check, and the judgement keeps it. -/
theorem checkIsComputedOverPositions0To91 : Obligations.CheckIsComputedOverPositions0To91 := by
  constructor
  case left =>
    intro s t hrun hbus hlink h
    exact ⟨.fresh, congrArg Rnd.round (roundStart_rnd hrun hbus hlink h), rfl⟩
  case right =>
    intro dat s t r r' hrun hlink hbegun hstb hround hpos h hround'
    have hrnd := positionSampled_rnd ⟨hrun, hbegun, hstb⟩ hlink hround hpos h
    obtain rfl : (r.sample s.lif.datDrive dat).judge = r' := by simpa [hrnd] using hround'
    rw [judge_check, sample_check, checkStep_eq]

end Sys2Proof.Machine
end

section
/-! Write commands of the port (R165 to R169) and the commands of the notification unit: SET MASK, CLEAR MASK and CLEAR
EVENTS (R162 to R164). -/

namespace Sys2Proof.Machine

/-! ### A write command taken in ACTIVE -/

theorem TscQuiet.trans {s t u : State} (hst : TscQuiet s t) (htu : TscQuiet t u) : TscQuiet s u := by
  unfold TscQuiet at *
  rcases hst with hst | hst <;> rcases htu with htu | htu <;> simp [htu, hst]

theorem TscQuiet.inReset {s t : State} (h : TscQuiet s t) : t.tsc.inReset = s.tsc.inReset := by
  rcases h with h | h <;> rw [h]

@[simp] theorem settle_cmd (s : State) : s.settle.cmd = s.cmd := frame_settle s .cmd (by decide)

@[simp] theorem settle_ntf (s : State) : s.settle.ntf = s.ntf := frame_settle s .ntf (by decide)

/-- A command whose code is 0x10 or above does its body on the state in which its transfer is over, and the outcome the body
gives is recorded (R167, R168). -/
theorem command_write {c : Instr} {opcode : Byte} {ops : List Byte} {s : State} (hlead : leadBytes c = opcode :: ops)
    (hdata : dataBytes c = 0) (hw : 0x10 ≤ opcode.toNat) (hp : PortActive c s) (body : State → State × Code) :
    ∃ u, s.command c body = (body u).1.setLast (body u).2 ∧ Deselected s u (List.replicate ops.length 0#8) := by
  obtain ⟨_, hopen⟩ := hp
  rw [hlead, hdata] at hopen
  rw [State.command, hlead, hdata]
  exact transfer_write hopen hw (whenActive body)

/-- After the transfer an effect on the blocks `touched`, the recording of the outcome and the settling of the auto-sleep timer
make up a write. -/
theorem Deselected.wrote {n : Nat} {touched : List Block} {s u v : State} (c : Code)
    (hd : Deselected s u (List.replicate n 0#8)) (hv : Frame touched u v) (hcmd : Block.cmd ∉ touched)
    (htsc : Block.tsc ∉ touched) : Wrote n c touched s (v.setLast c).settle := by
  have hvcmd : v.cmd = u.cmd := hv.cmd hcmd
  have hvtsc : (v.setLast c).tsc = u.tsc := hv.tsc htsc
  have hquiet : TscQuiet s (v.setLast c).settle :=
    (hd.quiet.trans (Or.inl hvtsc)).trans (settle_tsc (v.setLast c))
  have hframe : Frame (.cmd :: .tsc :: touched) s (v.setLast c).settle :=
    (hd.frame.then hv (by simp) (by simp)).comp ((frame_setLast v c).then (frame_settle _) (by simp) (by simp))
  obtain ⟨hover, hsdo⟩ := hd.shifted
  refine ⟨⟨⟨?_, ?_⟩, ?_⟩, ?_, hquiet, hframe⟩
  · simp [State.setLast, hvcmd, hover]
  · simp [State.setLast, hvcmd, hsdo]
  · simp [State.setLast]
  · simp [State.setLast, hvcmd, hd.snapshot]

/-! ### The notification lines -/

/-- Outside the internal reset NA is low exactly while pending set and mask of its line share a kind (R164). -/
theorem naLow_iff {t : State} (h : t.tsc.inReset = false) : t.naLow = true ↔ t.ntf.pendA &&& t.ntf.maskA ≠ 0#9 := by
  simp [State.naLow, h]

/-- The same for NB. -/
theorem nbLow_iff {t : State} (h : t.tsc.inReset = false) : t.nbLow = true ↔ t.ntf.pendB &&& t.ntf.maskB ≠ 0#9 := by
  simp [State.nbLow, h]

/-- The kinds a 16-bit operand names are its bits 8 to 0. -/
theorem kindsOf_eq (kinds : Half) : kindsOf kinds = kinds.extractLsb' 0 9 :=
  BitVec.setWidth_eq_extractLsb' (by decide)

theorem lineOf_of_two_le {line : Byte} (h : 2 ≤ line.toNat) : lineOf line = none := by
  unfold lineOf
  split
  · omega
  · omega
  · rfl

/-! ### Commands on one notification line -/

/-- The body that SET MASK, CLEAR MASK and CLEAR EVENTS share: the change `f` of the line named, OPERAND where the operand names
no line (R162, R163). -/
def changeLine (line : Byte) (f : Ntf → NotifyLine → Ntf) (t : State) : State × Code :=
  match lineOf line with
  | none => (t, .operand)
  | some l => (t.setNtf (f t.ntf l), .ok)

theorem exec_setMask (line : Byte) (kinds : Half) (s : State) :
    exec (.setMask line kinds) s
      = done (s.command (.setMask line kinds) (changeLine line fun x l => x.unmask l (kindsOf kinds))) := rfl

theorem exec_clearMask (line : Byte) (kinds : Half) (s : State) :
    exec (.clearMask line kinds) s
      = done (s.command (.clearMask line kinds) (changeLine line fun x l => x.hide l (kindsOf kinds))) := rfl

theorem exec_clearEvents (line : Byte) (kinds : Half) (s : State) :
    exec (.clearEvents line kinds) s
      = done (s.command (.clearEvents line kinds) (changeLine line fun x l => x.clear l (kindsOf kinds))) := rfl

theorem changeLine_of_some {line : Byte} {l : NotifyLine} (h : lineOf line = some l) (f : Ntf → NotifyLine → Ntf) (t : State) :
    changeLine line f t = (t.setNtf (f t.ntf l), .ok) := by
  simp only [changeLine, h]

theorem changeLine_of_none {line : Byte} (h : lineOf line = none) (f : Ntf → NotifyLine → Ntf) (t : State) :
    changeLine line f t = refuse .operand t := by
  simp only [changeLine, h, refuse]

/-- What a command that changes one notification line by `f` makes of `s`: the change with OK at line code 0 or 1, the refusal
with OPERAND at any other, and the levels of NA and NB in either case. -/
structure LineCommanded (line : Byte) (f : Ntf → NotifyLine → Ntf) (s t : State) : Prop where
  lineA : line = 0#8 → Wrote 3 .ok [.ntf] s t ∧ t.ntf = f s.ntf .a
  lineB : line = 1#8 → Wrote 3 .ok [.ntf] s t ∧ t.ntf = f s.ntf .b
  other : 2 ≤ line.toNat → Refused 3 .operand s t
  na : t.naLow = true ↔ t.ntf.pendA &&& t.ntf.maskA ≠ 0#9
  nb : t.nbLow = true ↔ t.ntf.pendB &&& t.ntf.maskB ≠ 0#9

/-- The effect on a line that the operand names. -/
theorem changeLine_wrote {line : Byte} {l : NotifyLine} {s u : State} (f : Ntf → NotifyLine → Ntf)
    (hd : Deselected s u (List.replicate 3 0#8)) (h : lineOf line = some l) :
    let t := ((changeLine line f u).1.setLast (changeLine line f u).2).settle
    Wrote 3 .ok [.ntf] s t ∧ t.ntf = f s.ntf l := by
  rw [changeLine_of_some h]
  refine ⟨hd.wrote .ok (frame_setNtf u _) (by decide) (by decide), ?_⟩
  simp [State.setLast, hd.frame.ntf]

/-- The refusal where the operand names no line. -/
theorem changeLine_refused {line : Byte} {s u : State} (f : Ntf → NotifyLine → Ntf)
    (hd : Deselected s u (List.replicate 3 0#8)) (h : lineOf line = none) :
    Refused 3 .operand s ((changeLine line f u).1.setLast (changeLine line f u).2).settle := by
  rw [changeLine_of_none h]
  exact hd.wrote .operand (Frame.refl [] u) (by decide) (by decide)

/-- Such a command leaves timebase and sleep control alone, whatever its operand names. -/
theorem changeLine_quiet {s u : State} (line : Byte) (f : Ntf → NotifyLine → Ntf)
    (hd : Deselected s u (List.replicate 3 0#8)) :
    TscQuiet s ((changeLine line f u).1.setLast (changeLine line f u).2).settle := by
  cases h : lineOf line with
  | none =>
    obtain ⟨_, _, hquiet, _⟩ := changeLine_refused f hd h
    exact hquiet
  | some l =>
    obtain ⟨⟨_, _, hquiet, _⟩, _⟩ := changeLine_wrote f hd h
    exact hquiet

/-- A command with three operand bytes that changes one notification line, taken in ACTIVE. -/
theorem command_changeLine {c : Instr} {opcode b₁ b₂ b₃ line : Byte} {f : Ntf → NotifyLine → Ntf} {s : State}
    (hlead : leadBytes c = [opcode, b₁, b₂, b₃]) (hdata : dataBytes c = 0) (hw : 0x10 ≤ opcode.toNat)
    (hp : PortActive c s) : ∃ t, done (s.command c (changeLine line f)) = .next t ∧ LineCommanded line f s t := by
  obtain ⟨u, hu, hd⟩ := command_write hlead hdata hw hp (changeLine line f)
  obtain ⟨⟨_, hs⟩, _⟩ := hp
  have hreset := (changeLine_quiet line f hd).inReset.trans hs
  rw [hu]
  exact ⟨_, done_eq _, {
    lineA := fun h => changeLine_wrote f hd (by rw [h]; rfl)
    lineB := fun h => changeLine_wrote f hd (by rw [h]; rfl)
    other := fun h => changeLine_refused f hd (lineOf_of_two_le h)
    na := naLow_iff hreset
    nb := nbLow_iff hreset }⟩

/-! ### The three commands -/

/-- SET MASK (R163). -/
theorem setMask_commanded {line : Byte} {kinds : Half} {s : State} (hp : PortActive (.setMask line kinds) s) :
    ∃ t, exec (.setMask line kinds) s = .next t
      ∧ LineCommanded line (fun x l => x.unmask l (kinds.extractLsb' 0 9)) s t := by
  rw [exec_setMask, kindsOf_eq]
  exact command_changeLine rfl rfl (by decide) hp

/-- CLEAR MASK (R163). -/
theorem clearMask_commanded {line : Byte} {kinds : Half} {s : State} (hp : PortActive (.clearMask line kinds) s) :
    ∃ t, exec (.clearMask line kinds) s = .next t
      ∧ LineCommanded line (fun x l => x.hide l (kinds.extractLsb' 0 9)) s t := by
  rw [exec_clearMask, kindsOf_eq]
  exact command_changeLine rfl rfl (by decide) hp

/-- CLEAR EVENTS (R162). -/
theorem clearEvents_commanded {line : Byte} {kinds : Half} {s : State} (hp : PortActive (.clearEvents line kinds) s) :
    ∃ t, exec (.clearEvents line kinds) s = .next t
      ∧ LineCommanded line (fun x l => x.clear l (kinds.extractLsb' 0 9)) s t := by
  rw [exec_clearEvents, kindsOf_eq]
  exact command_changeLine rfl rfl (by decide) hp

/-- Settles O9: the three commands are one change of the notification unit at the line that the operand names. -/
theorem eventCommandsChangeMasksAndPendingSets : Obligations.EventCommandsChangeMasksAndPendingSets := by
  refine ⟨fun line kinds s => ⟨fun hp => ?setMask, fun hp => ?clearMask⟩, fun line kinds s hp => ?clearEvents⟩
  case setMask =>
    obtain ⟨t, ht, h⟩ := setMask_commanded hp
    exact ⟨t, ht, h.lineA, h.lineB, h.other, h.na, h.nb⟩
  case clearMask =>
    obtain ⟨t, ht, h⟩ := clearMask_commanded hp
    exact ⟨t, ht, h.lineA, h.lineB, h.other, h.na, h.nb⟩
  case clearEvents =>
    obtain ⟨t, ht, h⟩ := clearEvents_commanded hp
    exact ⟨t, ht, h.lineA, h.lineB, h.other⟩

end Sys2Proof.Machine
end

section
/-! The layout of READ STATUS (R172, 12.3) and of the status byte (R166, 12.3): bytes of two nibbles, and the bounds of the
codes that they pack. -/

namespace Sys2Proof.Machine

/-! ### Bytes and their nibbles -/

theorem toNat_byte {n : Nat} (h : n < 256) : (byte n).toNat = n := Nat.mod_eq_of_lt h

theorem getLsbD_byte (n : Nat) {i : Nat} (h : i < 8) : (byte n).getLsbD i = n.testBit i := by
  rw [byte, BitVec.getLsbD_ofNat, decide_eq_true h, Bool.true_and]

/-- Bit 4 + `i` of a byte of two nibbles is bit `i` of the upper one. -/
theorem getLsbD_upper (hi : Nat) {lo : Nat} (hlo : lo < 16) {i : Nat} (h : i < 4) :
    (byte (16 * hi + lo)).getLsbD (4 + i) = hi.testBit i := by
  rw [getLsbD_byte _ (by omega), Nat.testBit_two_pow_mul_add (i := 4) hi hlo, if_neg (by omega), Nat.add_sub_cancel_left]

/-- Bit `i` of a byte of two nibbles is bit `i` of the lower one. -/
theorem getLsbD_lower (hi : Nat) {lo : Nat} (hlo : lo < 16) {i : Nat} (h : i < 4) :
    (byte (16 * hi + lo)).getLsbD i = lo.testBit i := by
  rw [getLsbD_byte _ (by omega), Nat.testBit_two_pow_mul_add (i := 4) hi hlo, if_pos h]

/-- A 4-bit set in the lower nibble is read back from bits 3 to 0. -/
theorem extract_lower (hi : Nat) (x : BitVec 4) : (byte (16 * hi + x.toNat)).extractLsb' 0 4 = x := by
  refine BitVec.eq_of_getLsbD_eq fun i h => ?_
  rw [BitVec.getLsbD_extractLsb', Nat.zero_add, getLsbD_lower hi x.isLt h, decide_eq_true h, Bool.true_and]
  rfl

/-! ### Yes/no items -/

theorem oneIf_le_one (b : Bool) : oneIf b ≤ 1 := by cases b <;> decide

theorem decide_oneIf (b : Bool) : decide (oneIf b = 1) = b := by cases b <;> rfl

theorem nibble_lt (f : Fin 4 → Bool) : nibble f < 16 := by
  have h0 := oneIf_le_one (f 0)
  have h1 := oneIf_le_one (f 1)
  have h2 := oneIf_le_one (f 2)
  have h3 := oneIf_le_one (f 3)
  unfold nibble
  omega

theorem nibble_digit (f : Fin 4 → Bool) (i : Fin 4) : nibble f / 2 ^ i.val % 2 = oneIf (f i) := by
  have h0 := oneIf_le_one (f 0)
  have h1 := oneIf_le_one (f 1)
  have h2 := oneIf_le_one (f 2)
  have h3 := oneIf_le_one (f 3)
  unfold nibble
  match i with
  | 0 | 1 | 2 | 3 => dsimp only [Fin.coe_ofNat_eq_mod, Nat.reduceMod, Nat.reducePow]; omega

theorem nibble_testBit (f : Fin 4 → Bool) (i : Fin 4) : (nibble f).testBit i.val = f i := by
  rw [Nat.testBit_eq_decide_div_mod_eq, nibble_digit, decide_oneIf]

/-- An item of the upper nibble. -/
theorem upper_item (f : Fin 4 → Bool) {lo : Nat} (hlo : lo < 16) (i : Fin 4) :
    (byte (16 * nibble f + lo)).getLsbD (4 + i.val) = f i := by
  rw [getLsbD_upper _ hlo i.isLt, nibble_testBit]

/-- An item of the lower nibble. -/
theorem lower_item (hi : Nat) (f : Fin 4 → Bool) (i : Fin 4) : (byte (16 * hi + nibble f)).getLsbD i.val = f i := by
  rw [getLsbD_lower hi (nibble_lt f) i.isLt, nibble_testBit]

/-! ### Bounds of the codes -/

theorem Membership.code_lt (m : Membership) : m.code < 4 := by cases m <;> decide

theorem Link.code_lt (l : Link) : l.code < 64 := by cases l <;> decide

theorem ResetCause.code_lt (c : ResetCause) : c.code < 4 := by cases c <;> decide

theorem Code.code_lt (c : Code) : c.code < 14 := by cases c <;> decide

/-- The outcome field of the status byte: the last outcome, or ASLEEP in SLEEP (R166). -/
def State.shownOutcome (s : State) : Nat := if s.tsc.power = .sleep then 14 else s.cmd.last.code

theorem shownOutcome_lt (s : State) : s.shownOutcome < 16 := by
  have h := s.cmd.last.code_lt
  unfold State.shownOutcome
  split <;> omega

/-! ### READ STATUS -/

/-- Byte 2 of the snapshot: HALTED, command hold and resume pending in bits 7 to 5, bit 4 is 0, the input hold set below
(R124). -/
theorem haltByte_items (h c r : Bool) (x : BitVec 4) :
    let b := byte (128 * oneIf h + 64 * oneIf c + 32 * oneIf r + x.toNat)
    b.getLsbD 7 = h ∧ b.getLsbD 6 = c ∧ b.getLsbD 5 = r ∧ b.getLsbD 4 = false ∧ b.extractLsb' 0 4 = x := by
  have hsum : 128 * oneIf h + 64 * oneIf c + 32 * oneIf r + x.toNat = 16 * nibble ![false, r, c, h] + x.toNat := by
    change _ = 16 * (8 * oneIf h + 4 * oneIf c + 2 * oneIf r + 0) + x.toNat
    omega
  have item := upper_item ![false, r, c, h] x.isLt
  rw [hsum]
  exact ⟨item 3, item 2, item 1, item 0, extract_lower _ x⟩

/-- Byte 6 of the snapshot: the states of the outputs in bits 3 to 0, bits 7 to 4 are 0 (R150). -/
theorem outputByte_items (f : Fin 4 → Bool) :
    (∀ i : Fin 4, (byte (nibble f)).getLsbD i.val = f i) ∧ (byte (nibble f)).extractLsb' 4 4 = 0#4 := by
  have hzero : nibble f = 16 * 0 + nibble f := by omega
  rw [hzero]
  refine ⟨lower_item 0 f, BitVec.eq_of_getLsbD_eq fun i h => ?_⟩
  rw [BitVec.getLsbD_extractLsb', getLsbD_upper 0 (nibble_lt f) h]
  simp

/-! ### The status byte -/

theorem statusByte_inReset {s : State} (h : s.tsc.inReset = true) : s.statusByte = 0xFF#8 := if_pos h

/-- Outside the internal reset the status byte packs its four items (R166). -/
theorem statusByte_eq {s : State} (h : s.tsc.inReset = false) :
    s.statusByte = byte (16 * s.shownOutcome + 4 * s.mbr.membership.code + 2 * oneIf (s.hlt.condition == .halted)
      + oneIf (!s.log.records.isEmpty)) := by
  simp [State.statusByte, State.shownOutcome, byte, h, oneIf]

/-- The four items of a byte packed as the status byte is. -/
theorem statusByte_items {outcome member : Nat} (ho : outcome < 16) (hm : member < 4) (halted filled : Bool) :
    let b := byte (16 * outcome + 4 * member + 2 * oneIf halted + oneIf filled)
    b.toNat / 16 = outcome ∧ b.toNat / 4 % 4 = member ∧ b.getLsbD 1 = halted ∧ b.getLsbD 0 = filled := by
  have hh := oneIf_le_one halted
  have hf := oneIf_le_one filled
  intro b
  have hb : b.toNat = 16 * outcome + 4 * member + 2 * oneIf halted + oneIf filled := toNat_byte (by omega)
  have hbit1 : b.toNat / 2 ^ 1 % 2 = oneIf halted := by omega
  have hbit0 : b.toNat / 2 ^ 0 % 2 = oneIf filled := by omega
  refine ⟨by omega, by omega, ?_, ?_⟩
  · rw [BitVec.getLsbD, Nat.testBit_eq_decide_div_mod_eq, hbit1, decide_oneIf]
  · rw [BitVec.getLsbD, Nat.testBit_eq_decide_div_mod_eq, hbit0, decide_oneIf]

/-- Settles O7: each byte of the snapshot by the items it packs, and the status byte in and outside the internal reset. -/
theorem statusIsLaidOutAsTheTableSays : Obligations.StatusIsLaidOutAsTheTableSays := by
  constructor
  case left =>
    intro s
    have hcause := s.tsc.cause.code_lt
    have hmember := s.mbr.membership.code_lt
    have hlink := s.lif.link.code_lt
    obtain ⟨hhalted, hcommand, hresume, hunused, hinputs⟩ :=
      haltByte_items (s.hlt.condition == .halted) s.hlt.commandHold s.hlt.resumePending s.hlt.inputHold
    obtain ⟨houtputs, hpadding⟩ := outputByte_items s.outputActive
    refine ⟨_, _, _, _, _, _, _, rfl, toNat_byte (by omega), toNat_byte (by omega), hhalted, hcommand, hresume, hunused,
      hinputs, fun h => toNat_byte (by omega), fun h => toNat_byte (by omega), fun i => ⟨?armed, ?filtered, houtputs i⟩,
      hpadding⟩
    case armed => exact upper_item (fun i => (s.input i).armed) (nibble_lt _) i
    case filtered => exact lower_item _ (fun i => (s.input i).filtered == .high) i
  case right =>
    intro s
    refine ⟨statusByte_inReset, fun h => ?_⟩
    rw [statusByte_eq h]
    exact statusByte_items (shownOutcome_lt s) s.mbr.membership.code_lt _ _

end Sys2Proof.Machine
end

section
/-! What one row can do, said once: the port's part of it (R165 to R169), the effect of the row on the blocks with the guard
under which it comes about, and that every row answers a next state made of the two. -/

namespace Sys2Proof.Machine

/-! ### Frames

The projections of a frame, the block's absence from its list being a computation. -/

theorem Frame.cfg_eq {c : List Block} {s t : State} (h : Frame c s t) (hb : c.contains .cfg = false) : t.cfg = s.cfg :=
  h .cfg (by simpa using hb)
theorem Frame.lif_eq {c : List Block} {s t : State} (h : Frame c s t) (hb : c.contains .lif = false) : t.lif = s.lif :=
  h .lif (by simpa using hb)
theorem Frame.rnd_eq {c : List Block} {s t : State} (h : Frame c s t) (hb : c.contains .rnd = false) : t.rnd = s.rnd :=
  h .rnd (by simpa using hb)
theorem Frame.mbr_eq {c : List Block} {s t : State} (h : Frame c s t) (hb : c.contains .mbr = false) : t.mbr = s.mbr :=
  h .mbr (by simpa using hb)
theorem Frame.slots_eq {c : List Block} {s t : State} (h : Frame c s t) (hb : c.contains .slots = false) : t.slots = s.slots :=
  h .slots (by simpa using hb)
theorem Frame.flg_eq {c : List Block} {s t : State} (h : Frame c s t) (hb : c.contains .flg = false) : t.flg = s.flg :=
  h .flg (by simpa using hb)
theorem Frame.hlt_eq {c : List Block} {s t : State} (h : Frame c s t) (hb : c.contains .hlt = false) : t.hlt = s.hlt :=
  h .hlt (by simpa using hb)
theorem Frame.pin_eq {c : List Block} {s t : State} (h : Frame c s t) (hb : c.contains .pin = false) : t.pin = s.pin :=
  h .pin (by simpa using hb)
theorem Frame.log_eq {c : List Block} {s t : State} (h : Frame c s t) (hb : c.contains .log = false) : t.log = s.log :=
  h .log (by simpa using hb)
theorem Frame.ntf_eq {c : List Block} {s t : State} (h : Frame c s t) (hb : c.contains .ntf = false) : t.ntf = s.ntf :=
  h .ntf (by simpa using hb)
theorem Frame.cmd_eq {c : List Block} {s t : State} (h : Frame c s t) (hb : c.contains .cmd = false) : t.cmd = s.cmd :=
  h .cmd (by simpa using hb)
theorem Frame.tsc_eq {c : List Block} {s t : State} (h : Frame c s t) (hb : c.contains .tsc = false) : t.tsc = s.tsc :=
  h .tsc (by simpa using hb)
theorem Frame.bus_eq {c : List Block} {s t : State} (h : Frame c s t) (hb : c.contains .bus = false) : t.bus = s.bus :=
  h .bus (by simpa using hb)
theorem Frame.spi_eq {c : List Block} {s t : State} (h : Frame c s t) (hb : c.contains .spi = false) : t.spi = s.spi :=
  h .spi (by simpa using hb)
theorem Frame.pending_eq {c : List Block} {s t : State} (h : Frame c s t) (hb : c.contains .pending = false) : t.pending = s.pending :=
  h .pending (by simpa using hb)

/-! ### Log and transfer while bytes are clocked -/

/-- Records have left the log at its old end, and nothing else of it has changed (R157). -/
def LogShortened (s t : State) : Prop := ∃ k, t.log = { s.log with records := s.log.records.drop k }

theorem LogShortened.of_eq {s t : State} (h : t.log = s.log) : LogShortened s t := ⟨0, by simp [h]⟩

theorem LogShortened.trans {s t u : State} (hst : LogShortened s t) (htu : LogShortened t u) : LogShortened s u := by
  obtain ⟨j, hj⟩ := hst
  obtain ⟨k, hk⟩ := htu
  exact ⟨j + k, by rw [hk, hj, List.drop_drop]⟩

theorem endByte_shortens (b : Byte) (s : State) : LogShortened s (s.endByte b) := by
  unfold State.endByte
  split
  · exact .of_eq rfl
  · split
    · dsimp only
      split
      · exact ⟨1, rfl⟩
      · exact .of_eq rfl
    · exact .of_eq rfl
    · exact .of_eq rfl

theorem clockByte_shortens (s : State) (b : Byte) : LogShortened s (s.clockByte b) :=
  (LogShortened.of_eq ((frame_readyByte s).log_eq rfl)).trans (endByte_shortens b _)

theorem foldl_clockByte_shortens (l : List Byte) (s : State) : LogShortened s (l.foldl State.clockByte s) := by
  induction l generalizing s with
  | nil => exact .of_eq rfl
  | cons b l ih => exact (clockByte_shortens s b).trans (ih _)

/-- A transfer handled in ACTIVE shifts out no record, and its first byte, once the bytes `l` have come, is not READ LOG's
code. -/
def NoRecord (l : List Byte) (s : State) : Prop :=
  ∀ x, s.cmd.transfer = some x → x.handling = .active → x.record = false ∧ (x.received ++ l).head? ≠ some 0x06#8

theorem head?_append_left {l : List Byte} {b : Byte} (m : List Byte) (h : l.head? = some b) : (l ++ m).head? = some b := by
  cases l with
  | nil => cases h
  | cons a l => simpa using h

theorem beginByte_noRecord {l : List Byte} {s : State} (h : NoRecord l s) : NoRecord l s.beginByte := by
  cases hx : s.cmd.transfer with
  | none => simpa [State.beginByte, hx] using h
  | some x =>
    cases hh : x.handling with
    | asleep | ignored =>
      intro y hy hact
      simp only [State.beginByte, hx, hh, State.setTransfer, setCmd_cmd, Option.some.injEq] at hy
      subst hy
      simp [Transfer.start, hh] at hact
    | active =>
      obtain ⟨hrec, hhead⟩ := h x hx hh
      have hlog : readsLog x.received = false := by
        rw [readsLog, beq_eq_false_iff_ne]
        exact fun he => hhead (head?_append_left l he)
      intro y hy _
      cases hd : dataFor s x.received with
      | none =>
        simp only [State.beginByte, hx, hh, hd, State.setTransfer, setCmd_cmd, Option.some.injEq] at hy
        subst hy
        exact ⟨hrec, hhead⟩
      | some d =>
        obtain ⟨place, fresh⟩ := d
        simp only [State.beginByte, hx, hh, hd, setCmd_cmd, Option.some.injEq, hlog, hrec, Bool.false_and, ite_self] at hy
        subst hy
        exact ⟨rfl, hhead⟩

theorem readyByte_noRecord {l : List Byte} {s : State} (h : NoRecord l s) : NoRecord l s.readyByte := by
  unfold State.readyByte
  split
  · split
    · exact h
    · exact beginByte_noRecord h
  · exact h

theorem endByte_noRecord {b : Byte} {l : List Byte} {s : State} (h : NoRecord (b :: l) s) :
    NoRecord l (s.endByte b) ∧ (s.endByte b).log = s.log := by
  cases hx : s.cmd.transfer with
  | none => exact ⟨fun y hy => by simp [State.endByte, hx] at hy, by simp [State.endByte, hx]⟩
  | some x =>
    cases hh : x.handling with
    | asleep | ignored =>
      refine ⟨fun y hy hact => ?_, by simp [State.endByte, hx, hh, State.setTransfer]⟩
      simp only [State.endByte, hx, hh, State.setTransfer, setCmd_cmd, Option.some.injEq] at hy
      subst hy
      simp [Transfer.finish, hh] at hact
    | active =>
      obtain ⟨hrec, hhead⟩ := h x hx hh
      refine ⟨fun y hy _ => ?_, by simp [State.endByte, hx, hh, hrec, State.setTransfer]⟩
      simp only [State.endByte, hx, hh, hrec, Bool.false_and, Bool.false_eq_true, if_false, State.setTransfer, setCmd_cmd,
        Option.some.injEq] at hy
      subst hy
      exact ⟨hrec, by simpa [Transfer.finish] using hhead⟩

/-- While no record is shifted out, and none will be, clocking leaves the log alone. -/
theorem foldl_clockByte_log (l : List Byte) {s : State} (h : NoRecord l s) : (l.foldl State.clockByte s).log = s.log := by
  induction l generalizing s with
  | nil => rfl
  | cons b l ih =>
    obtain ⟨hnext, hlog⟩ := endByte_noRecord (readyByte_noRecord h)
    exact (ih hnext).trans (hlog.trans ((frame_readyByte s).log_eq rfl))

/-! ### The port's part of a row -/

/-- What the port's part of the row `c` can change: the port, the end of the log that READ LOG shifts out, the auto-sleep
timer, and SCK as a transfer starts. -/
structure PortRun (c : Instr) (s a : State) : Prop where
  frame : Frame [.cmd, .log, .tsc, .spi] s a
  quiet : TscQuiet s a
  feed : a.spi.feed = s.spi.feed
  log : LogShortened s a
  kept : PortSound s → (∀ n, c ≠ .readLog n) → (∀ b n, c ≠ .transferDiscarded b n) → a.log = s.log
  sound : PortSound s → PortSound a

theorem PortRun.refl (c : Instr) (s : State) : PortRun c s s where
  frame := Frame.refl _ s
  quiet := Or.inl rfl
  feed := rfl
  log := .of_eq rfl
  kept := fun _ _ _ => rfl
  sound := id

/-- The transfer that begins as CSN falls is sound. -/
theorem newTransfer_sound (s : State) (sck : Level) : (s.newTransfer sck).Sound where
  clocked := ⟨Nat.zero_le 8, fun h => nomatch h⟩
  taken := fun _ => ⟨rfl, rfl⟩
  ignored := fun _ => ⟨rfl, rfl⟩
  record := fun h => nomatch h

theorem openTransfer_sound {s : State} (sck : Level) (h : PortSound s) : PortSound (s.openTransfer sck) := by
  cases hx : s.cmd.transfer with
  | some x => rwa [openTransfer_of_some hx]
  | none =>
    intro y hy
    rw [openTransfer_cmd hx, Option.some.injEq] at hy
    exact hy ▸ newTransfer_sound s sck

theorem openTransfer_run (c : Instr) (s : State) (sck : Level) : PortRun c s (s.openTransfer sck) where
  frame := (frame_openTransfer s sck).mono (by simp)
  quiet := openTransfer_quiet s sck
  feed := by rw [((frame_openTransfer s sck).spi_eq rfl)]
  log := .of_eq ((frame_openTransfer s sck).log_eq rfl)
  kept := fun _ _ _ => ((frame_openTransfer s sck).log_eq rfl)
  sound := openTransfer_sound sck

/-- Before the rest of its bytes is clocked a transfer with another code than READ LOG's shifts out no record. -/
theorem openTransfer_noRecord {s : State} {opcode : Byte} {ops : List Byte} {n extra : Nat} (hs : PortSound s)
    (h6 : opcode ≠ 0x06#8) {x : Transfer} (hx : (s.openTransfer .low).cmd.transfer = some x)
    (ha : x.agrees (opcode :: ops) n extra = true) :
    NoRecord (((opcode :: ops) ++ zeros n).drop x.sent.length) (s.openTransfer .low) := by
  intro y hy hact
  obtain rfl : x = y := by simpa [hx] using hy
  have hsound := openTransfer_sound .low hs x hx
  cases hre : x.received with
  | nil =>
    have hsent : x.sent.length = 0 := by
      have := (hsound.taken (by simp [hact])).1
      rw [hre] at this
      exact this.symm
    refine ⟨?_, by simpa [hsent] using h6⟩
    by_contra hrec
    have := (hsound.record (by simpa using hrec)).2.1
    simp [readsLog, hre] at this
  | cons b rest =>
    have hb := agrees_head hact ha hre
    subst hb
    refine ⟨?_, by simpa using h6⟩
    by_contra hrec
    have := (hsound.record (by simpa using hrec)).2.1
    rw [readsLog, hre] at this
    exact h6 (by simpa using this)

/-- How a row ends a transfer: it does nothing, or runs its body once CSN is high, the rest of the bytes having been clocked.
A code other than READ LOG's leaves the log alone. -/
theorem transfer_run (c : Instr) (s : State) (lead : List Byte) (n extra : Nat) (body : Handling → State → State)
    (hc : (∀ n, c ≠ .readLog n) → (∀ b n, c ≠ .transferDiscarded b n) →
      ∃ opcode ops, lead = opcode :: ops ∧ opcode ≠ 0x06#8) :
    s.transfer lead n extra body = s
      ∨ ∃ h a, s.transfer lead n extra body = body h a ∧ PortRun c s a ∧ a.cmd.transfer = none := by
  cases hx : (s.openTransfer .low).cmd.transfer with
  | none => left; simp only [State.transfer, hx]
  | some x =>
    by_cases ha : x.agrees lead n extra = true
    case neg => left; simp only [State.transfer, hx, if_neg ha]
    case pos =>
      right
      let wire := (lead ++ zeros n).drop x.sent.length
      let b := wire.foldl State.clockByte (s.openTransfer .low)
      let a := (if extra = 0 then b else b.readyByte).deselect
      have hopen := openTransfer_run c s .low
      have hb : Frame [.cmd, .log] (s.openTransfer .low) b :=
        foldl_keeps (Frame [.cmd, .log] (s.openTransfer .low)) _ (fun t i h => h.comp (frame_clockByte t i)) _ _
          (Frame.refl _ _)
      have ha' : Frame [.cmd] b a :=
        (Frame.ite (Frame.refl _ b) (frame_readyByte b)).comp (frame_deselect _)
      have hnone : a.cmd.transfer = none := by
        change (State.deselect _).cmd.transfer = none
        unfold State.deselect
        split
        · rfl
        · assumption
      refine ⟨x.handling, a, by simp only [State.transfer, hx, ha, if_true, a, b, wire], ?_, hnone⟩
      exact
        { frame := hopen.frame.comp ((hb.mono (by simp)).comp (ha'.mono (by simp)))
          quiet := hopen.quiet.trans (Or.inl ((ha'.tsc_eq rfl).trans (hb.tsc_eq rfl)))
          feed := by rw [(ha'.spi_eq rfl), (hb.spi_eq rfl), hopen.feed]
          log := hopen.log.trans ((foldl_clockByte_shortens wire _).trans (.of_eq (ha'.log_eq rfl)))
          kept := fun hs h₁ h₂ => by
            obtain ⟨opcode, ops, rfl, h6⟩ := hc h₁ h₂
            exact (ha'.log_eq rfl).trans ((foldl_clockByte_log wire (openTransfer_noRecord hs h6 hx ha)).trans (hopen.kept hs h₁ h₂))
          sound := fun _ y hy => by simp [hnone] at hy }

/-! ### The effects of the rows -/

/-- What a row does to the blocks, its port part aside: one effect for each row, with the guard under which the row has it.
A command refused, and an event that cannot occur, have none. -/
inductive Effect : Instr → State → State → Prop
  | join {s : State} (hoff : s.mbr.membership = .offline) (hlink : s.lif.link = .detached) : Effect .join s s.joinNow
  | leave {s : State} (hon : s.mbr.membership = .online) : Effect .leave s s.leaveNow
  | busReset {s : State} (hlink : s.lif.link ≠ .resetting) :
      Effect .busReset s ((s.setLif (s.lif.beginPulse s.stuckTicks)).abandon false)
  | arrive {s : State} {slot : Byte} {i : SlotNo} (hi : slotOf slot = some i) (value : Half) :
      Effect (.arrive slot value) s (s.attempt i value .command).1
  | withdraw {s : State} {slot : Byte} {i : SlotNo} (hi : slotOf slot = some i) :
      Effect (.withdraw slot) s (s.withdrawCommand i).1
  | clearSlot {s : State} {slot : Byte} {i : SlotNo} (hi : slotOf slot = some i) :
      Effect (.clearSlot slot) s (s.clearCommand i).1
  | setFlags {s : State} (mask : Set32) : Effect (.setFlags mask) s (s.requestSet mask)
  | clearFlags {s : State} (mask : Set32) : Effect (.clearFlags mask) s (s.requestClear mask)
  | halt {s : State} (cause : Half) (hon : s.mbr.membership = .online) : Effect (.halt cause) s (s.commandHalt cause)
  | resume {s : State} (hon : s.mbr.membership = .online) (hhalted : s.hlt.condition = .halted) :
      Effect .resume s s.askResume
  | clearEvents {s : State} (line : Byte) (l : NotifyLine) (kinds : Half) :
      Effect (.clearEvents line kinds) s (s.setNtf (s.ntf.clear l (kindsOf kinds)))
  | setMask {s : State} (line : Byte) (l : NotifyLine) (kinds : Half) :
      Effect (.setMask line kinds) s (s.setNtf (s.ntf.unmask l (kindsOf kinds)))
  | clearMask {s : State} (line : Byte) (l : NotifyLine) (kinds : Half) :
      Effect (.clearMask line kinds) s (s.setNtf (s.ntf.hide l (kindsOf kinds)))
  | writeStationConfig {s : State} {bytes : List Byte} {c : StationConfig} (hoff : s.mbr.membership = .offline)
      (hc : parseStationConfig bytes = some c) : Effect (.writeStationConfig bytes) s (s.setCfg c)
  | writeSlotConfig {s : State} {slot : Byte} {bytes : List Byte} {i : SlotNo} {c : SlotConfig}
      (hoff : s.mbr.membership = .offline) (hc : parseSlotConfig bytes = some c) :
      Effect (.writeSlotConfig slot bytes) s (s.setSlot i ((s.slot i).configure c))
  | writePinConfig {s : State} {bytes : List Byte} {c : PinConfig} (hoff : s.mbr.membership = .offline)
      (hc : parsePinConfig bytes = some c) : Effect (.writePinConfig bytes) s (s.setPin (s.pin.configure c))
  | sleep {s : State} (hok : s.sleepOk = true) : Effect .sleep s s.enterSleep
  | wake {s : State} : Effect .wake s s.startWake
  | softReset {s : State} : Effect .softReset s (s.startReset .soft)
  | startIssued {s : State} (hbus : s.OnBus) (hlink : s.lif.link = .idle) :
      Effect .startIssued s (s.setLif { s.lif with datDrive := .low })
  | roundStart {s : State} (hbus : s.OnBus) (hlink : s.lif.link = .idle) :
      Effect .roundStart s
        ((s.setLif { (s.lif.seeStb .high).seeDat .low with
            link := .round, begun := false, idleTimer := 0, tLow := none, tHigh := some Config.filterTicks }).setRnd
          { s.rnd with round := some .fresh })
  | unframedActivity {s : State} : Effect .unframedActivity s (s.setLif (s.lif.seeStb .low).seek)
  | haltRound {s : State} {r : Round} {n : Fin 32} (h : s.acceptedRound .halt = some (r, n)) :
      Effect .haltRound s (haltEffects r n (s.endRound .high))
  | resumeRound {s : State} {r : Round} {n : Fin 32} (h : s.acceptedRound .resume = some (r, n)) :
      Effect .resumeRound s (resumeEffects r n (s.endRound .high))
  | joinRound {s : State} {r : Round} {n : Fin 32} (h : s.acceptedRound .join = some (r, n)) :
      Effect .joinRound s (joinEffects r n (s.endRound .high))
  | arriveRound {s : State} {r : Round} {n : Fin 32} (h : s.acceptedRound .arrive = some (r, n)) :
      Effect .arriveRound s (arriveEffects r n (s.endRound .high))
  | flagsRound {s : State} {r : Round} {n : Fin 32} (h : s.acceptedRound .flags = some (r, n)) :
      Effect .flagsRound s (flagsEffects r n (s.endRound .high))
  | rollRound {s : State} {r : Round} {n : Fin 32} (h : s.acceptedRound .roll = some (r, n)) :
      Effect .rollRound s (rollEffects r n (s.endRound .high))
  | voidRound {s : State} {r : Round} {dis : Level} (h : s.endingRound = some r) :
      Effect (.voidRound dis) s (voidEffects r (s.endRound dis))
  | closingEndHigh {s : State} :
      Effect (.closingEnd .high) s
        (s.setLif { ((s.lif.seeStb .high).seeDat .high).quiet with link := .idle, idleTimer := Config.filterTicks })
  | closingEndLow {s : State} : Effect (.closingEnd .low) s (s.setLif ((s.lif.seeStb .high).seeDat .low).seek)
  | framingViolation {s : State} : Effect .framingViolation s ((s.setLif s.lif.seekFromEdge).abandon true)
  | busIdle {s : State} (hstb : s.lif.stbDrive = .released) (hdat : s.lif.datDrive = .released) (link : Link) (idle : Nat) :
      Effect .busIdle s (s.setLif { (s.lif.seeStb .high).seeDat .high with link := link, idleTimer := idle })
  | lineStuck {s : State} (line : StuckLine) (stb dat : Bool) :
      Effect (.lineStuck line) s ((s.lowFor line).stuckNow stb dat)
  | busResetPulseEnd {s : State} :
      Effect .busResetPulseEnd s
        (s.setLif { ((s.lif.seeDat .low).seeStb .low).endPulse with
          link := if s.OnBus then .seeking else .detached, idleTimer := 0, ownPulse := true })
  | busResetArmedSeek {s : State} :
      Effect .busResetArmed s ((s.setLif { s.lif.lowForArming with armed := true }.seek).abandon false)
  | busResetArmed {s : State} : Effect .busResetArmed s (s.setLif { s.lif.lowForArming with armed := true })
  | busResetRecognised {s : State} : Effect .busResetRecognised s (s.setLif s.lif.recognise).busResetEffects
  | rollTimerExpiry {s : State} (hm : s.IsMember) :
      Effect .rollTimerExpiry s ((s.setMbr { s.mbr with rollTimer := 0 }).place .roll 0)
  | timeoutPending {s : State} (i : SlotNo) (hw : (s.slot i).state = .waiting) :
      Effect (.timeout i) s
        (s.setSlot i { s.slot i with timeoutPending := true, timer := max (s.slot i).timer (s.slot i).timeoutMicros })
  | timeout {s : State} (i : SlotNo) (hw : (s.slot i).state = .waiting) : Effect (.timeout i) s (s.timeoutNow i)
  | movePin {s : State} (i : Fin 4) (l : Level) : Effect (.inputChange i l) s (s.movePin i l)
  | inputChange {s : State} (i : Fin 4) (l : Level) (hp : s.tsc.power = .sleep) : Effect (.inputChange i l) s (s.rawEdge i l)
  | inputAccepted {s : State} (i : Fin 4) :
      Effect (.inputAccepted i) s ((s.acceptLevel i).actOnBinding i (s.input i).pin)
  | pulseEnd {s : State} (o : Fin 4) : Effect (.pulseEnd o) s (s.setOutput o { active := false, pulse := none })
  | autoSleepExpiry {s : State} (hok : s.sleepOk = true) : Effect .autoSleepExpiry s s.enterSleep
  | oscillatorStop {s : State} : Effect .oscillatorStop s (s.setTsc { s.tsc with oscillator := false })
  | asyncStart {s : State} (hbus : s.OnBus) : Effect .asyncStart s s.asyncRound.startWake
  | wakeInputEdge {s : State} (i : Fin 4) (l : Level) : Effect (.wakeInputEdge i) s (s.rawEdge i l)
  | oscillatorRuns {s : State} : Effect .oscillatorRuns s s.awake
  | powerOn {s : State} : Effect .powerOn s (s.startReset .powerOn)
  | resetnHeld {s : State} : Effect .resetn s (s.setTsc { s.tsc with resetnLow := true })
  | resetn {s : State} : Effect .resetn s ((s.setTsc { s.tsc with resetnLow := true }).startReset .pin)
  | internalResetEnd {s : State} (p : Straps) :
      Effect (.internalResetEnd p) s
        { State.afterReset s.tsc.cause (strapNumber p) s.pinLevels with
          cmd := s.cmd.afterReset, bus := s.bus, spi := s.spi, pending := s.pending }
  | positionBegins {s : State} {r : Round} (hbus : s.OnBus) (hlink : s.lif.link = .round) (hr : s.rnd.round = some r) :
      Effect .positionBegins s (s.beginPosition r)
  | closingBegins {s : State} (hbus : s.OnBus) (hlink : s.lif.link = .closing) :
      Effect .positionBegins s (s.setLif (s.lif.beginLow .released))
  | positionSampled {s : State} {r : Round} {dat : Level} (hlow : s.LowPhase) (hr : s.rnd.round = some r) :
      Effect (.positionSampled dat) s
        ((s.setRnd { s.rnd with round := some (r.sample s.lif.datDrive dat).judge }).setLif
          { (s.lif.seeStb .high).seeDat dat with begun := false, tLow := none, tHigh := some Config.filterTicks })
  | tlowExpired {s : State} :
      Effect .tlowExpired s (s.setLif { s.lif with stbDrive := .released, stretch := false, tLow := none })
  | datFallInClosing {s : State} : Effect .datFallInClosing s (s.setLif (s.lif.seeDat .low).seek)
  | busResetDetectorDisarmed {s : State} (line : Line) :
      Effect (.busResetDetectorDisarmed line) s (s.setLif (s.lif.disarmDetector line))

/-! ### Every row is its port part and at most one effect -/

/-- What the outcome `o` of the row `c` is: the state as it stands, or the port's part, at most one effect, the recording of an
outcome code and, last, the settling of the auto-sleep timer. -/
def Means (c : Instr) (s : State) (o : Host.Outcome State Fault Refusal) : Prop :=
  o = .next s
    ∨ ∃ a v u, o = done u ∧ PortRun c s a ∧ (v = a ∨ Effect c a v) ∧ (u = v ∨ ∃ code, u = v.setLast code)

theorem Means.same (c : Instr) (s : State) : Means c s (.next s) :=
  .inl rfl

theorem Means.effect {c : Instr} {s u : State} (h : Effect c s u) : Means c s (done u) :=
  .inr ⟨s, u, u, rfl, .refl c s, .inr h, .inl rfl⟩

theorem Means.port {c : Instr} {s a : State} (h : PortRun c s a) : Means c s (done a) :=
  .inr ⟨a, a, a, rfl, h, .inl rfl, .inl rfl⟩

theorem Means.ite {c : Instr} {s : State} {p : Prop} [Decidable p] {x y : Host.Outcome State Fault Refusal}
    (hx : p → Means c s x) (hy : ¬p → Means c s y) : Means c s (if p then x else y) := by
  split
  · exact hx ‹_›
  · exact hy ‹_›

/-- The end of a transfer: whatever the body does at the rise of CSN is an effect of the row, with an outcome recorded or
not. -/
theorem Means.transfer {c : Instr} {s : State} (lead : List Byte) (n extra : Nat) {body : Handling → State → State}
    (hc : (∀ n, c ≠ .readLog n) → (∀ b n, c ≠ .transferDiscarded b n) →
      ∃ opcode ops, lead = opcode :: ops ∧ opcode ≠ 0x06#8)
    (hbody : ∀ h a, ∃ v, (v = a ∨ Effect c a v) ∧ (body h a = v ∨ ∃ code, body h a = v.setLast code)) :
    Means c s (done (s.transfer lead n extra body)) := by
  rcases transfer_run c s lead n extra body hc with hs | ⟨h, a, hs, ha, _⟩
  · rw [hs]
    exact .port (.refl c s)
  · obtain ⟨v, hv, hu⟩ := hbody h a
    exact .inr ⟨a, v, body h a, by rw [hs], ha, hv, hu⟩

/-- A body that is run in ACTIVE alone. -/
theorem whenActive_body {c : Instr} {body : State → State × Code} (hb : ∀ a, (body a).1 = a ∨ Effect c a (body a).1)
    (h : Handling) (a : State) :
    ∃ v, (v = a ∨ Effect c a v) ∧ (whenActive body h a = v ∨ ∃ code, whenActive body h a = v.setLast code) := by
  cases h with
  | active => exact ⟨(body a).1, hb a, .inr ⟨_, rfl⟩⟩
  | asleep | ignored => exact ⟨a, .inl rfl, .inl rfl⟩

/-- A command of the port, but READ LOG. -/
theorem Means.command {c : Instr} {s : State} {opcode : Byte} {ops : List Byte} {body : State → State × Code}
    (hlead : leadBytes c = opcode :: ops) (h6 : opcode ≠ 0x06#8) (hb : ∀ a, (body a).1 = a ∨ Effect c a (body a).1) :
    Means c s (done (s.command c body)) :=
  .transfer _ _ _ (fun _ _ => ⟨opcode, ops, hlead, h6⟩) (whenActive_body hb)

/-- A command that changes no block. -/
theorem Means.refused {c : Instr} {s : State} {opcode : Byte} {ops : List Byte} (code : Code)
    (hlead : leadBytes c = opcode :: ops) (h6 : opcode ≠ 0x06#8) : Means c s (done (s.command c (refuse code))) :=
  .command hlead h6 fun _ => .inl rfl

/-- A body that has the row's effect under a condition and refuses otherwise. -/
theorem body_ite {c : Instr} {a v : State} {p : Prop} [Decidable p] (hv : p → Effect c a v) (x y : Code) :
    (if p then (v, x) else (a, y)).1 = a ∨ Effect c a (if p then (v, x) else (a, y)).1 := by
  split
  · exact .inr (hv ‹_›)
  · exact .inl rfl

/-- The opcode and operand bytes of a command are all but the zeros that follow them. -/
theorem leadBytes_of_encode {c : Instr} {lead : List Byte}
    (h : encodeCommand c = some (lead ++ List.replicate (dataBytes c) 0#8)) : leadBytes c = lead := by
  simp [leadBytes, h]

theorem leadBytes_read {c : Instr} {opcode : Byte}
    (h : encodeCommand c = some (opcode :: List.replicate (dataBytes c) 0#8)) : leadBytes c = [opcode] :=
  leadBytes_of_encode (lead := [opcode]) h

/-- An accepted round's row has the effects of its class. -/
theorem Means.accept {c : Instr} {k : Class} {s : State} {effects : Round → Fin 32 → State → State}
    (h : ∀ r n, s.acceptedRound k = some (r, n) → Effect c s (effects r n (s.endRound .high))) :
    Means c s (s.accept k effects) := by
  unfold State.accept
  split
  · exact .effect (h _ _ ‹_›)
  · exact .same c s

/-- Every row answers a next state, made of its port part and at most one effect: no row faults or is refused. -/
theorem exec_means (c : Instr) (s : State) : Means c s (exec c s) := by
  cases c with
  | readStatus n | readRoster n | readFlags n | readEvents n | readStationConfig n | readPinConfig n =>
    exact .refused .ok (leadBytes_read rfl) (by simp)
  | readSlot slot n | readSlotConfig slot n => exact .refused _ (leadBytes_of_encode (lead := [_, slot]) rfl) (by simp)
  | readLog n => exact .transfer _ _ _ (fun h => absurd rfl (h n)) (whenActive_body fun _ => .inl rfl)
  | join => exact .command rfl (by simp) fun a => body_ite (fun h => .join h.1 h.2) _ _
  | leave => exact .command rfl (by simp) fun a => body_ite .leave _ _
  | busReset =>
    refine .command rfl (by simp) fun a => ?_
    split
    · exact .inl rfl
    · exact .inr (.busReset ‹_›)
  | arrive slot value =>
    refine .command rfl (by simp) fun a => ?_
    split
    · exact .inl rfl
    · exact .inr (.arrive ‹_› value)
  | withdraw slot =>
    refine .command rfl (by simp) fun a => ?_
    split
    · exact .inl rfl
    · exact .inr (.withdraw ‹_›)
  | clearSlot slot =>
    refine .command rfl (by simp) fun a => ?_
    split
    · exact .inl rfl
    · exact .inr (.clearSlot ‹_›)
  | setFlags mask => exact .command rfl (by simp) fun a => body_ite (fun _ => .setFlags mask) _ _
  | clearFlags mask => exact .command rfl (by simp) fun a => body_ite (fun _ => .clearFlags mask) _ _
  | halt cause =>
    refine .command rfl (by simp) fun a => ?_
    split
    · exact .inl rfl
    · split
      · exact .inl rfl
      · exact .inr (.halt cause (not_not.mp ‹_›))
  | resume => exact .command rfl (by simp) fun a => body_ite (fun h => .resume h.1 h.2) _ _
  | clearEvents line kinds =>
    refine .command rfl (by simp) fun a => ?_
    split
    · exact .inl rfl
    · exact .inr (.clearEvents line _ kinds)
  | setMask line kinds =>
    refine .command rfl (by simp) fun a => ?_
    split
    · exact .inl rfl
    · exact .inr (.setMask line _ kinds)
  | clearMask line kinds =>
    refine .command rfl (by simp) fun a => ?_
    split
    · exact .inl rfl
    · exact .inr (.clearMask line _ kinds)
  | writeStationConfig bytes =>
    refine .command (leadBytes_of_encode (lead := _ :: bytes) (by simp [encodeCommand, dataBytes]; rfl)) (by simp) fun a => ?_
    split
    · exact .inl rfl
    · split
      · exact .inl rfl
      · split
        · exact .inl rfl
        · rename_i hstate _ _ hc
          exact .inr (.writeStationConfig (not_not.mp fun h => hstate (.inl h)) hc)
  | writeSlotConfig slot bytes =>
    refine .command (leadBytes_of_encode (lead := _ :: slot :: bytes) (by simp [encodeCommand, dataBytes]; rfl)) (by simp)
      fun a => ?_
    split
    · exact .inl rfl
    · split
      · exact .inl rfl
      · rename_i hstate
        split
        · exact .inr (.writeSlotConfig (not_not.mp hstate) ‹_›)
        · exact .inl rfl
  | writePinConfig bytes =>
    refine .command (leadBytes_of_encode (lead := _ :: bytes) (by simp [encodeCommand, dataBytes]; rfl)) (by simp) fun a => ?_
    split
    · exact .inl rfl
    · split
      · exact .inl rfl
      · rename_i hstate
        split
        · exact .inl rfl
        · exact .inr (.writePinConfig (not_not.mp hstate) ‹_›)
  | sleep => exact .command rfl (by simp) fun a => body_ite .sleep _ _
  | wake =>
    refine .transfer _ _ _ (fun _ _ => ⟨0x61#8, [], rfl, by simp⟩) fun h a => ?_
    cases h with
    | active | asleep => exact ⟨a.startWake, .inr .wake, .inr ⟨.ok, rfl⟩⟩
    | ignored => exact ⟨a, .inl rfl, .inl rfl⟩
  | softReset => exact .command rfl (by simp) fun a => .inr .softReset
  | transferStart sck =>
    change Means _ s (execTransferStart sck s)
    unfold execTransferStart
    split
    · exact .same _ s
    · refine .port ?_
      have h := openTransfer_run (.transferStart sck) s sck
      exact
        { frame := h.frame.comp ((frame_setSpi _ _).mono (by simp))
          quiet := h.quiet
          feed := rfl
          log := h.log
          kept := h.kept
          sound := h.sound }
  | transferDiscarded sdi extraBits =>
    change Means _ s (execTransferDiscarded sdi extraBits s)
    unfold execTransferDiscarded
    split
    · exact .transfer _ _ _ (fun _ h => absurd rfl (h sdi extraBits)) fun _ a => ⟨a, .inl rfl, .inl rfl⟩
    · exact .transfer _ _ _ (fun _ h => absurd rfl (h sdi extraBits)) (whenActive_body fun _ => .inl rfl)
    · exact .same _ s
    · exact .same _ s
  | unknownOpcode opcode n =>
    refine .ite (fun _ => .same _ s) fun h => .transfer _ _ _ (fun _ _ => ⟨opcode, [], rfl, ?_⟩)
      (whenActive_body fun _ => .inl rfl)
    rintro rfl
    exact h rfl
  | startIssued => exact .ite (fun h => .effect (.startIssued h.2.1 h.2.2.1)) fun _ => .same _ s
  | roundStart => exact .ite (fun h => .effect (.roundStart h.2.1 h.2.2)) fun _ => .same _ s
  | unframedActivity => exact .ite (fun _ => .effect .unframedActivity) fun _ => .same _ s
  | haltRound => exact .accept fun _ _ => .haltRound
  | resumeRound => exact .accept fun _ _ => .resumeRound
  | joinRound => exact .accept fun _ _ => .joinRound
  | arriveRound => exact .accept fun _ _ => .arriveRound
  | flagsRound => exact .accept fun _ _ => .flagsRound
  | rollRound => exact .accept fun _ _ => .rollRound
  | voidRound dis =>
    change Means _ s (execVoidRound dis s)
    unfold execVoidRound
    split
    · exact .same _ s
    · exact .ite (fun _ => .effect (.voidRound ‹_›)) fun _ => .same _ s
  | closingEnd dat =>
    refine .ite (fun _ => ?_) fun _ => .same _ s
    cases dat with
    | high => exact .effect .closingEndHigh
    | low => exact .effect .closingEndLow
  | framingViolation => exact .ite (fun _ => .effect .framingViolation) fun _ => .same _ s
  | busIdle =>
    refine .ite (fun h => ?_) fun _ => .same _ s
    split
    · exact .effect (.busIdle h.2.1 h.2.2 _ _)
    · exact .effect (.busIdle h.2.1 h.2.2 _ _)
    · exact .effect (.busIdle h.2.1 h.2.2 _ _)
    · exact .same _ s
  | lineStuck line => exact .ite (fun _ => .effect (.lineStuck line _ _)) fun _ => .same _ s
  | busResetPulseEnd => exact .ite (fun _ => .effect .busResetPulseEnd) fun _ => .same _ s
  | busResetArmed =>
    refine .ite (fun h => ?_) fun _ => .same _ s
    split
    · exact .effect .busResetArmedSeek
    · exact .effect .busResetArmedSeek
    · exact .effect .busResetArmedSeek
    · exact .effect .busResetArmedSeek
    · exact .effect .busResetArmed
    · exact .effect .busResetArmed
    · exact .effect .busResetArmed
  | busResetRecognised => exact .ite (fun _ => .effect .busResetRecognised) fun _ => .same _ s
  | rollTimerExpiry => exact .ite (fun h => .effect (.rollTimerExpiry h.2.1)) fun _ => .same _ s
  | timeout i =>
    refine .ite (fun h => ?_) fun _ => .same _ s
    exact .ite (fun _ => .effect (.timeoutPending i h.2.1)) fun _ => .effect (.timeout i h.2.1)
  | inputChange i l =>
    change Means _ s (execInputChange i l s)
    unfold execInputChange
    split
    · exact .effect (.movePin i l)
    · exact .effect (.inputChange i l ‹_›)
  | inputAccepted i => exact .ite (fun _ => .effect (.inputAccepted i)) fun _ => .same _ s
  | pulseEnd o => exact .ite (fun _ => .effect (.pulseEnd o)) fun _ => .same _ s
  | autoSleepExpiry => exact .ite (fun h => .effect (.autoSleepExpiry h.2.2)) fun _ => .same _ s
  | oscillatorStop => exact .ite (fun _ => .effect .oscillatorStop) fun _ => .same _ s
  | asyncStart => exact .ite (fun h => .effect (.asyncStart h.2.2.2.1)) fun _ => .same _ s
  | wakeInputEdge i => exact .ite (fun _ => .effect (.wakeInputEdge i _)) fun _ => .same _ s
  | oscillatorRuns => exact .ite (fun _ => .effect .oscillatorRuns) fun _ => .same _ s
  | powerOn => exact .effect .powerOn
  | resetn => exact .ite (fun _ => .effect .resetnHeld) fun _ => .effect .resetn
  | internalResetEnd p => exact .ite (fun _ => .effect (.internalResetEnd p)) fun _ => .same _ s
  | positionBegins =>
    refine .ite (fun h => ?_) fun _ => .same _ s
    split
    · exact .effect (.positionBegins h.2.1 ‹_› ‹_›)
    · exact .effect (.closingBegins h.2.1 ‹_›)
    · exact .same _ s
  | positionSampled dat =>
    change Means _ s (execPositionSampled dat s)
    unfold execPositionSampled
    split
    · exact .ite (fun h => .effect (.positionSampled h.1 ‹_›)) fun _ => .same _ s
    · exact .same _ s
  | tlowExpired => exact .ite (fun _ => .effect .tlowExpired) fun _ => .same _ s
  | datFallInClosing => exact .ite (fun _ => .effect .datFallInClosing) fun _ => .same _ s
  | busResetDetectorDisarmed line => exact .ite (fun _ => .effect (.busResetDetectorDisarmed line)) fun _ => .same _ s

/-- Read backwards: how a row that has answered came by its answer. -/
theorem exec_cases {c : Instr} {s t : State} (h : exec c s = .next t) :
    t = s ∨ ∃ a v, PortRun c s a ∧ (v = a ∨ Effect c a v) ∧ (t = v.settle ∨ ∃ code, t = (v.setLast code).settle) := by
  rcases exec_means c s with he | ⟨a, v, u, he, ha, hv, hu⟩
  · rw [h, Host.Outcome.next.injEq] at he
    exact .inl he
  · rw [h] at he
    have ht : t = u.settle := done_eq_next.mp he.symm
    rcases hu with rfl | ⟨code, rfl⟩
    · exact .inr ⟨a, u, ha, hv, .inl ht⟩
    · exact .inr ⟨a, v, ha, hv, .inr ⟨code, ht⟩⟩

/-! ### Steps -/

/-- Settles O1: the definition of a step, at a queue that is not empty. -/
theorem stepExecutesTheFrontCommand : Obligations.StepExecutesTheFrontCommand := by
  intro c rest s h
  rw [step, h]

/-- What a step does: a tick at an empty queue, the front command otherwise. -/
theorem step_cases {s t : State} (h : step s = .next t) :
    (s.pending = [] ∧ t = s.tick) ∨ ∃ c rest, s.pending = c :: rest ∧ exec c (s.setPending rest) = .next t := by
  cases hp : s.pending with
  | nil =>
    rw [step, hp, Host.Outcome.next.injEq] at h
    exact .inl ⟨rfl, h.symm⟩
  | cons c rest =>
    rw [stepExecutesTheFrontCommand c rest s hp] at h
    exact .inr ⟨c, rest, rfl, h⟩

end Sys2Proof.Machine
end

section
/-! What the shared operations leave alone, field by field (the simp set that the frames of Laws/Ops.lean give), the tick's
counts, and the induction over steps for the invariants. -/

namespace Sys2Proof.Machine

/-! ### Fields under the shared operations -/

@[simp] theorem settle_cfg (s : State) : (s.settle).cfg = s.cfg := ((frame_settle s).cfg_eq rfl)
@[simp] theorem settle_lif (s : State) : (s.settle).lif = s.lif := ((frame_settle s).lif_eq rfl)
@[simp] theorem settle_mbr (s : State) : (s.settle).mbr = s.mbr := ((frame_settle s).mbr_eq rfl)
@[simp] theorem settle_slots (s : State) : (s.settle).slots = s.slots := ((frame_settle s).slots_eq rfl)
@[simp] theorem settle_flg (s : State) : (s.settle).flg = s.flg := ((frame_settle s).flg_eq rfl)
@[simp] theorem settle_hlt (s : State) : (s.settle).hlt = s.hlt := ((frame_settle s).hlt_eq rfl)
@[simp] theorem settle_pin (s : State) : (s.settle).pin = s.pin := ((frame_settle s).pin_eq rfl)
@[simp] theorem settle_log (s : State) : (s.settle).log = s.log := ((frame_settle s).log_eq rfl)
@[simp] theorem settle_bus (s : State) : (s.settle).bus = s.bus := ((frame_settle s).bus_eq rfl)
@[simp] theorem settle_spi (s : State) : (s.settle).spi = s.spi := ((frame_settle s).spi_eq rfl)
@[simp] theorem settle_pending (s : State) : (s.settle).pending = s.pending := ((frame_settle s).pending_eq rfl)
@[simp] theorem slot_settle (s : State) (j : SlotNo) : (s.settle).slot j = s.slot j := by simp [State.slot]
@[simp] theorem input_settle (s : State) (j : Fin 4) : (s.settle).input j = s.input j := by simp [State.input]
@[simp] theorem inputCfg_settle (s : State) (j : Fin 4) : (s.settle).inputCfg j = s.inputCfg j := by simp [State.inputCfg]

@[simp] theorem raise_cfg (s : State) (e : Event) : (s.raise e).cfg = s.cfg := ((frame_raise s e).cfg_eq rfl)
@[simp] theorem raise_lif (s : State) (e : Event) : (s.raise e).lif = s.lif := ((frame_raise s e).lif_eq rfl)
@[simp] theorem raise_rnd (s : State) (e : Event) : (s.raise e).rnd = s.rnd := ((frame_raise s e).rnd_eq rfl)
@[simp] theorem raise_mbr (s : State) (e : Event) : (s.raise e).mbr = s.mbr := ((frame_raise s e).mbr_eq rfl)
@[simp] theorem raise_slots (s : State) (e : Event) : (s.raise e).slots = s.slots := ((frame_raise s e).slots_eq rfl)
@[simp] theorem raise_flg (s : State) (e : Event) : (s.raise e).flg = s.flg := ((frame_raise s e).flg_eq rfl)
@[simp] theorem raise_hlt (s : State) (e : Event) : (s.raise e).hlt = s.hlt := ((frame_raise s e).hlt_eq rfl)
@[simp] theorem raise_pin (s : State) (e : Event) : (s.raise e).pin = s.pin := ((frame_raise s e).pin_eq rfl)
@[simp] theorem raise_log (s : State) (e : Event) : (s.raise e).log = s.log := ((frame_raise s e).log_eq rfl)
@[simp] theorem raise_cmd (s : State) (e : Event) : (s.raise e).cmd = s.cmd := ((frame_raise s e).cmd_eq rfl)
@[simp] theorem raise_tsc (s : State) (e : Event) : (s.raise e).tsc = s.tsc := ((frame_raise s e).tsc_eq rfl)
@[simp] theorem raise_bus (s : State) (e : Event) : (s.raise e).bus = s.bus := ((frame_raise s e).bus_eq rfl)
@[simp] theorem raise_spi (s : State) (e : Event) : (s.raise e).spi = s.spi := ((frame_raise s e).spi_eq rfl)
@[simp] theorem raise_pending (s : State) (e : Event) : (s.raise e).pending = s.pending := ((frame_raise s e).pending_eq rfl)
@[simp] theorem slot_raise (s : State) (e : Event) (j : SlotNo) : (s.raise e).slot j = s.slot j := by simp [State.slot]
@[simp] theorem input_raise (s : State) (e : Event) (j : Fin 4) : (s.raise e).input j = s.input j := by simp [State.input]
@[simp] theorem inputCfg_raise (s : State) (e : Event) (j : Fin 4) : (s.raise e).inputCfg j = s.inputCfg j := by simp [State.inputCfg]

@[simp] theorem offer_cfg (s : State) (k : Kind) (n : Fin 32) (tag : Byte) (set : Set32) (v : Half) : (s.offer k n tag set v).cfg = s.cfg := ((frame_offer s k n tag set v).cfg_eq rfl)
@[simp] theorem offer_lif (s : State) (k : Kind) (n : Fin 32) (tag : Byte) (set : Set32) (v : Half) : (s.offer k n tag set v).lif = s.lif := ((frame_offer s k n tag set v).lif_eq rfl)
@[simp] theorem offer_rnd (s : State) (k : Kind) (n : Fin 32) (tag : Byte) (set : Set32) (v : Half) : (s.offer k n tag set v).rnd = s.rnd := ((frame_offer s k n tag set v).rnd_eq rfl)
@[simp] theorem offer_mbr (s : State) (k : Kind) (n : Fin 32) (tag : Byte) (set : Set32) (v : Half) : (s.offer k n tag set v).mbr = s.mbr := ((frame_offer s k n tag set v).mbr_eq rfl)
@[simp] theorem offer_slots (s : State) (k : Kind) (n : Fin 32) (tag : Byte) (set : Set32) (v : Half) : (s.offer k n tag set v).slots = s.slots := ((frame_offer s k n tag set v).slots_eq rfl)
@[simp] theorem offer_flg (s : State) (k : Kind) (n : Fin 32) (tag : Byte) (set : Set32) (v : Half) : (s.offer k n tag set v).flg = s.flg := ((frame_offer s k n tag set v).flg_eq rfl)
@[simp] theorem offer_hlt (s : State) (k : Kind) (n : Fin 32) (tag : Byte) (set : Set32) (v : Half) : (s.offer k n tag set v).hlt = s.hlt := ((frame_offer s k n tag set v).hlt_eq rfl)
@[simp] theorem offer_pin (s : State) (k : Kind) (n : Fin 32) (tag : Byte) (set : Set32) (v : Half) : (s.offer k n tag set v).pin = s.pin := ((frame_offer s k n tag set v).pin_eq rfl)
@[simp] theorem offer_cmd (s : State) (k : Kind) (n : Fin 32) (tag : Byte) (set : Set32) (v : Half) : (s.offer k n tag set v).cmd = s.cmd := ((frame_offer s k n tag set v).cmd_eq rfl)
@[simp] theorem offer_tsc (s : State) (k : Kind) (n : Fin 32) (tag : Byte) (set : Set32) (v : Half) : (s.offer k n tag set v).tsc = s.tsc := ((frame_offer s k n tag set v).tsc_eq rfl)
@[simp] theorem offer_bus (s : State) (k : Kind) (n : Fin 32) (tag : Byte) (set : Set32) (v : Half) : (s.offer k n tag set v).bus = s.bus := ((frame_offer s k n tag set v).bus_eq rfl)
@[simp] theorem offer_spi (s : State) (k : Kind) (n : Fin 32) (tag : Byte) (set : Set32) (v : Half) : (s.offer k n tag set v).spi = s.spi := ((frame_offer s k n tag set v).spi_eq rfl)
@[simp] theorem offer_pending (s : State) (k : Kind) (n : Fin 32) (tag : Byte) (set : Set32) (v : Half) : (s.offer k n tag set v).pending = s.pending := ((frame_offer s k n tag set v).pending_eq rfl)
@[simp] theorem slot_offer (s : State) (k : Kind) (n : Fin 32) (tag : Byte) (set : Set32) (v : Half) (j : SlotNo) : (s.offer k n tag set v).slot j = s.slot j := by simp [State.slot]
@[simp] theorem input_offer (s : State) (k : Kind) (n : Fin 32) (tag : Byte) (set : Set32) (v : Half) (j : Fin 4) : (s.offer k n tag set v).input j = s.input j := by simp [State.input]
@[simp] theorem inputCfg_offer (s : State) (k : Kind) (n : Fin 32) (tag : Byte) (set : Set32) (v : Half) (j : Fin 4) : (s.offer k n tag set v).inputCfg j = s.inputCfg j := by simp [State.inputCfg]

@[simp] theorem raiseSlot_cfg (s : State) (i : SlotNo) : (s.raiseSlot i).cfg = s.cfg := ((frame_raiseSlot s i).cfg_eq rfl)
@[simp] theorem raiseSlot_lif (s : State) (i : SlotNo) : (s.raiseSlot i).lif = s.lif := ((frame_raiseSlot s i).lif_eq rfl)
@[simp] theorem raiseSlot_rnd (s : State) (i : SlotNo) : (s.raiseSlot i).rnd = s.rnd := ((frame_raiseSlot s i).rnd_eq rfl)
@[simp] theorem raiseSlot_mbr (s : State) (i : SlotNo) : (s.raiseSlot i).mbr = s.mbr := ((frame_raiseSlot s i).mbr_eq rfl)
@[simp] theorem raiseSlot_slots (s : State) (i : SlotNo) : (s.raiseSlot i).slots = s.slots := ((frame_raiseSlot s i).slots_eq rfl)
@[simp] theorem raiseSlot_flg (s : State) (i : SlotNo) : (s.raiseSlot i).flg = s.flg := ((frame_raiseSlot s i).flg_eq rfl)
@[simp] theorem raiseSlot_hlt (s : State) (i : SlotNo) : (s.raiseSlot i).hlt = s.hlt := ((frame_raiseSlot s i).hlt_eq rfl)
@[simp] theorem raiseSlot_pin (s : State) (i : SlotNo) : (s.raiseSlot i).pin = s.pin := ((frame_raiseSlot s i).pin_eq rfl)
@[simp] theorem raiseSlot_log (s : State) (i : SlotNo) : (s.raiseSlot i).log = s.log := ((frame_raiseSlot s i).log_eq rfl)
@[simp] theorem raiseSlot_cmd (s : State) (i : SlotNo) : (s.raiseSlot i).cmd = s.cmd := ((frame_raiseSlot s i).cmd_eq rfl)
@[simp] theorem raiseSlot_tsc (s : State) (i : SlotNo) : (s.raiseSlot i).tsc = s.tsc := ((frame_raiseSlot s i).tsc_eq rfl)
@[simp] theorem raiseSlot_bus (s : State) (i : SlotNo) : (s.raiseSlot i).bus = s.bus := ((frame_raiseSlot s i).bus_eq rfl)
@[simp] theorem raiseSlot_spi (s : State) (i : SlotNo) : (s.raiseSlot i).spi = s.spi := ((frame_raiseSlot s i).spi_eq rfl)
@[simp] theorem raiseSlot_pending (s : State) (i : SlotNo) : (s.raiseSlot i).pending = s.pending := ((frame_raiseSlot s i).pending_eq rfl)
@[simp] theorem slot_raiseSlot (s : State) (i : SlotNo) (j : SlotNo) : (s.raiseSlot i).slot j = s.slot j := by simp [State.slot]
@[simp] theorem input_raiseSlot (s : State) (i : SlotNo) (j : Fin 4) : (s.raiseSlot i).input j = s.input j := by simp [State.input]
@[simp] theorem inputCfg_raiseSlot (s : State) (i : SlotNo) (j : Fin 4) : (s.raiseSlot i).inputCfg j = s.inputCfg j := by simp [State.inputCfg]

@[simp] theorem offerSlot_cfg (s : State) (i : SlotNo) (k : Kind) (tag : Byte) (set : Set32) (v : Half) : (s.offerSlot i k tag set v).cfg = s.cfg := ((frame_offerSlot s i k tag set v).cfg_eq rfl)
@[simp] theorem offerSlot_lif (s : State) (i : SlotNo) (k : Kind) (tag : Byte) (set : Set32) (v : Half) : (s.offerSlot i k tag set v).lif = s.lif := ((frame_offerSlot s i k tag set v).lif_eq rfl)
@[simp] theorem offerSlot_rnd (s : State) (i : SlotNo) (k : Kind) (tag : Byte) (set : Set32) (v : Half) : (s.offerSlot i k tag set v).rnd = s.rnd := ((frame_offerSlot s i k tag set v).rnd_eq rfl)
@[simp] theorem offerSlot_mbr (s : State) (i : SlotNo) (k : Kind) (tag : Byte) (set : Set32) (v : Half) : (s.offerSlot i k tag set v).mbr = s.mbr := ((frame_offerSlot s i k tag set v).mbr_eq rfl)
@[simp] theorem offerSlot_slots (s : State) (i : SlotNo) (k : Kind) (tag : Byte) (set : Set32) (v : Half) : (s.offerSlot i k tag set v).slots = s.slots := ((frame_offerSlot s i k tag set v).slots_eq rfl)
@[simp] theorem offerSlot_flg (s : State) (i : SlotNo) (k : Kind) (tag : Byte) (set : Set32) (v : Half) : (s.offerSlot i k tag set v).flg = s.flg := ((frame_offerSlot s i k tag set v).flg_eq rfl)
@[simp] theorem offerSlot_hlt (s : State) (i : SlotNo) (k : Kind) (tag : Byte) (set : Set32) (v : Half) : (s.offerSlot i k tag set v).hlt = s.hlt := ((frame_offerSlot s i k tag set v).hlt_eq rfl)
@[simp] theorem offerSlot_pin (s : State) (i : SlotNo) (k : Kind) (tag : Byte) (set : Set32) (v : Half) : (s.offerSlot i k tag set v).pin = s.pin := ((frame_offerSlot s i k tag set v).pin_eq rfl)
@[simp] theorem offerSlot_cmd (s : State) (i : SlotNo) (k : Kind) (tag : Byte) (set : Set32) (v : Half) : (s.offerSlot i k tag set v).cmd = s.cmd := ((frame_offerSlot s i k tag set v).cmd_eq rfl)
@[simp] theorem offerSlot_tsc (s : State) (i : SlotNo) (k : Kind) (tag : Byte) (set : Set32) (v : Half) : (s.offerSlot i k tag set v).tsc = s.tsc := ((frame_offerSlot s i k tag set v).tsc_eq rfl)
@[simp] theorem offerSlot_bus (s : State) (i : SlotNo) (k : Kind) (tag : Byte) (set : Set32) (v : Half) : (s.offerSlot i k tag set v).bus = s.bus := ((frame_offerSlot s i k tag set v).bus_eq rfl)
@[simp] theorem offerSlot_spi (s : State) (i : SlotNo) (k : Kind) (tag : Byte) (set : Set32) (v : Half) : (s.offerSlot i k tag set v).spi = s.spi := ((frame_offerSlot s i k tag set v).spi_eq rfl)
@[simp] theorem offerSlot_pending (s : State) (i : SlotNo) (k : Kind) (tag : Byte) (set : Set32) (v : Half) : (s.offerSlot i k tag set v).pending = s.pending := ((frame_offerSlot s i k tag set v).pending_eq rfl)
@[simp] theorem slot_offerSlot (s : State) (i : SlotNo) (k : Kind) (tag : Byte) (set : Set32) (v : Half) (j : SlotNo) : (s.offerSlot i k tag set v).slot j = s.slot j := by simp [State.slot]
@[simp] theorem input_offerSlot (s : State) (i : SlotNo) (k : Kind) (tag : Byte) (set : Set32) (v : Half) (j : Fin 4) : (s.offerSlot i k tag set v).input j = s.input j := by simp [State.input]
@[simp] theorem inputCfg_offerSlot (s : State) (i : SlotNo) (k : Kind) (tag : Byte) (set : Set32) (v : Half) (j : Fin 4) : (s.offerSlot i k tag set v).inputCfg j = s.inputCfg j := by simp [State.inputCfg]

@[simp] theorem disarm_cfg (s : State) (k : Fin 4) : (s.disarm k).cfg = s.cfg := ((frame_disarm s k).cfg_eq rfl)
@[simp] theorem disarm_lif (s : State) (k : Fin 4) : (s.disarm k).lif = s.lif := ((frame_disarm s k).lif_eq rfl)
@[simp] theorem disarm_rnd (s : State) (k : Fin 4) : (s.disarm k).rnd = s.rnd := ((frame_disarm s k).rnd_eq rfl)
@[simp] theorem disarm_mbr (s : State) (k : Fin 4) : (s.disarm k).mbr = s.mbr := ((frame_disarm s k).mbr_eq rfl)
@[simp] theorem disarm_slots (s : State) (k : Fin 4) : (s.disarm k).slots = s.slots := ((frame_disarm s k).slots_eq rfl)
@[simp] theorem disarm_flg (s : State) (k : Fin 4) : (s.disarm k).flg = s.flg := ((frame_disarm s k).flg_eq rfl)
@[simp] theorem disarm_hlt (s : State) (k : Fin 4) : (s.disarm k).hlt = s.hlt := ((frame_disarm s k).hlt_eq rfl)
@[simp] theorem disarm_log (s : State) (k : Fin 4) : (s.disarm k).log = s.log := ((frame_disarm s k).log_eq rfl)
@[simp] theorem disarm_ntf (s : State) (k : Fin 4) : (s.disarm k).ntf = s.ntf := ((frame_disarm s k).ntf_eq rfl)
@[simp] theorem disarm_cmd (s : State) (k : Fin 4) : (s.disarm k).cmd = s.cmd := ((frame_disarm s k).cmd_eq rfl)
@[simp] theorem disarm_tsc (s : State) (k : Fin 4) : (s.disarm k).tsc = s.tsc := ((frame_disarm s k).tsc_eq rfl)
@[simp] theorem disarm_bus (s : State) (k : Fin 4) : (s.disarm k).bus = s.bus := ((frame_disarm s k).bus_eq rfl)
@[simp] theorem disarm_spi (s : State) (k : Fin 4) : (s.disarm k).spi = s.spi := ((frame_disarm s k).spi_eq rfl)
@[simp] theorem disarm_pending (s : State) (k : Fin 4) : (s.disarm k).pending = s.pending := ((frame_disarm s k).pending_eq rfl)
@[simp] theorem slot_disarm (s : State) (k : Fin 4) (j : SlotNo) : (s.disarm k).slot j = s.slot j := by simp [State.slot]

@[simp] theorem disarmSource_cfg (s : State) (a : Option Arrival) : (s.disarmSource a).cfg = s.cfg := ((frame_disarmSource s a).cfg_eq rfl)
@[simp] theorem disarmSource_lif (s : State) (a : Option Arrival) : (s.disarmSource a).lif = s.lif := ((frame_disarmSource s a).lif_eq rfl)
@[simp] theorem disarmSource_rnd (s : State) (a : Option Arrival) : (s.disarmSource a).rnd = s.rnd := ((frame_disarmSource s a).rnd_eq rfl)
@[simp] theorem disarmSource_mbr (s : State) (a : Option Arrival) : (s.disarmSource a).mbr = s.mbr := ((frame_disarmSource s a).mbr_eq rfl)
@[simp] theorem disarmSource_slots (s : State) (a : Option Arrival) : (s.disarmSource a).slots = s.slots := ((frame_disarmSource s a).slots_eq rfl)
@[simp] theorem disarmSource_flg (s : State) (a : Option Arrival) : (s.disarmSource a).flg = s.flg := ((frame_disarmSource s a).flg_eq rfl)
@[simp] theorem disarmSource_hlt (s : State) (a : Option Arrival) : (s.disarmSource a).hlt = s.hlt := ((frame_disarmSource s a).hlt_eq rfl)
@[simp] theorem disarmSource_log (s : State) (a : Option Arrival) : (s.disarmSource a).log = s.log := ((frame_disarmSource s a).log_eq rfl)
@[simp] theorem disarmSource_ntf (s : State) (a : Option Arrival) : (s.disarmSource a).ntf = s.ntf := ((frame_disarmSource s a).ntf_eq rfl)
@[simp] theorem disarmSource_cmd (s : State) (a : Option Arrival) : (s.disarmSource a).cmd = s.cmd := ((frame_disarmSource s a).cmd_eq rfl)
@[simp] theorem disarmSource_tsc (s : State) (a : Option Arrival) : (s.disarmSource a).tsc = s.tsc := ((frame_disarmSource s a).tsc_eq rfl)
@[simp] theorem disarmSource_bus (s : State) (a : Option Arrival) : (s.disarmSource a).bus = s.bus := ((frame_disarmSource s a).bus_eq rfl)
@[simp] theorem disarmSource_spi (s : State) (a : Option Arrival) : (s.disarmSource a).spi = s.spi := ((frame_disarmSource s a).spi_eq rfl)
@[simp] theorem disarmSource_pending (s : State) (a : Option Arrival) : (s.disarmSource a).pending = s.pending := ((frame_disarmSource s a).pending_eq rfl)
@[simp] theorem slot_disarmSource (s : State) (a : Option Arrival) (j : SlotNo) : (s.disarmSource a).slot j = s.slot j := by simp [State.slot]

@[simp] theorem place_cfg (s : State) (c : Class) (n : Fin 32) : (s.place c n).cfg = s.cfg := ((frame_place s c n).cfg_eq rfl)
@[simp] theorem place_lif (s : State) (c : Class) (n : Fin 32) : (s.place c n).lif = s.lif := ((frame_place s c n).lif_eq rfl)
@[simp] theorem place_mbr (s : State) (c : Class) (n : Fin 32) : (s.place c n).mbr = s.mbr := ((frame_place s c n).mbr_eq rfl)
@[simp] theorem place_slots (s : State) (c : Class) (n : Fin 32) : (s.place c n).slots = s.slots := ((frame_place s c n).slots_eq rfl)
@[simp] theorem place_flg (s : State) (c : Class) (n : Fin 32) : (s.place c n).flg = s.flg := ((frame_place s c n).flg_eq rfl)
@[simp] theorem place_hlt (s : State) (c : Class) (n : Fin 32) : (s.place c n).hlt = s.hlt := ((frame_place s c n).hlt_eq rfl)
@[simp] theorem place_pin (s : State) (c : Class) (n : Fin 32) : (s.place c n).pin = s.pin := ((frame_place s c n).pin_eq rfl)
@[simp] theorem place_log (s : State) (c : Class) (n : Fin 32) : (s.place c n).log = s.log := ((frame_place s c n).log_eq rfl)
@[simp] theorem place_ntf (s : State) (c : Class) (n : Fin 32) : (s.place c n).ntf = s.ntf := ((frame_place s c n).ntf_eq rfl)
@[simp] theorem place_cmd (s : State) (c : Class) (n : Fin 32) : (s.place c n).cmd = s.cmd := ((frame_place s c n).cmd_eq rfl)
@[simp] theorem place_tsc (s : State) (c : Class) (n : Fin 32) : (s.place c n).tsc = s.tsc := ((frame_place s c n).tsc_eq rfl)
@[simp] theorem place_bus (s : State) (c : Class) (n : Fin 32) : (s.place c n).bus = s.bus := ((frame_place s c n).bus_eq rfl)
@[simp] theorem place_spi (s : State) (c : Class) (n : Fin 32) : (s.place c n).spi = s.spi := ((frame_place s c n).spi_eq rfl)
@[simp] theorem place_pending (s : State) (c : Class) (n : Fin 32) : (s.place c n).pending = s.pending := ((frame_place s c n).pending_eq rfl)
@[simp] theorem slot_place (s : State) (c : Class) (n : Fin 32) (j : SlotNo) : (s.place c n).slot j = s.slot j := by simp [State.slot]
@[simp] theorem input_place (s : State) (c : Class) (n : Fin 32) (j : Fin 4) : (s.place c n).input j = s.input j := by simp [State.input]
@[simp] theorem inputCfg_place (s : State) (c : Class) (n : Fin 32) (j : Fin 4) : (s.place c n).inputCfg j = s.inputCfg j := by simp [State.inputCfg]

@[simp] theorem remove_cfg (s : State) (c : Class) (n : Fin 32) : (s.remove c n).cfg = s.cfg := ((frame_remove s c n).cfg_eq rfl)
@[simp] theorem remove_lif (s : State) (c : Class) (n : Fin 32) : (s.remove c n).lif = s.lif := ((frame_remove s c n).lif_eq rfl)
@[simp] theorem remove_mbr (s : State) (c : Class) (n : Fin 32) : (s.remove c n).mbr = s.mbr := ((frame_remove s c n).mbr_eq rfl)
@[simp] theorem remove_slots (s : State) (c : Class) (n : Fin 32) : (s.remove c n).slots = s.slots := ((frame_remove s c n).slots_eq rfl)
@[simp] theorem remove_flg (s : State) (c : Class) (n : Fin 32) : (s.remove c n).flg = s.flg := ((frame_remove s c n).flg_eq rfl)
@[simp] theorem remove_hlt (s : State) (c : Class) (n : Fin 32) : (s.remove c n).hlt = s.hlt := ((frame_remove s c n).hlt_eq rfl)
@[simp] theorem remove_pin (s : State) (c : Class) (n : Fin 32) : (s.remove c n).pin = s.pin := ((frame_remove s c n).pin_eq rfl)
@[simp] theorem remove_log (s : State) (c : Class) (n : Fin 32) : (s.remove c n).log = s.log := ((frame_remove s c n).log_eq rfl)
@[simp] theorem remove_ntf (s : State) (c : Class) (n : Fin 32) : (s.remove c n).ntf = s.ntf := ((frame_remove s c n).ntf_eq rfl)
@[simp] theorem remove_cmd (s : State) (c : Class) (n : Fin 32) : (s.remove c n).cmd = s.cmd := ((frame_remove s c n).cmd_eq rfl)
@[simp] theorem remove_tsc (s : State) (c : Class) (n : Fin 32) : (s.remove c n).tsc = s.tsc := ((frame_remove s c n).tsc_eq rfl)
@[simp] theorem remove_bus (s : State) (c : Class) (n : Fin 32) : (s.remove c n).bus = s.bus := ((frame_remove s c n).bus_eq rfl)
@[simp] theorem remove_spi (s : State) (c : Class) (n : Fin 32) : (s.remove c n).spi = s.spi := ((frame_remove s c n).spi_eq rfl)
@[simp] theorem remove_pending (s : State) (c : Class) (n : Fin 32) : (s.remove c n).pending = s.pending := ((frame_remove s c n).pending_eq rfl)
@[simp] theorem slot_remove (s : State) (c : Class) (n : Fin 32) (j : SlotNo) : (s.remove c n).slot j = s.slot j := by simp [State.slot]
@[simp] theorem input_remove (s : State) (c : Class) (n : Fin 32) (j : Fin 4) : (s.remove c n).input j = s.input j := by simp [State.input]
@[simp] theorem inputCfg_remove (s : State) (c : Class) (n : Fin 32) (j : Fin 4) : (s.remove c n).inputCfg j = s.inputCfg j := by simp [State.inputCfg]

@[simp] theorem zeroVoids_cfg (s : State) (c : Class) (n : Fin 32) : (s.zeroVoids c n).cfg = s.cfg := ((frame_zeroVoids s c n).cfg_eq rfl)
@[simp] theorem zeroVoids_lif (s : State) (c : Class) (n : Fin 32) : (s.zeroVoids c n).lif = s.lif := ((frame_zeroVoids s c n).lif_eq rfl)
@[simp] theorem zeroVoids_mbr (s : State) (c : Class) (n : Fin 32) : (s.zeroVoids c n).mbr = s.mbr := ((frame_zeroVoids s c n).mbr_eq rfl)
@[simp] theorem zeroVoids_slots (s : State) (c : Class) (n : Fin 32) : (s.zeroVoids c n).slots = s.slots := ((frame_zeroVoids s c n).slots_eq rfl)
@[simp] theorem zeroVoids_flg (s : State) (c : Class) (n : Fin 32) : (s.zeroVoids c n).flg = s.flg := ((frame_zeroVoids s c n).flg_eq rfl)
@[simp] theorem zeroVoids_hlt (s : State) (c : Class) (n : Fin 32) : (s.zeroVoids c n).hlt = s.hlt := ((frame_zeroVoids s c n).hlt_eq rfl)
@[simp] theorem zeroVoids_pin (s : State) (c : Class) (n : Fin 32) : (s.zeroVoids c n).pin = s.pin := ((frame_zeroVoids s c n).pin_eq rfl)
@[simp] theorem zeroVoids_log (s : State) (c : Class) (n : Fin 32) : (s.zeroVoids c n).log = s.log := ((frame_zeroVoids s c n).log_eq rfl)
@[simp] theorem zeroVoids_ntf (s : State) (c : Class) (n : Fin 32) : (s.zeroVoids c n).ntf = s.ntf := ((frame_zeroVoids s c n).ntf_eq rfl)
@[simp] theorem zeroVoids_cmd (s : State) (c : Class) (n : Fin 32) : (s.zeroVoids c n).cmd = s.cmd := ((frame_zeroVoids s c n).cmd_eq rfl)
@[simp] theorem zeroVoids_tsc (s : State) (c : Class) (n : Fin 32) : (s.zeroVoids c n).tsc = s.tsc := ((frame_zeroVoids s c n).tsc_eq rfl)
@[simp] theorem zeroVoids_bus (s : State) (c : Class) (n : Fin 32) : (s.zeroVoids c n).bus = s.bus := ((frame_zeroVoids s c n).bus_eq rfl)
@[simp] theorem zeroVoids_spi (s : State) (c : Class) (n : Fin 32) : (s.zeroVoids c n).spi = s.spi := ((frame_zeroVoids s c n).spi_eq rfl)
@[simp] theorem zeroVoids_pending (s : State) (c : Class) (n : Fin 32) : (s.zeroVoids c n).pending = s.pending := ((frame_zeroVoids s c n).pending_eq rfl)
@[simp] theorem slot_zeroVoids (s : State) (c : Class) (n : Fin 32) (j : SlotNo) : (s.zeroVoids c n).slot j = s.slot j := by simp [State.slot]
@[simp] theorem input_zeroVoids (s : State) (c : Class) (n : Fin 32) (j : Fin 4) : (s.zeroVoids c n).input j = s.input j := by simp [State.input]
@[simp] theorem inputCfg_zeroVoids (s : State) (c : Class) (n : Fin 32) (j : Fin 4) : (s.zeroVoids c n).inputCfg j = s.inputCfg j := by simp [State.inputCfg]

@[simp] theorem place_requests (s : State) (c : Class) (n : Fin 32) :
    (s.place c n).rnd = { s.rnd with requests := placeEntry s.rnd.requests c n } := rfl
@[simp] theorem remove_requests (s : State) (c : Class) (n : Fin 32) :
    (s.remove c n).rnd = { s.rnd with requests := removeEntry s.rnd.requests c n } := rfl
@[simp] theorem zeroVoids_requests (s : State) (c : Class) (n : Fin 32) :
    (s.zeroVoids c n).rnd = { s.rnd with requests := setVoids s.rnd.requests c n 0 } := rfl

/-- Disarming touches the running state of inputs alone (R144). -/
@[simp] theorem disarm_pinCfg (s : State) (k : Fin 4) : (s.disarm k).pin.cfg = s.pin.cfg := by
  unfold State.disarm
  split <;> rfl

@[simp] theorem disarmSource_pinCfg (s : State) (a : Option Arrival) : (s.disarmSource a).pin.cfg = s.pin.cfg := by
  unfold State.disarmSource
  split
  · exact disarm_pinCfg s _
  · rfl

/-! ### The tick -/

@[simp] theorem getElem_mapAll {α β : Type} {n : Nat} (f : α → β) (v : Vector α n) (i : Nat) (h : i < n) :
    (mapAll f v)[i] = f v[i] := by
  simp [mapAll]

/-- The levels from outside as a tick begins, and the port's part of it. -/
def State.tickBegun (s : State) : State := (s.setBus s.bus.advance).clockPort

theorem frame_tickBegun (s : State) : Frame [.cmd, .log, .bus, .spi] s s.tickBegun :=
  (frame_setBus s _).then (frame_clockPort _) (by simp) (by simp)

/-- What passes with a tick's time: the blocks count, or in SLEEP the start detector looks at the lines, or, in the internal
reset, nothing more. -/
theorem tick_cases (s : State) :
    (s.Running ∧ s.tick = s.tickBegun.runTick) ∨ (s.tsc.power = .sleep ∧ s.tsc.inReset = false ∧ s.tick = s.tickBegun.sleepTick)
      ∨ s.tsc.inReset = true ∧ s.tick = s.tickBegun := by
  have htsc : s.tickBegun.tsc = s.tsc := ((frame_tickBegun s).tsc_eq rfl)
  have hrun : s.tickBegun.Running ↔ s.Running := by simp only [State.Running, htsc]
  have htick : s.tick = if s.tickBegun.Running then s.tickBegun.runTick
      else if s.tickBegun.tsc.power = .sleep ∧ s.tickBegun.tsc.inReset = false then s.tickBegun.sleepTick
      else s.tickBegun := rfl
  rw [htick]
  by_cases h : s.Running
  · exact .inl ⟨h, if_pos (hrun.mpr h)⟩
  · rw [if_neg (mt hrun.mp h), htsc]
    by_cases h' : s.tsc.power = .sleep ∧ s.tsc.inReset = false
    · exact .inr (.inl ⟨h'.1, h'.2, if_pos h'⟩)
    · refine .inr (.inr ⟨?_, if_neg h'⟩)
      cases hp : s.tsc.power <;> cases hr : s.tsc.inReset <;> simp_all [State.Running]

/-- What the counts of a tick change (R177): the line interface to what its filters and timers make of it, the timers of
inputs, outputs, slots and of the roll, and the timebase. -/
structure Counted (s t : State) : Prop where
  lif : t.lif = s.lifAfter
  pinCfg : t.pin.cfg = s.pin.cfg
  inputs : ∀ i, t.input i = (s.input i).count
  outputs : ∀ o, t.output o = (s.output o).count
  mbr : t.mbr = { s.mbr with rollTimer := t.mbr.rollTimer }
  slots : ∀ i, t.slot i = { s.slot i with timer := (t.slot i).timer }
  frame : Frame [.lif, .pin, .tsc, .mbr, .slots] s t

theorem Slot.count_eq (x : Slot) : x.count = { x with timer := x.count.timer } := by
  unfold Slot.count
  split <;> rfl

/-- What a tick counts of the lines and of the pins. -/
theorem frame_everyTick (s : State) : Frame [.lif, .pin] s ((s.setLif s.lifAfter).setPin
    { s.pin with inputs := mapAll Input.count s.pin.inputs, outputs := mapAll Output.count s.pin.outputs }) :=
  (frame_setLif s _).then (frame_setPin _ _) (by simp) (by simp)

theorem frame_countMicro (s : State) : Frame [.tsc, .mbr, .slots] s s.countMicro :=
  (frame_setTsc s _).then ((frame_setMbr _ _).then (frame_setSlots _ _) (c := [.mbr, .slots]) (by simp) (by simp)) (by simp)
    (by simp)

theorem countTick_counted (s : State) : Counted s s.countTick.1 := by
  unfold State.countTick
  dsimp only
  split
  · exact
      { lif := rfl, pinCfg := rfl, mbr := rfl, slots := fun _ => rfl
        inputs := fun i => getElem_mapAll _ _ _ _
        outputs := fun o => getElem_mapAll _ _ _ _
        frame := (frame_everyTick s).then (frame_setTsc _ _) (by simp) (by simp) }
  · have hslot : ∀ (u : State) (i : SlotNo), u.countMicro.slot i = (u.slot i).count := fun u i => getElem_mapAll _ _ _ _
    exact
      { lif := rfl, pinCfg := rfl, mbr := rfl
        slots := fun i => by rw [hslot]; exact Slot.count_eq _
        inputs := fun i => getElem_mapAll _ _ _ _
        outputs := fun o => getElem_mapAll _ _ _ _
        frame := (frame_everyTick s).then (frame_countMicro _) (by simp) (by simp) }

/-! ### The induction over steps -/

/-- The blocks that the port, the queue, the levels from outside and the timebase make up: no invariant of the others looks
at them. -/
def outerBlocks : List Block := [.cmd, .log, .tsc, .bus, .spi, .pending]

/-- A property of the inner blocks that the counts of a tick, the look at the lines in SLEEP and every effect of a row keep, is
kept by every step. -/
theorem step_keeps {P : State → Prop} (houter : ∀ s t, Frame outerBlocks s t → P s → P t)
    (hcount : ∀ s t, Counted s t → P s → P t)
    (hlook : ∀ s stb dat, P s → P (s.setLif { s.lif with stbPin := stb, datPin := dat }))
    (heffect : ∀ c s t, Effect c s t → P s → P t) {s t : State} (hs : P s) (h : step s = .next t) : P t := by
  rcases step_cases h with ⟨_, rfl⟩ | ⟨c, rest, _, he⟩
  · have hb : P s.tickBegun := houter _ _ ((frame_tickBegun s).mono (by simp [outerBlocks])) hs
    rcases tick_cases s with ⟨_, ht⟩ | ⟨_, _, ht⟩ | ⟨_, ht⟩
    · rw [ht]
      refine houter _ _ ?_ (hcount _ _ (countTick_counted s.tickBegun) hb)
      exact (frame_setPending _ _).then (frame_settle _) (by simp [outerBlocks]) (by simp [outerBlocks])
    · rw [ht]
      exact houter _ _ ((frame_setPending _ _).mono (by simp [outerBlocks])) (hlook _ _ _ hb)
    · rwa [ht]
  · have hp : P (s.setPending rest) := houter _ _ ((frame_setPending s rest).mono (by simp [outerBlocks])) hs
    rcases exec_cases he with rfl | ⟨a, v, ha, hv, ht⟩
    · exact hp
    · have hP : P a := houter _ _ (ha.frame.mono (by simp [outerBlocks])) hp
      have hV : P v := hv.elim (fun e => e ▸ hP) fun e => heffect _ _ _ e hP
      rcases ht with rfl | ⟨code, rfl⟩
      · exact houter _ _ ((frame_settle v).mono (by simp [outerBlocks])) hV
      · exact houter _ _ ((frame_setLast v code).then (frame_settle _) (by simp [outerBlocks]) (by simp [outerBlocks])) hV

end Sys2Proof.Machine
end

section
/-! The auto-sleep timer (R179): every row settles it, and where a span of time passes in the internal reset the sleep
conditions stand. With it, what the SCK edges of a tick leave of the port. -/

namespace Sys2Proof.Machine

/-! ### The port through a tick -/

/-- What clocking leaves of the port: CSN, the last outcome, the bytes of the last transfer, the next sequence number. -/
structure Clocked (s t : State) : Prop where
  csn : t.cmd.transfer.isNone = s.cmd.transfer.isNone
  last : t.cmd.last = s.cmd.last
  sdo : t.cmd.sdo = s.cmd.sdo
  next : t.log.next = s.log.next
  idle : s.cmd.transfer = none → t.cmd = s.cmd ∧ t.log = s.log

theorem Clocked.refl (s : State) : Clocked s s := ⟨rfl, rfl, rfl, rfl, fun _ => ⟨rfl, rfl⟩⟩

theorem Clocked.of_eq {s t : State} (hcmd : t.cmd = s.cmd) (hlog : t.log = s.log) : Clocked s t := by
  constructor <;> simp [hcmd, hlog]

theorem Clocked.trans {s t u : State} (hst : Clocked s t) (htu : Clocked t u) : Clocked s u where
  csn := htu.csn.trans hst.csn
  last := htu.last.trans hst.last
  sdo := htu.sdo.trans hst.sdo
  next := htu.next.trans hst.next
  idle := fun h => by
    obtain ⟨hcmd, hlog⟩ := hst.idle h
    obtain ⟨hcmd', hlog'⟩ := htu.idle (by rw [hcmd, h])
    exact ⟨hcmd'.trans hcmd, hlog'.trans hlog⟩

/-- A transfer in progress is replaced by another, and the log shortened. -/
theorem Clocked.of_some {s t : State} {x y : Transfer} (hs : s.cmd.transfer = some x) (ht : t.cmd.transfer = some y)
    (hlast : t.cmd.last = s.cmd.last) (hsdo : t.cmd.sdo = s.cmd.sdo) (hnext : t.log.next = s.log.next) : Clocked s t where
  csn := by rw [hs, ht]; rfl
  last := hlast
  sdo := hsdo
  next := hnext
  idle := fun h => by rw [hs] at h; cases h

theorem beginByte_clocked (s : State) : Clocked s s.beginByte := by
  unfold State.beginByte
  split
  · exact .refl s
  · split
    · split
      · exact .of_some ‹_› rfl rfl rfl rfl
      · exact .of_some ‹_› rfl rfl rfl rfl
    · exact .of_some ‹_› rfl rfl rfl rfl
    · exact .of_some ‹_› rfl rfl rfl rfl

theorem readyByte_clocked (s : State) : Clocked s s.readyByte := by
  unfold State.readyByte
  split
  · split
    · exact .refl s
    · exact beginByte_clocked s
  · exact .refl s

theorem endByte_clocked (s : State) (b : Byte) : Clocked s (s.endByte b) := by
  unfold State.endByte
  split
  · exact .refl s
  · split
    · dsimp only
      split
      · exact .of_some ‹_› rfl rfl rfl rfl
      · exact .of_some ‹_› rfl rfl rfl rfl
    · exact .of_some ‹_› rfl rfl rfl rfl
    · exact .of_some ‹_› rfl rfl rfl rfl

theorem sckRise_clocked (s : State) (sdi : Level) : Clocked s (s.sckRise sdi) := by
  unfold State.sckRise
  split
  · exact .refl s
  · split
    · exact .of_some ‹_› rfl rfl rfl rfl
    · exact endByte_clocked s _

theorem clockPort_clocked (s : State) : Clocked s s.clockPort := by
  unfold State.clockPort
  split
  · exact .refl s
  · rename_i sck sdi rest _
    have h : Clocked s (s.setSpi { sck := sck, sdi := sdi, feed := rest }) := .of_eq rfl rfl
    dsimp only
    split
    · exact h.trans (sckRise_clocked _ _)
    · exact h.trans (readyByte_clocked _)
    · exact h

theorem tickBegun_clocked (s : State) : Clocked s s.tickBegun :=
  (Clocked.of_eq rfl rfl : Clocked s (s.setBus s.bus.advance)).trans (clockPort_clocked _)

/-! ### The auto-sleep timer -/

@[simp] theorem sleepOk_setTsc (s : State) (x : Tsc) : (s.setTsc x).sleepOk = s.sleepOk := rfl

@[simp] theorem sleepOk_setPending (s : State) (x : List Instr) : (s.setPending x).sleepOk = s.sleepOk := rfl

/-- The sleep conditions look at slots, request list, link, notification, CSN and the pulse timers alone (R178). -/
theorem sleepOk_congr {s t : State} (hslots : t.slots = s.slots) (hrnd : t.rnd = s.rnd) (hlif : t.lif = s.lif)
    (hntf : t.ntf = s.ntf) (hpin : t.pin = s.pin) (hcsn : t.cmd.transfer.isNone = s.cmd.transfer.isNone) :
    t.sleepOk = s.sleepOk := by
  simp only [State.sleepOk, State.slot, State.output, hslots, hrnd, hlif, hntf, hpin, hcsn]

@[simp] theorem sleepOk_settle (s : State) : s.settle.sleepOk = s.sleepOk := by
  unfold State.settle
  split <;> rfl

theorem settle_power (s : State) : s.settle.tsc.power = s.tsc.power := by
  rcases settle_tsc s with h | h <;> rw [h]

/-- Settling holds the timer at zero, whatever it was (R179). -/
theorem settle_held (s : State) : AutoSleepHeld s.settle := by
  intro hpower hcond
  rw [settle_power] at hpower
  rw [sleepOk_settle, settle_cfg] at hcond
  rw [State.settle, if_pos ⟨hpower, hcond⟩]
  rfl

theorem tick_held {s : State} (hs : AutoSleepHeld s) : AutoSleepHeld s.tick := by
  rcases tick_cases s with ⟨_, ht⟩ | ⟨hsleep, _, ht⟩ | ⟨_, ht⟩
  · rw [ht]
    exact settle_held _
  · intro hpower
    have : s.tick.tsc = s.tsc := by rw [ht]; exact ((frame_tickBegun s).tsc_eq rfl)
    rw [this, hsleep] at hpower
    cases hpower
  · have hf := frame_tickBegun s
    have hok : s.tickBegun.sleepOk = s.sleepOk :=
      sleepOk_congr (hf.slots_eq rfl) (hf.rnd_eq rfl) (hf.lif_eq rfl) (hf.ntf_eq rfl) (hf.pin_eq rfl) (tickBegun_clocked s).csn
    rw [ht]
    intro hpower hcond
    rw [(hf.tsc_eq rfl)] at hpower ⊢
    rw [hok, (hf.cfg_eq rfl)] at hcond
    exact hs hpower hcond

/-- Settles O59: a row that does anything ends in a settling, and a tick settles or leaves what the conditions look at. -/
theorem everyStepHoldsTheAutoSleepTimer : Obligations.EveryStepHoldsTheAutoSleepTimer := by
  intro s t hs h
  rcases step_cases h with ⟨_, rfl⟩ | ⟨c, rest, _, he⟩
  · exact tick_held hs
  · rcases exec_cases he with rfl | ⟨a, v, _, _, rfl | ⟨code, rfl⟩⟩
    · exact hs
    · exact settle_held v
    · exact settle_held _

end Sys2Proof.Machine
end

section
/-! Frames of the meanings that rows are made of: which blocks each of them can change. -/

namespace Sys2Proof.Machine

/-! ### Slots, halt unit, resume -/

theorem frame_withdrawOrDefer (i : SlotNo) (s : State) :
    Frame [.slots, .rnd, .pin, .log, .ntf] s (State.withdrawOrDefer i s) := by
  unfold State.withdrawOrDefer
  dsimp only
  split
  · exact Frame.ite ((frame_setSlot s _ _).mono (by simp)) (frame_withdrawNow s _ _)
  · exact Frame.refl _ s
  · exact Frame.refl _ s
  · exact Frame.refl _ s

theorem frame_leaveNow (s : State) :
    Frame [.mbr, .slots, .rnd, .flg, .hlt, .pin, .log, .ntf] s s.leaveNow := by
  unfold State.leaveNow
  refine Frame.comp ?_ ((frame_place _ _ _).mono (by simp))
  refine Frame.comp ?_ ((frame_enter _ _).mono (by simp))
  refine Frame.comp ?_ ((frame_leaveHalt _).mono (by simp))
  refine Frame.comp ?_ ((frame_discardFlags _).mono (by simp))
  exact (frame_forSlots _ frame_withdrawOrDefer s).mono (by simp)

theorem frame_withdrawCommand (s : State) (i : SlotNo) :
    Frame [.slots, .rnd, .pin, .log, .ntf] s (s.withdrawCommand i).1 := by
  unfold State.withdrawCommand
  dsimp only
  split
  · exact Frame.refl _ s
  · split
    · exact Frame.refl _ s
    · split
      · exact Frame.refl _ s
      · split
        · exact (frame_setSlot s _ _).mono (by simp)
        · exact frame_withdrawNow s _ _

theorem frame_disarmBound (i : SlotNo) (k : Fin 4) (s : State) : Frame [.pin] s (State.disarmBound i k s) :=
  Frame.ite (frame_disarm s k) (Frame.refl _ s)

theorem frame_clearing (s : State) (i : SlotNo) (x : Slot) :
    Frame [.slots, .pin] s (forInputs (State.disarmBound i) (s.setSlot i x)) :=
  (frame_setSlot s i x).then (frame_forInputs (State.disarmBound i) (frame_disarmBound i) _) (by simp) (by simp)

theorem frame_clearCommand (s : State) (i : SlotNo) : Frame [.slots, .pin] s (s.clearCommand i).1 := by
  unfold State.clearCommand
  dsimp only
  split
  · exact Frame.refl _ s
  · split
    · exact Frame.refl _ s
    · dsimp only
      exact frame_clearing s i _

theorem frame_askResume (s : State) : Frame [.hlt, .rnd] s s.askResume :=
  (frame_setHlt s _).then (frame_place _ _ _) (by simp) (by simp)

theorem frame_renewCommandHold (s : State) (old : Hlt) : Frame [.hlt, .rnd] s (s.renewCommandHold old) := by
  unfold State.renewCommandHold
  refine Frame.ite ?_ (Frame.refl _ s)
  cases old.heldCause with
  | none => exact (frame_setHlt s _).mono (by simp)
  | some c => exact (frame_requestHalt s c).comp ((frame_setHlt _ _).mono (by simp))

theorem frame_renewInputHold (old : Hlt) (i : Fin 4) (s : State) : Frame [.hlt, .rnd] s (State.renewInputHold old i s) :=
  Frame.ite (frame_inputHalt s i) (Frame.refl _ s)

theorem frame_resumeNow (s : State) (requesters : Set32) : Frame [.hlt, .rnd, .log, .ntf] s (s.resumeNow requesters) := by
  unfold State.resumeNow
  refine Frame.comp ?_ ((frame_forInputs _ (frame_renewInputHold _) _).mono (by simp))
  refine Frame.comp ?_ ((frame_renewCommandHold _ _).mono (by simp))
  refine Frame.comp ?_ ((frame_raise _ _).mono (by simp))
  exact (frame_setHlt s _).then (frame_offer _ _ _ _ _ _) (by simp) (by simp)

/-! ### Membership -/

theorem frame_busFault (s : State) (stb dat : Bool) :
    Frame [.mbr, .ntf, .rnd, .lif, .flg, .hlt, .slots, .pin, .log] s (s.busFault stb dat) := by
  have h := (frame_offer s .busFault s.mbr.number (stuckTag stb dat) s.mbr.roster 0#16).then (frame_raise _ .bus)
    (c := [.mbr, .ntf, .rnd, .lif, .flg, .hlt, .slots, .pin, .log]) (by simp) (by simp)
  exact Frame.ite (h.comp (frame_goOffline _)) h

theorem frame_stuckNow (s : State) (stb dat : Bool) :
    Frame [.mbr, .ntf, .rnd, .lif, .flg, .hlt, .slots, .pin, .log] s (s.stuckNow stb dat) := by
  unfold State.stuckNow
  refine Frame.comp ?_ (frame_busFault _ _ _)
  exact (frame_setLif s _).then (frame_abandon _ _) (by simp) (by simp)

theorem frame_joinNow (s : State) :
    Frame [.mbr, .ntf, .rnd, .lif, .flg, .hlt, .slots, .pin, .log] s s.joinNow := by
  have h : Frame [.mbr, .ntf, .rnd, .lif] s
      ((((s.setMbr { s.mbr with nonce := some (s.tsc.time.setWidth 16) }).enter .joining).setLif
        ((s.setMbr { s.mbr with nonce := some (s.tsc.time.setWidth 16) }).enter .joining).lif.seek).place .join s.mbr.number) := by
    refine Frame.comp ?_ ((frame_place _ _ _).mono (by simp))
    refine Frame.comp ?_ ((frame_setLif _ _).mono (by simp))
    exact (frame_setMbr s _).then (frame_enter _ _) (by simp) (by simp)
  exact Frame.ite ((h.mono (by simp)).comp (frame_stuckNow _ _ _)) (h.mono (by simp))

theorem frame_busResetFlags (s : State) : Frame [.flg, .log, .ntf] s s.busResetFlags :=
  (frame_setFlg s _).then (frame_changeWord _ _ _) (by simp) (by simp)

theorem frame_busResetHalt (s : State) : Frame [.hlt, .log, .ntf] s s.busResetHalt := by
  unfold State.busResetHalt
  dsimp only
  split
  · exact ((frame_setHlt s _).then (frame_offer _ _ _ _ _ _) (c := [.hlt, .log, .ntf]) (by simp) (by simp)).comp
      ((frame_raise _ _).mono (by simp))
  · exact (frame_setHlt s _).mono (by simp)

theorem frame_busResetOnline (s : State) :
    Frame [.mbr, .ntf, .rnd, .flg, .hlt, .slots, .pin, .log] s s.busResetOnline := by
  unfold State.busResetOnline
  refine Frame.comp ?_ ((frame_forInputs _ (frame_followInput false) _).mono (by simp))
  refine Frame.comp ?_ ((frame_busResetHalt _).mono (by simp))
  refine Frame.comp ?_ ((frame_busResetFlags _).mono (by simp))
  refine Frame.comp ?_ ((frame_forSlots _ (frame_rebaseSlot _ _) _).mono (by simp))
  refine Frame.comp ?_ ((frame_place _ _ _).mono (by simp))
  exact ((frame_changeRoster s _ _ _).mono (by simp)).comp ((frame_setMbr _ _).mono (by simp))

theorem frame_busResetEffects (s : State) :
    Frame [.mbr, .ntf, .rnd, .lif, .flg, .hlt, .slots, .pin, .log] s s.busResetEffects := by
  unfold State.busResetEffects
  have h := (frame_offer s .busReset s.mbr.number (BitVec.ofNat 8 s.mbr.membership.code) s.mbr.roster 0#16).then
    (frame_raise _ .bus) (c := [.mbr, .ntf, .rnd, .lif, .flg, .hlt, .slots, .pin, .log]) (by simp) (by simp)
  dsimp only
  split
  · exact h
  · exact h.comp ((frame_setRnd _ _).mono (by simp))
  · exact (h.comp ((frame_setRnd _ _).mono (by simp))).comp ((frame_busResetOnline _).mono (by simp))
  · exact (h.comp ((frame_setRnd _ _).mono (by simp))).comp (frame_leaveBus _ _)

/-! ### Round engine -/

theorem frame_resolveLatches (s : State) (r : Round) :
    Frame [.slots, .rnd, .pin, .log, .ntf, .hlt] s (s.resolveLatches r) := by
  unfold State.resolveLatches
  split
  · exact frame_resolveUncompleted _ _
  · exact Frame.refl _ _

theorem frame_latchSetA (s : State) (r : Round) (c : Class) (n : Fin 32) : Frame [.slots] s (s.latchSetA r c n).1 := by
  unfold State.latchSetA
  split
  · split
    · exact frame_setSlot s _ _
    · exact Frame.refl _ s
  · split <;> exact Frame.refl _ s
  · split <;> exact Frame.refl _ s
  · exact Frame.refl _ s
  · exact Frame.refl _ s
  · exact Frame.refl _ s

theorem frame_beginField (s : State) (r : Round) : Frame [.slots] s (s.beginField r).1 := by
  unfold State.beginField
  split
  · exact Frame.refl _ s
  · split
    · exact Frame.refl _ s
    · split
      · exact Frame.refl _ s
      · split
        · split <;> exact Frame.refl _ s
        · split
          · exact Frame.refl _ s
          · split
            · exact frame_latchSetA s r _ _
            · split
              · exact Frame.refl _ s
              · split <;> exact Frame.refl _ s

theorem frame_beginPosition (s : State) (r : Round) : Frame [.lif, .rnd, .slots] s (s.beginPosition r) := by
  unfold State.beginPosition
  refine Frame.comp ?_ ((frame_setLif _ _).mono (by simp))
  exact (frame_beginField s r).then (frame_setRnd _ _) (by simp) (by simp)

theorem frame_asyncRound (s : State) : Frame [.lif, .rnd] s s.asyncRound :=
  (frame_setRnd s _).then (frame_setLif _ _) (by simp) (by simp)

/-! ### Round ends -/

theorem frame_endRound (s : State) (dis : Level) : Frame [.lif, .rnd] s (s.endRound dis) :=
  (frame_setRnd s _).then (frame_setLif _ _) (by simp) (by simp)

theorem frame_haltNow (s : State) (cause : Byte) (set : Set32) (value : Half) :
    Frame [.hlt, .slots, .rnd, .pin, .log, .ntf] s (s.haltNow cause set value) := by
  unfold State.haltNow
  refine Frame.comp ?_ ((frame_haltAbort _).mono (by simp))
  refine Frame.comp ?_ ((frame_raise _ _).mono (by simp))
  refine Frame.comp ?_ ((frame_offer _ _ _ _ _ _).mono (by simp))
  exact (frame_setHlt s _).then (frame_dropHaltRequest _) (by simp) (by simp)

theorem frame_haltEffects (r : Round) (n : Fin 32) (s : State) :
    Frame [.hlt, .slots, .rnd, .pin, .log, .ntf] s (haltEffects r n s) :=
  Frame.ite (frame_haltNow s _ _ _) ((frame_zeroVoids s _ _).mono (by simp))

theorem frame_resumeEffects (r : Round) (n : Fin 32) (s : State) :
    Frame [.hlt, .rnd, .log, .ntf] s (resumeEffects r n s) := by
  have h := (frame_setHlt s { s.hlt with resumePending := false }).then (frame_remove _ .resume 0)
    (c := [.hlt, .rnd, .log, .ntf]) (by simp) (by simp)
  refine Frame.ite (Frame.ite (h.comp (frame_resumeNow _ _)) (h.comp ?_)) ((frame_zeroVoids s _ _).mono (by simp))
  exact (frame_offer _ _ _ _ _ _).then (frame_raise _ _) (by simp) (by simp)

theorem frame_adoptCondition (s : State) (r : Round) : Frame [.hlt, .log, .ntf] s (s.adoptCondition r) := by
  unfold State.adoptCondition
  refine Frame.ite (Frame.comp ?_ ((frame_raise _ _).mono (by simp))) (Frame.refl _ s)
  exact (frame_setHlt s _).then (frame_offer _ _ _ _ _ _) (by simp) (by simp)

theorem frame_admitSlot (i : SlotNo) (s : State) : Frame [.slots] s (State.admitSlot i s) :=
  Frame.ite (frame_setSlot s _ _) (Frame.refl _ s)

theorem frame_admitJoiner (s : State) (r : Round) :
    Frame [.mbr, .ntf, .rnd, .flg, .hlt, .slots, .log] s (s.admitJoiner r) := by
  unfold State.admitJoiner
  refine Frame.comp ?_ ((frame_forInputs _ (frame_followInput true) _).mono (by simp))
  refine Frame.comp ?_ ((frame_forSlots _ frame_admitSlot _).mono (by simp))
  refine Frame.comp ?_ ((frame_adoptCondition _ r).mono (by simp))
  refine Frame.comp ?_ ((frame_changeWord _ _ _).mono (by simp))
  refine Frame.comp ?_ ((frame_offer _ _ _ _ _ _).mono (by simp))
  refine Frame.comp ?_ ((frame_remove _ _ _).mono (by simp))
  exact (frame_enter s _).then (frame_setMbr _ _) (by simp) (by simp)

theorem frame_memberJoin (s : State) (r : Round) (n : Fin 32) : Frame [.mbr, .log, .ntf] s (s.memberJoin r n) :=
  (Frame.ite (Frame.refl _ s) (frame_changeRoster s _ _ _)).comp ((frame_setMbr _ _).mono (by simp))

theorem frame_joinEffects (r : Round) (n : Fin 32) (s : State) :
    Frame [.mbr, .ntf, .rnd, .lif, .flg, .hlt, .slots, .pin, .log] s (joinEffects r n s) := by
  unfold joinEffects
  split
  · exact Frame.ite (Frame.ite (frame_refuseJoin s _ _) ((frame_admitJoiner s r).mono (by simp))) (Frame.refl _ s)
  · exact (frame_memberJoin s r n).mono (by simp)
  · exact (frame_memberJoin s r n).mono (by simp)
  · exact Frame.refl _ s

theorem frame_resolveCompleted (s : State) (i : SlotNo) (x : Slot) (r : Round) :
    Frame [.log, .ntf] s (s.resolveCompleted i x r) :=
  Frame.ite (frame_offerSlot s _ _ _ _ _) (Frame.refl _ s)

theorem frame_reattempt (s : State) (x : Slot) : Frame [.slots, .rnd, .pin] s (s.reattempt x) := by
  unfold State.reattempt
  split
  · exact Frame.ite (frame_levelAttempt s _) (Frame.refl _ s)
  · exact Frame.refl _ s

theorem frame_completeSlot (s : State) (i : SlotNo) (x : Slot) (r : Round) :
    Frame [.rnd, .slots, .pin, .log, .ntf] s (s.completeSlot i x r) := by
  unfold State.completeSlot
  refine Frame.comp ?_ ((frame_reattempt _ _).mono (by simp))
  refine Frame.comp ?_ ((frame_resolveCompleted _ _ _ _).mono (by simp))
  have h : Frame [.rnd, .slots, .pin, .log, .ntf] s
      (((s.setSlot i (x.complete r s.tsc.time)).outputsOnCompletion i).offerSlot i .complete (epochTag x.epoch) r.setA r.val) := by
    refine Frame.comp ?_ ((frame_offerSlot _ _ _ _ _ _).mono (by simp))
    exact (frame_setSlot s _ _).then (frame_outputsOnCompletion _ _) (by simp) (by simp)
  exact Frame.ite (h.comp ((frame_zeroVoids _ _ _).mono (by simp))) (h.comp ((frame_remove _ _ _).mono (by simp)))

theorem frame_offerProgress (s : State) (i : SlotNo) (r : Round) : Frame [.log, .ntf] s (s.offerProgress i r) :=
  Frame.ite (frame_offer s _ _ _ _ _) (Frame.refl _ s)

theorem frame_progressSlot (s : State) (i : SlotNo) (x : Slot) (r : Round) :
    Frame [.slots, .rnd, .pin, .log, .ntf, .hlt] s (s.progressSlot i x r) := by
  unfold State.progressSlot
  refine Frame.comp ?_ (frame_resolveUncompleted _ _)
  have h : ∀ z, Frame [.slots, .rnd, .pin, .log, .ntf, .hlt] s ((s.setSlot i z).offerProgress i r) := fun z =>
    (frame_setSlot s _ _).then (frame_offerProgress _ _ _) (by simp) (by simp)
  exact Frame.ite ((h _).comp ((frame_remove _ _ _).mono (by simp))) ((h _).comp ((frame_zeroVoids _ _ _).mono (by simp)))

theorem frame_arriveEffects (r : Round) (n : Fin 32) (s : State) :
    Frame [.slots, .rnd, .pin, .log, .ntf, .hlt] s (arriveEffects r n s) := by
  unfold arriveEffects
  split
  · exact Frame.ite ((frame_completeSlot s _ _ _).mono (by simp)) (frame_progressSlot s _ _ _)
  · exact (frame_zeroVoids s _ _).mono (by simp)

theorem frame_flagsEffects (r : Round) (n : Fin 32) (s : State) :
    Frame [.flg, .rnd, .log, .ntf] s (flagsEffects r n s) :=
  Frame.ite (frame_applyFlags s _ _ _ _) (Frame.refl _ s)

theorem frame_repairCondition (s : State) (r : Round) :
    Frame [.hlt, .slots, .rnd, .pin, .log, .ntf] s (s.repairCondition r) :=
  Frame.ite (frame_haltNow s _ _ _) (Frame.refl _ s)

theorem frame_probeSlot (i : SlotNo) (s : State) : Frame [.slots, .rnd] s (State.probeSlot i s) :=
  Frame.ite (Frame.ite (Frame.refl _ s) ((frame_setSlot s _ _).then (frame_place _ _ _) (by simp) (by simp)))
    (Frame.refl _ s)

theorem frame_takeRoll (s : State) (r : Round) :
    Frame [.mbr, .flg, .hlt, .slots, .rnd, .pin, .log, .ntf] s (s.takeRoll r) := by
  have h : Frame [.mbr, .flg, .hlt, .slots, .rnd, .pin, .log, .ntf] s
      (((s.changeRoster r.setA s.mbr.number causeRoll).changeWord r.wordB causeRoll).repairCondition r) := by
    refine Frame.comp ?_ ((frame_repairCondition _ _).mono (by simp))
    exact (frame_changeRoster s _ _ _).then (frame_changeWord _ _ _) (by simp) (by simp)
  unfold State.takeRoll
  dsimp only
  split
  · exact h
  · exact h.comp ((frame_forSlots _ frame_probeSlot _).mono (by simp))

theorem frame_rollEffects (r : Round) (n : Fin 32) (s : State) :
    Frame [.mbr, .ntf, .rnd, .lif, .flg, .hlt, .slots, .pin, .log] s (rollEffects r n s) := by
  unfold rollEffects
  split
  · refine Frame.comp ?_ ((frame_takeRoll _ _).mono (by simp))
    exact (frame_setMbr s _).then (frame_remove _ _ _) (by simp) (by simp)
  · refine Frame.ite (frame_leaveBus s _) (Frame.comp ?_ ((frame_takeRoll _ _).mono (by simp)))
    exact (frame_setMbr s _).then (frame_zeroVoids _ _ _) (by simp) (by simp)
  · exact Frame.refl _ s
  · exact Frame.refl _ s

/-! ### Void rounds -/

theorem frame_voidRecord (s : State) (r : Round) : Frame [.log, .ntf] s (s.voidRecord r) :=
  (frame_offer s _ _ _ _ _).then (frame_raise _ _) (by simp) (by simp)

theorem frame_droppedRecord (s : State) (c : Class) (n : Fin 32) (limit : Nat) :
    Frame [.rnd, .log, .ntf] s (s.droppedRecord c n limit) :=
  ((frame_remove s _ _).then (frame_offer _ _ _ _ _ _) (c := [.rnd, .log, .ntf]) (by simp) (by simp)).comp
    ((frame_raise _ _).mono (by simp))

theorem frame_faultSlot (s : State) (i : SlotNo) : Frame [.slots, .rnd, .pin, .log, .ntf] s (s.faultSlot i) := by
  unfold State.faultSlot
  refine Frame.comp ?_ ((frame_offerSlot _ _ _ _ _ _).mono (by simp))
  refine Frame.comp ?_ ((frame_disarmSource _ _).mono (by simp))
  exact (frame_setSlot s _ _).then (frame_remove _ _ _) (by simp) (by simp)

theorem frame_dropEntry (s : State) (c : Class) (n : Fin 32) (limit : Nat) :
    Frame [.mbr, .ntf, .rnd, .lif, .flg, .hlt, .slots, .pin, .log] s (s.dropEntry c n limit) := by
  have h := fun c => (frame_droppedRecord s c n limit).mono
    (c := [.mbr, .ntf, .rnd, .lif, .flg, .hlt, .slots, .pin, .log]) (by simp)
  unfold State.dropEntry
  split
  · exact (frame_faultSlot s n).mono (by simp)
  · exact frame_refuseJoin s _ _
  · exact (h _).comp ((frame_setHlt _ _).mono (by simp))
  · exact (h _).comp ((frame_setHlt _ _).mono (by simp))
  · exact (h _).comp ((frame_setFlg _ _).mono (by simp))
  · exact Frame.ite ((h _).comp (frame_leaveBus _ _)) (h _)

theorem frame_countVoid (s : State) (c : Class) (n : Fin 32) :
    Frame [.mbr, .ntf, .rnd, .lif, .flg, .hlt, .slots, .pin, .log] s (s.countVoid c n) := by
  unfold State.countVoid
  split
  · exact Frame.refl _ s
  · exact Frame.ite (frame_dropEntry s _ _ _) ((frame_setRnd s _).mono (by simp))

theorem frame_voidEffects (r : Round) (s : State) :
    Frame [.mbr, .ntf, .rnd, .lif, .flg, .hlt, .slots, .pin, .log] s (voidEffects r s) := by
  unfold voidEffects
  dsimp only
  have h := (frame_voidRecord s r).mono (c := [.mbr, .ntf, .rnd, .lif, .flg, .hlt, .slots, .pin, .log]) (by simp)
  split
  · exact h
  · exact (h.comp (frame_countVoid _ _ _)).comp ((frame_resolveLatches _ _).mono (by simp))

/-! ### Pins, sleep and reset -/

theorem frame_movePin (s : State) (i : Fin 4) (l : Level) : Frame [.pin] s (s.movePin i l) :=
  Frame.ite (Frame.refl _ s) (Frame.ite (frame_setInput s _ _) (frame_setInput s _ _))

theorem frame_rawEdge (s : State) (i : Fin 4) (l : Level) : Frame [.tsc, .lif, .pin] s (s.rawEdge i l) := by
  have h := (frame_movePin s i l).mono (c := [.tsc, .lif, .pin]) (by simp)
  exact Frame.ite (h.comp (frame_startWake _)) h

theorem frame_acceptLevel (s : State) (i : Fin 4) : Frame [.pin] s (s.acceptLevel i) := frame_setInput s i _

theorem frame_inputArrive (s : State) (i : Fin 4) (l : Level) : Frame [.slots, .rnd, .pin] s (s.inputArrive i l) :=
  Frame.ite (Frame.ite (frame_levelAttempt s i) (Frame.refl _ s))
    (Frame.ite ((frame_attempt s _ _ _).mono (by simp)) (Frame.refl _ s))

theorem frame_actOnBinding (s : State) (i : Fin 4) (l : Level) :
    Frame [.slots, .rnd, .pin, .flg, .hlt] s (s.actOnBinding i l) := by
  unfold State.actOnBinding
  dsimp only
  split
  · exact Frame.refl _ s
  · exact (frame_inputArrive s i l).mono (by simp)
  · exact Frame.ite ((frame_requestSet s _).mono (by simp)) (Frame.refl _ s)
  · exact Frame.ite ((frame_requestClear s _).mono (by simp)) (Frame.refl _ s)
  · exact Frame.ite ((frame_requestSet s _).mono (by simp)) ((frame_requestClear s _).mono (by simp))
  · refine Frame.ite (Frame.ite ((frame_inputHalt s i).mono (by simp)) ((frame_inputUnhalt s i).mono (by simp)))
      (Frame.ite ((frame_haltSource s _).mono (by simp)) (Frame.refl _ s))

theorem frame_startReset (s : State) (cause : ResetCause) : Frame [.tsc, .lif, .pin, .cmd] s (s.startReset cause) := by
  unfold State.startReset
  refine Frame.comp ?_ ((frame_setTransfer _ _).mono (by simp))
  refine Frame.comp ?_ ((frame_setPin _ _).mono (by simp))
  exact (frame_setTsc s _).then (frame_setLif _ _) (by simp) (by simp)

end Sys2Proof.Machine
end

section
/-! The drivers (R1, R5): what seeing a level leaves of the line interface, what going OFFLINE and a stuck line make of it, and
that no step lets a station drive a line where R5 forbids it. -/

namespace Sys2Proof.Machine

/-! ### Levels seen -/

/-- Seeing STB at a level changes STB's own fields and the both-low count alone (R2). -/
theorem seeStb_frame (x : Lif) (l : Level) :
    x.seeStb l = { x with
      stb := (x.seeStb l).stb, stbStuck := (x.seeStb l).stbStuck, stbLast := (x.seeStb l).stbLast
      stbExempt := (x.seeStb l).stbExempt, bothLow := (x.seeStb l).bothLow } := by
  unfold Lif.seeStb
  split <;> rfl

/-- Seeing DAT likewise. -/
theorem seeDat_frame (x : Lif) (l : Level) :
    x.seeDat l = { x with
      dat := (x.seeDat l).dat, datStuck := (x.seeDat l).datStuck, datLast := (x.seeDat l).datLast
      datExempt := (x.seeDat l).datExempt, bothLow := (x.seeDat l).bothLow } := by
  unfold Lif.seeDat
  split <;> rfl

@[simp] theorem seeStb_link (x : Lif) (l : Level) : (x.seeStb l).link = x.link := by rw [seeStb_frame]
@[simp] theorem seeStb_stbDrive (x : Lif) (l : Level) : (x.seeStb l).stbDrive = x.stbDrive := by rw [seeStb_frame]
@[simp] theorem seeStb_datDrive (x : Lif) (l : Level) : (x.seeStb l).datDrive = x.datDrive := by rw [seeStb_frame]
@[simp] theorem seeStb_begun (x : Lif) (l : Level) : (x.seeStb l).begun = x.begun := by rw [seeStb_frame]
@[simp] theorem seeStb_idleTimer (x : Lif) (l : Level) : (x.seeStb l).idleTimer = x.idleTimer := by rw [seeStb_frame]
@[simp] theorem seeStb_tLow (x : Lif) (l : Level) : (x.seeStb l).tLow = x.tLow := by rw [seeStb_frame]
@[simp] theorem seeStb_tHigh (x : Lif) (l : Level) : (x.seeStb l).tHigh = x.tHigh := by rw [seeStb_frame]
@[simp] theorem seeStb_pulse (x : Lif) (l : Level) : (x.seeStb l).pulse = x.pulse := by rw [seeStb_frame]
@[simp] theorem seeStb_stretch (x : Lif) (l : Level) : (x.seeStb l).stretch = x.stretch := by rw [seeStb_frame]
@[simp] theorem seeStb_armed (x : Lif) (l : Level) : (x.seeStb l).armed = x.armed := by rw [seeStb_frame]
@[simp] theorem seeStb_ownPulse (x : Lif) (l : Level) : (x.seeStb l).ownPulse = x.ownPulse := by rw [seeStb_frame]
@[simp] theorem seeStb_startDetector (x : Lif) (l : Level) : (x.seeStb l).startDetector = x.startDetector := by rw [seeStb_frame]
@[simp] theorem seeStb_stbPin (x : Lif) (l : Level) : (x.seeStb l).stbPin = x.stbPin := by rw [seeStb_frame]
@[simp] theorem seeStb_datPin (x : Lif) (l : Level) : (x.seeStb l).datPin = x.datPin := by rw [seeStb_frame]
@[simp] theorem seeStb_stbFilter (x : Lif) (l : Level) : (x.seeStb l).stbFilter = x.stbFilter := by rw [seeStb_frame]
@[simp] theorem seeStb_datFilter (x : Lif) (l : Level) : (x.seeStb l).datFilter = x.datFilter := by rw [seeStb_frame]
@[simp] theorem seeStb_dat (x : Lif) (l : Level) : (x.seeStb l).dat = x.dat := by rw [seeStb_frame]
@[simp] theorem seeStb_datStuck (x : Lif) (l : Level) : (x.seeStb l).datStuck = x.datStuck := by rw [seeStb_frame]
@[simp] theorem seeStb_datLast (x : Lif) (l : Level) : (x.seeStb l).datLast = x.datLast := by rw [seeStb_frame]
@[simp] theorem seeStb_datExempt (x : Lif) (l : Level) : (x.seeStb l).datExempt = x.datExempt := by rw [seeStb_frame]
@[simp] theorem seeStb_stb (x : Lif) (l : Level) : (x.seeStb l).stb = l := by
  cases h : x.stb <;> cases l <;> simp [Lif.seeStb, h]

@[simp] theorem seeDat_link (x : Lif) (l : Level) : (x.seeDat l).link = x.link := by rw [seeDat_frame]
@[simp] theorem seeDat_stbDrive (x : Lif) (l : Level) : (x.seeDat l).stbDrive = x.stbDrive := by rw [seeDat_frame]
@[simp] theorem seeDat_datDrive (x : Lif) (l : Level) : (x.seeDat l).datDrive = x.datDrive := by rw [seeDat_frame]
@[simp] theorem seeDat_begun (x : Lif) (l : Level) : (x.seeDat l).begun = x.begun := by rw [seeDat_frame]
@[simp] theorem seeDat_idleTimer (x : Lif) (l : Level) : (x.seeDat l).idleTimer = x.idleTimer := by rw [seeDat_frame]
@[simp] theorem seeDat_tLow (x : Lif) (l : Level) : (x.seeDat l).tLow = x.tLow := by rw [seeDat_frame]
@[simp] theorem seeDat_tHigh (x : Lif) (l : Level) : (x.seeDat l).tHigh = x.tHigh := by rw [seeDat_frame]
@[simp] theorem seeDat_pulse (x : Lif) (l : Level) : (x.seeDat l).pulse = x.pulse := by rw [seeDat_frame]
@[simp] theorem seeDat_stretch (x : Lif) (l : Level) : (x.seeDat l).stretch = x.stretch := by rw [seeDat_frame]
@[simp] theorem seeDat_armed (x : Lif) (l : Level) : (x.seeDat l).armed = x.armed := by rw [seeDat_frame]
@[simp] theorem seeDat_ownPulse (x : Lif) (l : Level) : (x.seeDat l).ownPulse = x.ownPulse := by rw [seeDat_frame]
@[simp] theorem seeDat_startDetector (x : Lif) (l : Level) : (x.seeDat l).startDetector = x.startDetector := by rw [seeDat_frame]
@[simp] theorem seeDat_stbPin (x : Lif) (l : Level) : (x.seeDat l).stbPin = x.stbPin := by rw [seeDat_frame]
@[simp] theorem seeDat_datPin (x : Lif) (l : Level) : (x.seeDat l).datPin = x.datPin := by rw [seeDat_frame]
@[simp] theorem seeDat_stbFilter (x : Lif) (l : Level) : (x.seeDat l).stbFilter = x.stbFilter := by rw [seeDat_frame]
@[simp] theorem seeDat_datFilter (x : Lif) (l : Level) : (x.seeDat l).datFilter = x.datFilter := by rw [seeDat_frame]
@[simp] theorem seeDat_stb (x : Lif) (l : Level) : (x.seeDat l).stb = x.stb := by rw [seeDat_frame]
@[simp] theorem seeDat_stbStuck (x : Lif) (l : Level) : (x.seeDat l).stbStuck = x.stbStuck := by rw [seeDat_frame]
@[simp] theorem seeDat_stbLast (x : Lif) (l : Level) : (x.seeDat l).stbLast = x.stbLast := by rw [seeDat_frame]
@[simp] theorem seeDat_stbExempt (x : Lif) (l : Level) : (x.seeDat l).stbExempt = x.stbExempt := by rw [seeDat_frame]
@[simp] theorem seeDat_dat (x : Lif) (l : Level) : (x.seeDat l).dat = l := by
  cases h : x.dat <;> cases l <;> simp [Lif.seeDat, h]

/-! ### Going OFFLINE -/

@[simp] theorem forSlots_rebase_lif (reason : Byte) (sync : Sync) (s : State) :
    (forSlots (State.rebaseSlot reason sync) s).lif = s.lif :=
  ((frame_forSlots _ (frame_rebaseSlot reason sync) s).lif_eq rfl)
@[simp] theorem forSlots_rebase_mbr (reason : Byte) (sync : Sync) (s : State) :
    (forSlots (State.rebaseSlot reason sync) s).mbr = s.mbr :=
  ((frame_forSlots _ (frame_rebaseSlot reason sync) s).mbr_eq rfl)
@[simp] theorem forSlots_rebase_flg (reason : Byte) (sync : Sync) (s : State) :
    (forSlots (State.rebaseSlot reason sync) s).flg = s.flg :=
  ((frame_forSlots _ (frame_rebaseSlot reason sync) s).flg_eq rfl)
@[simp] theorem forSlots_rebase_hlt (reason : Byte) (sync : Sync) (s : State) :
    (forSlots (State.rebaseSlot reason sync) s).hlt = s.hlt :=
  ((frame_forSlots _ (frame_rebaseSlot reason sync) s).hlt_eq rfl)

@[simp] theorem enter_lif (s : State) (m : Membership) : (s.enter m).lif = s.lif := rfl
@[simp] theorem enter_mbr (s : State) (m : Membership) : (s.enter m).mbr = { s.mbr with membership := m } := rfl
@[simp] theorem enter_rnd (s : State) (m : Membership) : (s.enter m).rnd = s.rnd := rfl

@[simp] theorem goOffline_lif (s : State) : s.goOffline.lif = s.lif.detach := by simp [State.goOffline]
@[simp] theorem goOffline_mbr (s : State) :
    s.goOffline.mbr = { s.mbr with membership := .offline, roster := 0#32, rollTimer := 0, nonce := none } := by
  simp [State.goOffline]
@[simp] theorem goOffline_flg (s : State) :
    s.goOffline.flg = { word := 0#32, sync := .unsynced, setReq := 0#32, clearReq := 0#32 } := by
  simp [State.goOffline]
@[simp] theorem goOffline_hlt (s : State) : s.goOffline.hlt = Hlt.clear .running := by simp [State.goOffline]

@[simp] theorem leaveBus_lif (s : State) (cause : Byte) : (s.leaveBus cause).lif = s.lif.detach := by simp [State.leaveBus]
@[simp] theorem leaveBus_mbr (s : State) (cause : Byte) :
    (s.leaveBus cause).mbr = { s.mbr with membership := .offline, roster := 0#32, rollTimer := 0, nonce := none } := by
  simp [State.leaveBus]
@[simp] theorem refuseJoin_lif (s : State) (reason : Byte) (set : Set32) :
    (s.refuseJoin reason set).lif = s.lif.detach := by simp [State.refuseJoin]
@[simp] theorem refuseJoin_mbr (s : State) (reason : Byte) (set : Set32) :
    (s.refuseJoin reason set).mbr
      = { s.mbr with membership := .offline, roster := 0#32, rollTimer := 0, nonce := none } := by
  simp [State.refuseJoin]

/-! ### A stuck line -/

/-- The line interface of a station that finds a line stuck (R15). -/
def Lif.faulted (x : Lif) : Lif := { x.endPulse with link := .fault, idleTimer := 0, armed := false, ownPulse := false }

@[simp] theorem abandon_lif (s : State) (framing : Bool) : (s.abandon framing).lif = s.lif := ((frame_abandon s framing).lif_eq rfl)
@[simp] theorem abandon_mbr (s : State) (framing : Bool) : (s.abandon framing).mbr = s.mbr := ((frame_abandon s framing).mbr_eq rfl)

/-- The link stays FAULT as the station goes OFFLINE (R4, R15). -/
theorem stuckNow_lif (s : State) (stb dat : Bool) : (s.stuckNow stb dat).lif = s.lif.faulted := by
  unfold State.stuckNow State.busFault
  dsimp only
  split
  · simp [Lif.detach, Lif.faulted]
  · simp [Lif.faulted]

/-! ### Drivers -/

/-- Where neither line interface nor membership change, the drivers stay where R5 lets them. -/
theorem DriversOk.of_frame {c : List Block} {s t : State} (hs : DriversOk s) (h : Frame c s t)
    (hc : c.contains .lif = false ∧ c.contains .mbr = false) : DriversOk t := by
  have hl := h.lif_eq hc.1
  have hm := h.mbr_eq hc.2
  exact ⟨by simpa only [State.OnBus, hl, hm] using hs.stb, by simpa only [State.OnBus, hl, hm] using hs.dat⟩

theorem DriversOk.of_released {t : State} (hstb : t.lif.stbDrive = .released) (hdat : t.lif.datDrive = .released) :
    DriversOk t :=
  ⟨fun h => absurd (hstb.symm.trans h) (by simp), fun h => absurd (hdat.symm.trans h) (by simp)⟩

/-- On the bus in ROUND or CLOSING both lines may be driven. -/
theorem DriversOk.of_onBus {t : State} (hbus : t.OnBus) (hlink : t.lif.link = .round ∨ t.lif.link = .closing) : DriversOk t :=
  ⟨fun _ => .inr ⟨hbus, hlink⟩, fun _ => .inr ⟨hbus, hlink.elim (.inr ∘ .inl) (.inr ∘ .inr)⟩⟩

theorem DriversOk.of_resetting {t : State} (hlink : t.lif.link = .resetting) : DriversOk t :=
  ⟨fun _ => .inl hlink, fun _ => .inl hlink⟩

/-- Drivers and link stay, or a driver is released. -/
theorem DriversOk.of_link {s t : State} (hs : DriversOk s) (hlink : t.lif.link = s.lif.link) (hmbr : s.OnBus → t.OnBus)
    (hstb : t.lif.stbDrive = .low → s.lif.stbDrive = .low) (hdat : t.lif.datDrive = .low → s.lif.datDrive = .low) :
    DriversOk t := by
  constructor
  · intro h
    rw [hlink]
    exact (hs.stb (hstb h)).imp id (And.imp hmbr id)
  · intro h
    rw [hlink]
    exact (hs.dat (hdat h)).imp id (And.imp hmbr id)

/-- The link is DETACHED with the drivers released, or a FAULT or RESETTING that stays (R4, R62). -/
theorem DriversOk.of_detach {s t : State} (hs : DriversOk s) (h : t.lif = s.lif.detach) : DriversOk t := by
  cases hl : s.lif.link with
  | fault =>
    have hkeep : t.lif = s.lif := by rw [h, Lif.detach, hl]
    constructor
    · intro hd
      rw [hkeep] at hd
      have := hs.stb hd
      simp [hl] at this
    · intro hd
      rw [hkeep] at hd
      have := hs.dat hd
      simp [hl] at this
  | resetting =>
    have hkeep : t.lif = s.lif := by rw [h, Lif.detach, hl]
    exact .of_resetting (by rw [hkeep, hl])
  | detached | seeking | idle | round | closing =>
    exact .of_released (by rw [h, Lif.detach, hl]; rfl) (by rw [h, Lif.detach, hl]; rfl)

/-- After the drop of an entry the membership is OFFLINE with the link left, or both are as before (R43, R55, R59). -/
theorem countVoid_lif (s : State) (c : Class) (n : Fin 32) :
    (s.countVoid c n).lif = s.lif.detach ∨ (s.countVoid c n).lif = s.lif ∧ (s.countVoid c n).mbr = s.mbr := by
  unfold State.countVoid
  split
  · exact .inr ⟨rfl, rfl⟩
  · split
    · unfold State.dropEntry
      split
      · exact .inr ⟨((frame_faultSlot s n).lif_eq rfl), ((frame_faultSlot s n).mbr_eq rfl)⟩
      · exact .inl (refuseJoin_lif s _ _)
      · exact .inr ⟨((frame_droppedRecord s _ _ _).lif_eq rfl), ((frame_droppedRecord s _ _ _).mbr_eq rfl)⟩
      · exact .inr ⟨((frame_droppedRecord s _ _ _).lif_eq rfl), ((frame_droppedRecord s _ _ _).mbr_eq rfl)⟩
      · exact .inr ⟨((frame_droppedRecord s _ _ _).lif_eq rfl), ((frame_droppedRecord s _ _ _).mbr_eq rfl)⟩
      · dsimp only
        split
        · exact .inl (by rw [leaveBus_lif, ((frame_droppedRecord s _ _ _).lif_eq rfl)])
        · exact .inr ⟨((frame_droppedRecord s _ _ _).lif_eq rfl), ((frame_droppedRecord s _ _ _).mbr_eq rfl)⟩
    · exact .inr ⟨rfl, rfl⟩

/-- The round that ends is one of a station in ROUND. -/
theorem endingRound_some {s : State} {r : Round} (h : s.endingRound = some r) :
    s.rnd.round = some r ∧ s.LowPhase ∧ s.lif.link = .round ∧ r.position = 100 := by
  unfold State.endingRound at h
  split at h
  · rename_i r' hr
    split at h
    · cases h
      exact ⟨hr, ‹_›⟩
    · cases h
  · cases h

/-- The round that is accepted ends, is one of the class, and the station has not dissented (R39). -/
theorem acceptedRound_some {s : State} {c : Class} {r : Round} {n : Fin 32} (h : s.acceptedRound c = some (r, n)) :
    s.endingRound = some r ∧ r.named = some (c, n) ∧ r.dissent.any = false := by
  unfold State.acceptedRound at h
  split at h
  · cases h
  · rename_i r' hr
    split at h
    · rename_i c' n' hn
      split at h
      · rename_i hc
        cases h
        exact ⟨hr, by rw [hn, hc.1], hc.2⟩
      · cases h
    · cases h

@[simp] theorem endRound_mbr (s : State) (dis : Level) : (s.endRound dis).mbr = s.mbr := rfl
@[simp] theorem endRound_link (s : State) (dis : Level) : (s.endRound dis).lif.link = .closing := rfl

/-- As a round ends the station has released STB, and drives DAT only on the bus. -/
theorem endRound_drivers {s : State} {r : Round} (hs : DriversOk s) (h : s.endingRound = some r) (dis : Level) :
    DriversOk (s.endRound dis) := by
  obtain ⟨_, ⟨_, _, hstb⟩, hlink, _⟩ := endingRound_some h
  constructor
  · intro hd
    simp [State.endRound, hstb] at hd
  · intro hd
    have hd' : s.lif.datDrive = .low := by simpa [State.endRound] using hd
    rcases hs.dat hd' with hl | ⟨hbus, _⟩
    · rw [hlink] at hl; cases hl
    · exact .inr ⟨hbus, .inr (.inr rfl)⟩

/-- A member stays one at another station's JOIN round (R54). -/
theorem memberJoin_membership (s : State) (r : Round) (n : Fin 32) :
    (s.memberJoin r n).mbr.membership = s.mbr.membership := by
  unfold State.memberJoin State.changeRoster
  dsimp only
  split
  · rfl
  · split
    · rfl
    · simp

theorem memberJoin_drivers {s : State} (hs : DriversOk s) (r : Round) (n : Fin 32) : DriversOk (s.memberJoin r n) := by
  have hlif := ((frame_memberJoin s r n).lif_eq rfl)
  exact hs.of_link (by rw [hlif]) (by simp [State.OnBus, memberJoin_membership]) (by rw [hlif]; exact id)
    (by rw [hlif]; exact id)

@[simp] theorem admitJoiner_membership (s : State) (r : Round) : (s.admitJoiner r).mbr.membership = .online := by
  unfold State.admitJoiner
  dsimp only
  rw [((frame_forInputs _ (frame_followInput true) _).mbr_eq rfl), ((frame_forSlots _ frame_admitSlot _).mbr_eq rfl),
    ((frame_adoptCondition _ r).mbr_eq rfl), ((frame_changeWord _ _ _).mbr_eq rfl)]
  simp

theorem joinEffects_drivers {s : State} (hs : DriversOk s) (r : Round) (n : Fin 32) : DriversOk (joinEffects r n s) := by
  unfold joinEffects
  split
  · split
    · unfold State.ownJoin
      split
      · exact hs.of_detach (refuseJoin_lif s _ _)
      · have hlif := ((frame_admitJoiner s r).lif_eq rfl)
        exact hs.of_link (by rw [hlif]) (by simp [State.OnBus]) (by rw [hlif]; exact id) (by rw [hlif]; exact id)
    · exact hs
  · exact memberJoin_drivers hs r n
  · exact memberJoin_drivers hs r n
  · exact hs

@[simp] theorem changeRoster_mbr (s : State) (new : Set32) (sel : Fin 32) (cause : Byte) :
    (s.changeRoster new sel cause).mbr = { s.mbr with roster := new } := by
  unfold State.changeRoster
  split
  · simp [‹new = s.mbr.roster›]
  · simp

/-- The roster follows SETA of a ROLL round, and nothing else of the membership changes with it (R58). -/
@[simp] theorem takeRoll_mbr (s : State) (r : Round) : (s.takeRoll r).mbr = { s.mbr with roster := r.setA } := by
  have h : (((s.changeRoster r.setA s.mbr.number causeRoll).changeWord r.wordB causeRoll).repairCondition r).mbr
      = { s.mbr with roster := r.setA } := by
    rw [((frame_repairCondition _ _).mbr_eq rfl), ((frame_changeWord _ _ _).mbr_eq rfl), changeRoster_mbr]
  unfold State.takeRoll
  dsimp only
  split
  · exact h
  · rw [((frame_forSlots _ frame_probeSlot _).mbr_eq rfl), h]

/-- A ROLL round lets a station that was LEAVING go OFFLINE, and changes roster and word of any other (R58). -/
theorem rollEffects_drivers {s : State} (hs : DriversOk s) (r : Round) (n : Fin 32) : DriversOk (rollEffects r n s) := by
  have htake : ∀ u : State, u.lif = s.lif → u.mbr.membership = s.mbr.membership → DriversOk (u.takeRoll r) := by
    intro u hl hm
    have hlif := ((frame_takeRoll u r).lif_eq rfl).trans hl
    exact hs.of_link (by rw [hlif]) (by simp [State.OnBus, hm]) (by rw [hlif]; exact id)
      (by rw [hlif]; exact id)
  unfold rollEffects
  split
  · exact htake _ rfl rfl
  · split
    · exact hs.of_detach (leaveBus_lif s _)
    · exact htake _ rfl rfl
  · exact hs
  · exact hs

theorem voidEffects_drivers {s : State} (hs : DriversOk s) (r : Round) : DriversOk (voidEffects r s) := by
  have hrecord : DriversOk (s.voidRecord r) := hs.of_frame (frame_voidRecord s r) ⟨rfl, rfl⟩
  unfold voidEffects
  dsimp only
  split
  · exact hrecord
  · rename_i c n _
    refine DriversOk.of_frame ?_ (frame_resolveLatches _ r) ⟨rfl, rfl⟩
    rcases countVoid_lif (s.voidRecord r) c n with h | ⟨hl, hm⟩
    · exact hrecord.of_detach h
    · exact hrecord.of_link (by rw [hl]) (by simp [State.OnBus, hm]) (by rw [hl]; exact id) (by rw [hl]; exact id)

/-- The records of a recognised bus reset: BUS_RESET with its BUS event (R46). -/
def State.busResetSeen (s : State) : State :=
  (s.offer .busReset s.mbr.number (BitVec.ofNat 8 s.mbr.membership.code) s.mbr.roster 0#16).raise .bus

/-- After them a station on the bus keeps only a JOIN entry (R31). -/
def State.busResetPruned (s : State) : State :=
  s.busResetSeen.setRnd { s.rnd with requests := busResetRequests s.rnd.requests }

theorem frame_busResetSeen (s : State) : Frame [.log, .ntf] s s.busResetSeen :=
  (frame_offer s _ _ _ _ _).then (frame_raise _ .bus) (by simp) (by simp)

theorem frame_busResetPruned (s : State) : Frame [.log, .ntf, .rnd] s s.busResetPruned :=
  (frame_busResetSeen s).then (frame_setRnd _ _) (by simp) (by simp)

/-- The effect of each membership at a recognised bus reset (R64). -/
theorem busResetEffects_eq (s : State) :
    s.busResetEffects =
      match s.mbr.membership with
      | .offline => s.busResetSeen
      | .joining => s.busResetPruned
      | .online => s.busResetPruned.busResetOnline
      | .leaving => s.busResetPruned.leaveBus causeBusReset := by
  have hrnd : ∀ x, ((s.offer .busReset s.mbr.number x s.mbr.roster 0#16).raise .bus).rnd = s.rnd := by simp
  unfold State.busResetEffects
  dsimp only
  rw [hrnd]
  rfl

theorem busResetOnline_mbr (s : State) :
    s.busResetOnline.mbr = { s.mbr with roster := only s.mbr.number, rollTimer := 0 } := by
  unfold State.busResetOnline
  dsimp only
  rw [((frame_forInputs _ (frame_followInput false) _).mbr_eq rfl), ((frame_busResetHalt _).mbr_eq rfl), ((frame_busResetFlags _).mbr_eq rfl)]
  simp

theorem busResetEffects_drivers {s : State} (hs : DriversOk s) : DriversOk s.busResetEffects := by
  have hpruned := hs.of_frame (frame_busResetPruned s) ⟨rfl, rfl⟩
  rw [busResetEffects_eq]
  split
  · exact hs.of_frame (frame_busResetSeen s) ⟨rfl, rfl⟩
  · exact hpruned
  · have hlif := ((frame_busResetOnline s.busResetPruned).lif_eq rfl)
    exact hpruned.of_link (by rw [hlif]) (by simp [State.OnBus, busResetOnline_mbr]) (by rw [hlif]; exact id)
      (by rw [hlif]; exact id)
  · exact hpruned.of_detach (leaveBus_lif _ _)

/-! ### Sleep and wake -/

theorem forInputs_setInput_lif (f : Fin 4 → State → Input) (s : State) :
    (forInputs (fun i t => t.setInput i (f i t)) s).lif = s.lif :=
  ((frame_forInputs (c := [.pin]) _ (fun i t => frame_setInput t i _) s).lif_eq rfl)

theorem enterSleep_drivers (s : State) : DriversOk s.enterSleep := by
  have h : s.enterSleep.lif = { s.lif.quiet with
      startDetector := decide (s.OnBus ∧ s.lif.link = .idle), stbPin := s.lif.stb, datPin := s.lif.dat } :=
    forInputs_setInput_lif _ _
  exact .of_released (by rw [h]; rfl) (by rw [h]; rfl)

@[simp] theorem awake_lif (s : State) : s.awake.lif = s.lif.resume :=
  ((frame_forInputs (c := [.pin]) _ (fun i t => frame_resumeInput t i) _).lif_eq rfl)

theorem awake_drivers {s : State} (hs : DriversOk s) : DriversOk s.awake :=
  hs.of_link (by simp [Lif.resume]) (by simp [State.OnBus, ((frame_awake s).mbr_eq rfl)]) (by simp [Lif.resume])
    (by simp [Lif.resume])

theorem startWake_drivers {s : State} (hs : DriversOk s) : DriversOk s.startWake := by
  unfold State.startWake
  split
  · exact hs
  · split
    · exact hs
    · split
      · exact awake_drivers hs
      · exact hs.of_frame (frame_setTsc s _) ⟨rfl, rfl⟩

theorem rawEdge_drivers {s : State} (hs : DriversOk s) (i : Fin 4) (l : Level) : DriversOk (s.rawEdge i l) := by
  have h := hs.of_frame (frame_movePin s i l) ⟨rfl, rfl⟩
  unfold State.rawEdge
  dsimp only
  split
  · exact startWake_drivers h
  · exact h

/-! ### Steps -/

@[simp] theorem filterStb_link (x : Lif) (pin : Level) : (x.filterStb pin).link = x.link := by rw [filterStb_frame]
@[simp] theorem filterStb_stbDrive (x : Lif) (pin : Level) : (x.filterStb pin).stbDrive = x.stbDrive := by rw [filterStb_frame]
@[simp] theorem filterStb_datDrive (x : Lif) (pin : Level) : (x.filterStb pin).datDrive = x.datDrive := by rw [filterStb_frame]
@[simp] theorem filterStb_begun (x : Lif) (pin : Level) : (x.filterStb pin).begun = x.begun := by rw [filterStb_frame]
@[simp] theorem filterStb_idleTimer (x : Lif) (pin : Level) : (x.filterStb pin).idleTimer = x.idleTimer := by rw [filterStb_frame]
@[simp] theorem filterStb_tLow (x : Lif) (pin : Level) : (x.filterStb pin).tLow = x.tLow := by rw [filterStb_frame]
@[simp] theorem filterStb_tHigh (x : Lif) (pin : Level) : (x.filterStb pin).tHigh = x.tHigh := by rw [filterStb_frame]
@[simp] theorem filterStb_pulse (x : Lif) (pin : Level) : (x.filterStb pin).pulse = x.pulse := by rw [filterStb_frame]
@[simp] theorem filterStb_stretch (x : Lif) (pin : Level) : (x.filterStb pin).stretch = x.stretch := by rw [filterStb_frame]
@[simp] theorem filterStb_armed (x : Lif) (pin : Level) : (x.filterStb pin).armed = x.armed := by rw [filterStb_frame]
@[simp] theorem filterStb_ownPulse (x : Lif) (pin : Level) : (x.filterStb pin).ownPulse = x.ownPulse := by rw [filterStb_frame]
@[simp] theorem filterStb_startDetector (x : Lif) (pin : Level) : (x.filterStb pin).startDetector = x.startDetector := by rw [filterStb_frame]
@[simp] theorem filterStb_dat (x : Lif) (pin : Level) : (x.filterStb pin).dat = x.dat := by rw [filterStb_frame]
@[simp] theorem filterStb_datStuck (x : Lif) (pin : Level) : (x.filterStb pin).datStuck = x.datStuck := by rw [filterStb_frame]
@[simp] theorem filterStb_datLast (x : Lif) (pin : Level) : (x.filterStb pin).datLast = x.datLast := by rw [filterStb_frame]
@[simp] theorem filterStb_datExempt (x : Lif) (pin : Level) : (x.filterStb pin).datExempt = x.datExempt := by rw [filterStb_frame]
@[simp] theorem filterDat_link (x : Lif) (pin : Level) : (x.filterDat pin).link = x.link := by rw [filterDat_frame]
@[simp] theorem filterDat_stbDrive (x : Lif) (pin : Level) : (x.filterDat pin).stbDrive = x.stbDrive := by rw [filterDat_frame]
@[simp] theorem filterDat_datDrive (x : Lif) (pin : Level) : (x.filterDat pin).datDrive = x.datDrive := by rw [filterDat_frame]
@[simp] theorem filterDat_begun (x : Lif) (pin : Level) : (x.filterDat pin).begun = x.begun := by rw [filterDat_frame]
@[simp] theorem filterDat_idleTimer (x : Lif) (pin : Level) : (x.filterDat pin).idleTimer = x.idleTimer := by rw [filterDat_frame]
@[simp] theorem filterDat_tLow (x : Lif) (pin : Level) : (x.filterDat pin).tLow = x.tLow := by rw [filterDat_frame]
@[simp] theorem filterDat_tHigh (x : Lif) (pin : Level) : (x.filterDat pin).tHigh = x.tHigh := by rw [filterDat_frame]
@[simp] theorem filterDat_pulse (x : Lif) (pin : Level) : (x.filterDat pin).pulse = x.pulse := by rw [filterDat_frame]
@[simp] theorem filterDat_stretch (x : Lif) (pin : Level) : (x.filterDat pin).stretch = x.stretch := by rw [filterDat_frame]
@[simp] theorem filterDat_armed (x : Lif) (pin : Level) : (x.filterDat pin).armed = x.armed := by rw [filterDat_frame]
@[simp] theorem filterDat_ownPulse (x : Lif) (pin : Level) : (x.filterDat pin).ownPulse = x.ownPulse := by rw [filterDat_frame]
@[simp] theorem filterDat_startDetector (x : Lif) (pin : Level) : (x.filterDat pin).startDetector = x.startDetector := by rw [filterDat_frame]
@[simp] theorem filterDat_stb (x : Lif) (pin : Level) : (x.filterDat pin).stb = x.stb := by rw [filterDat_frame]
@[simp] theorem filterDat_stbStuck (x : Lif) (pin : Level) : (x.filterDat pin).stbStuck = x.stbStuck := by rw [filterDat_frame]
@[simp] theorem filterDat_stbLast (x : Lif) (pin : Level) : (x.filterDat pin).stbLast = x.stbLast := by rw [filterDat_frame]
@[simp] theorem filterDat_stbExempt (x : Lif) (pin : Level) : (x.filterDat pin).stbExempt = x.stbExempt := by rw [filterDat_frame]

/-- Where the link is left and no driver is pulled, seeing levels and counting them changes nothing R5 speaks of. -/
theorem lifCounted_drives (s : State) :
    s.lifCounted.datDrive = s.lif.datDrive
      ∧ s.lifCounted.stbDrive = (if s.lif.link = .resetting ∧ s.lifCounted.dat = .low then .low else s.lif.stbDrive) := by
  simp [State.lifCounted, Lif.count]

theorem pullsStb_some {s : State} {y : Lif} (h : s.pullsStb y = true) :
    s.OnBus ∧ (y.link = .round ∨ y.link = .closing) := by
  simp only [State.pullsStb, Bool.and_eq_true, Bool.or_eq_true, decide_eq_true_eq, beq_iff_eq] at h
  obtain ⟨⟨⟨⟨⟨hbus, hlink⟩, _⟩, _⟩, _⟩, _⟩ := h
  exact ⟨hbus, hlink⟩

/-- A tick pulls STB in RESETTING, and in ROUND and CLOSING on the bus (R9, R11, R13, R17). -/
theorem counted_drivers {s t : State} (h : Counted s t) (hs : DriversOk s) : DriversOk t := by
  have hbus : t.OnBus ↔ s.OnBus := by
    have hm := congrArg Mbr.membership h.mbr
    simp only [State.OnBus]
    rw [hm]
  have hlink : t.lif.link = s.lif.link := by
    rw [h.lif, lifAfter_frame]
    exact (lifCounted_fields s).1
  have hdat : t.lif.datDrive = s.lif.datDrive := by
    rw [h.lif, lifAfter_frame]
    exact (lifCounted_drives s).1
  refine ⟨fun hd => ?_, fun hd => ?_⟩
  · rw [hlink, hbus]
    rw [h.lif, (lifAfter_pull s).1] at hd
    split at hd
    · obtain ⟨hon, hl⟩ := pullsStb_some ‹_›
      rw [(lifCounted_fields s).1] at hl
      exact .inr ⟨hon, hl⟩
    · rw [(lifCounted_drives s).2] at hd
      split at hd
      · exact .inl (And.left ‹_›)
      · exact hs.stb hd
  · rw [hlink, hbus]
    exact hs.dat (hdat ▸ hd)

/-- Every effect of a row leaves the drivers where R5 lets them be. -/
theorem effect_drivers {c : Instr} {s t : State} (h : Effect c s t) (hs : DriversOk s) : DriversOk t := by
  cases h with
  | join hoff _ =>
    unfold State.joinNow
    dsimp only
    split
    · exact .of_released (by rw [stuckNow_lif]; rfl) (by rw [stuckNow_lif]; rfl)
    · exact .of_released rfl rfl
  | leave hon =>
    have hlif := ((frame_leaveNow s).lif_eq rfl)
    exact hs.of_link (by rw [hlif]) (fun _ => by simp [State.OnBus, State.leaveNow]) (by rw [hlif]; exact id)
      (by rw [hlif]; exact id)
  | busReset _ => exact .of_resetting (by rw [abandon_lif]; rfl)
  | arrive _ _ => exact hs.of_frame (frame_attempt s _ _ _) ⟨rfl, rfl⟩
  | withdraw _ => exact hs.of_frame (frame_withdrawCommand s _) ⟨rfl, rfl⟩
  | clearSlot _ => exact hs.of_frame (frame_clearCommand s _) ⟨rfl, rfl⟩
  | setFlags _ => exact hs.of_frame (frame_requestSet s _) ⟨rfl, rfl⟩
  | clearFlags _ => exact hs.of_frame (frame_requestClear s _) ⟨rfl, rfl⟩
  | halt _ _ => exact hs.of_frame (frame_commandHalt s _) ⟨rfl, rfl⟩
  | resume _ _ => exact hs.of_frame (frame_askResume s) ⟨rfl, rfl⟩
  | clearEvents _ _ _ | setMask _ _ _ | clearMask _ _ _ => exact hs.of_frame (frame_setNtf s _) ⟨rfl, rfl⟩
  | writeStationConfig _ _ => exact hs.of_frame (frame_setCfg s _) ⟨rfl, rfl⟩
  | writeSlotConfig _ _ => exact hs.of_frame (frame_setSlot s _ _) ⟨rfl, rfl⟩
  | writePinConfig _ _ => exact hs.of_frame (frame_setPin s _) ⟨rfl, rfl⟩
  | sleep _ | autoSleepExpiry _ => exact enterSleep_drivers s
  | wake => exact startWake_drivers hs
  | softReset => exact .of_released rfl rfl
  | powerOn => exact .of_released rfl rfl
  | resetn => exact .of_released rfl rfl
  | resetnHeld => exact hs.of_frame (frame_setTsc s _) ⟨rfl, rfl⟩
  | internalResetEnd _ => exact .of_released rfl rfl
  | startIssued hbus hlink =>
    refine ⟨fun hd => ?_, fun _ => .inr ⟨hbus, .inl hlink⟩⟩
    rcases hs.stb hd with hl | ⟨_, hl⟩ <;> rw [hlink] at hl <;> simp at hl
  | roundStart hbus _ => exact .of_onBus hbus (.inl rfl)
  | unframedActivity => exact .of_released rfl rfl
  | haltRound h => exact (endRound_drivers hs (acceptedRound_some h).1 .high).of_frame (frame_haltEffects _ _ _) ⟨rfl, rfl⟩
  | resumeRound h => exact (endRound_drivers hs (acceptedRound_some h).1 .high).of_frame (frame_resumeEffects _ _ _) ⟨rfl, rfl⟩
  | joinRound h => exact joinEffects_drivers (endRound_drivers hs (acceptedRound_some h).1 .high) _ _
  | arriveRound h => exact (endRound_drivers hs (acceptedRound_some h).1 .high).of_frame (frame_arriveEffects _ _ _) ⟨rfl, rfl⟩
  | flagsRound h => exact (endRound_drivers hs (acceptedRound_some h).1 .high).of_frame (frame_flagsEffects _ _ _) ⟨rfl, rfl⟩
  | rollRound h => exact rollEffects_drivers (endRound_drivers hs (acceptedRound_some h).1 .high) _ _
  | voidRound h => exact voidEffects_drivers (endRound_drivers hs h _) _
  | closingEndHigh | closingEndLow => exact .of_released rfl rfl
  | framingViolation => exact .of_released (by rw [abandon_lif]; rfl) (by rw [abandon_lif]; rfl)
  | busIdle hstb hdat _ _ => exact .of_released (by simpa using hstb) (by simpa using hdat)
  | lineStuck _ _ _ => exact .of_released (by rw [stuckNow_lif]; rfl) (by rw [stuckNow_lif]; rfl)
  | busResetPulseEnd => exact .of_released rfl rfl
  | busResetArmedSeek => exact .of_released (by rw [abandon_lif]; rfl) (by rw [abandon_lif]; rfl)
  | busResetArmed => exact hs.of_link (by simp [Lif.lowForArming]) id (by simp [Lif.lowForArming]) (by simp [Lif.lowForArming])
  | busResetRecognised =>
    exact busResetEffects_drivers (hs.of_link (by simp [Lif.recognise]) id (by simp [Lif.recognise]) (by simp [Lif.recognise]))
  | rollTimerExpiry _ => exact hs.of_link rfl id id id
  | timeoutPending _ _ => exact hs.of_frame (frame_setSlot s _ _) ⟨rfl, rfl⟩
  | timeout i _ => exact hs.of_frame (frame_timeoutNow s i) ⟨rfl, rfl⟩
  | movePin i l => exact hs.of_frame (frame_movePin s i l) ⟨rfl, rfl⟩
  | inputChange i l _ | wakeInputEdge i l => exact rawEdge_drivers hs i l
  | inputAccepted i => exact (hs.of_frame (frame_acceptLevel s i) ⟨rfl, rfl⟩).of_frame (frame_actOnBinding _ _ _) ⟨rfl, rfl⟩
  | pulseEnd o => exact hs.of_frame (frame_setOutput s o _) ⟨rfl, rfl⟩
  | oscillatorStop => exact hs.of_frame (frame_setTsc s _) ⟨rfl, rfl⟩
  | asyncStart hbus => exact startWake_drivers (.of_onBus hbus (.inl rfl))
  | oscillatorRuns => exact awake_drivers hs
  | positionBegins hbus hlink _ =>
    have hf := frame_beginPosition s ‹_›
    refine .of_onBus (by rw [State.OnBus, (hf.mbr_eq rfl)]; exact hbus) (.inl ?_)
    simp [State.beginPosition, Lif.beginLow, ((frame_beginField s _).lif_eq rfl), hlink]
  | closingBegins hbus hlink => exact .of_onBus hbus (.inr (by simp [Lif.beginLow, hlink]))
  | positionSampled _ _ => exact hs.of_link (by simp) id (by simp) (by simp)
  | tlowExpired => exact hs.of_link rfl id (by simp) id
  | datFallInClosing => exact .of_released rfl rfl
  | busResetDetectorDisarmed line =>
    refine hs.of_link ?_ id ?_ ?_ <;> cases line <;> simp [Lif.disarmDetector]

/-- Settles O58: the invariant is kept by each effect of a row, by the counts of a tick and by everything that leaves line
interface and membership alone. -/
theorem everyStepKeepsTheDriversReleased : Obligations.EveryStepKeepsTheDriversReleased := fun _ _ hs h =>
  step_keeps (fun _ _ hf hs => hs.of_frame hf ⟨rfl, rfl⟩) (fun _ _ => counted_drivers) (fun _ _ _ hs => hs.of_link rfl id id id)
    (fun _ _ _ => effect_drivers) hs h

end Sys2Proof.Machine
end

section
/-! What no meaning but its own commands' changes: configurations, the station number, records already in the log, kinds
already pending, and the masks (R154, R158, R161). -/

namespace Sys2Proof.Machine

/-! ### The relation -/

/-- Configurations and number stand, records and pending kinds have at most been added, the log is within its bound, and the
masks stand. -/
structure Steady (s t : State) : Prop where
  cfg : t.cfg = s.cfg
  number : t.mbr.number = s.mbr.number
  slotCfg : ∀ i, (t.slot i).cfg = (s.slot i).cfg
  pinCfg : t.pin.cfg = s.pin.cfg
  records : s.log.records <+: t.log.records
  bounded : LogBounded s → LogBounded t
  pendA : s.ntf.pendA &&& ~~~t.ntf.pendA = 0#9
  pendB : s.ntf.pendB &&& ~~~t.ntf.pendB = 0#9
  maskA : t.ntf.maskA = s.ntf.maskA
  maskB : t.ntf.maskB = s.ntf.maskB

/-- Besides, inputs have at most been disarmed, and no result record has changed. -/
structure Mild (s t : State) : Prop extends Steady s t where
  disarms : OnlyDisarms s t
  results : ∀ i, (t.slot i).result = (s.slot i).result

theorem and_not_trans {x y z : EventSet} (hxy : x &&& ~~~y = 0#9) (hyz : y &&& ~~~z = 0#9) : x &&& ~~~z = 0#9 := by
  ext i hi
  have h₁ := congrArg (BitVec.getLsbD · i) hxy
  have h₂ := congrArg (BitVec.getLsbD · i) hyz
  simp [hi] at h₁ h₂ ⊢
  grind

@[simp] theorem and_not_self (x : EventSet) : x &&& ~~~x = 0#9 := by simp

theorem and_not_or (x y : EventSet) : x &&& ~~~(x ||| y) = 0#9 := by
  ext i hi
  simp
  grind

theorem Steady.refl (s : State) : Steady s s :=
  ⟨rfl, rfl, fun _ => rfl, rfl, List.prefix_rfl, id, and_not_self _, and_not_self _, rfl, rfl⟩

theorem Steady.trans {s t u : State} (h₁ : Steady s t) (h₂ : Steady t u) : Steady s u where
  cfg := h₂.cfg.trans h₁.cfg
  number := h₂.number.trans h₁.number
  slotCfg := fun i => (h₂.slotCfg i).trans (h₁.slotCfg i)
  pinCfg := h₂.pinCfg.trans h₁.pinCfg
  records := h₁.records.trans h₂.records
  bounded := h₂.bounded ∘ h₁.bounded
  pendA := and_not_trans h₁.pendA h₂.pendA
  pendB := and_not_trans h₁.pendB h₂.pendB
  maskA := h₂.maskA.trans h₁.maskA
  maskB := h₂.maskB.trans h₁.maskB

theorem OnlyDisarms.refl (s : State) : OnlyDisarms s s := ⟨rfl, rfl, fun _ => .inl rfl⟩

theorem OnlyDisarms.trans {s t u : State} (h₁ : OnlyDisarms s t) (h₂ : OnlyDisarms t u) : OnlyDisarms s u := by
  obtain ⟨hcfg, hout, hin⟩ := h₁
  obtain ⟨hcfg', hout', hin'⟩ := h₂
  refine ⟨hcfg'.trans hcfg, hout'.trans hout, fun k => ?_⟩
  rcases hin k with h | h <;> rcases hin' k with h' | h' <;> simp [h', h]

theorem OnlyDisarms.of_pin {s t : State} (h : t.pin = s.pin) : OnlyDisarms s t := by
  refine ⟨by rw [h], by rw [h], fun k => .inl ?_⟩
  simp only [State.input, h]

theorem Mild.refl (s : State) : Mild s s := ⟨.refl s, .refl s, fun _ => rfl⟩

theorem Mild.trans {s t u : State} (h₁ : Mild s t) (h₂ : Mild t u) : Mild s u :=
  ⟨h₁.toSteady.trans h₂.toSteady, h₁.disarms.trans h₂.disarms, fun i => (h₂.results i).trans (h₁.results i)⟩

/-- The blocks the relation does not look at. -/
def freeBlocks : List Block := [.lif, .rnd, .flg, .hlt, .cmd, .tsc, .bus, .spi, .pending]

theorem Mild.of_frame {c : List Block} {s t : State} (h : Frame c s t) (hc : c.all (freeBlocks.contains ·) = true) :
    Mild s t := by
  have hsub : c ⊆ freeBlocks := fun b hb => by
    have := List.all_eq_true.mp hc b hb
    simpa using this
  have hf := h.mono hsub
  have hcfg : t.cfg = s.cfg := hf.cfg_eq rfl
  have hmbr : t.mbr = s.mbr := hf.mbr_eq rfl
  have hslots : t.slots = s.slots := hf.slots_eq rfl
  have hpin : t.pin = s.pin := hf.pin_eq rfl
  have hlog : t.log = s.log := hf.log_eq rfl
  have hntf : t.ntf = s.ntf := hf.ntf_eq rfl
  refine ⟨⟨hcfg, by rw [hmbr], ?_, by rw [hpin], by rw [hlog], ?_, ?_, ?_, by rw [hntf], by rw [hntf]⟩, .of_pin hpin, ?_⟩
  · intro i; simp only [State.slot, hslots]
  · simp only [LogBounded, hlog]; exact id
  · rw [hntf]; exact and_not_self _
  · rw [hntf]; exact and_not_self _
  · intro i; simp only [State.slot, hslots]

theorem Mild.ite {p : Prop} [Decidable p] {s t u : State} (ht : Mild s t) (hu : Mild s u) : Mild s (if p then t else u) := by
  split
  · exact ht
  · exact hu

theorem Mild.forSlots {f : SlotNo → State → State} (hf : ∀ i t, Mild t (f i t)) (s : State) : Mild s (forSlots f s) :=
  forSlots_keeps (Mild s) f (fun i t h => h.trans (hf i t)) s (.refl s)

theorem Mild.forInputs {f : Fin 4 → State → State} (hf : ∀ i t, Mild t (f i t)) (s : State) : Mild s (forInputs f s) :=
  forInputs_keeps (Mild s) f (fun i t h => h.trans (hf i t)) s (.refl s)

/-! ### Block updates -/

theorem mild_setMbr (s : State) {x : Mbr} (h : x.number = s.mbr.number) : Mild s (s.setMbr x) :=
  ⟨{ Steady.refl s with number := h }, .refl s, fun _ => rfl⟩

theorem steady_setSlot (s : State) (i : SlotNo) {x : Slot} (hcfg : x.cfg = (s.slot i).cfg) : Steady s (s.setSlot i x) :=
  { Steady.refl s with
    slotCfg := fun j => by
      rw [slot_setSlot]
      split
      · rw [hcfg, ‹j = i›]
      · rfl }

theorem mild_setSlot (s : State) (i : SlotNo) {x : Slot} (hcfg : x.cfg = (s.slot i).cfg)
    (hresult : x.result = (s.slot i).result) : Mild s (s.setSlot i x) where
  toSteady := steady_setSlot s i hcfg
  disarms := .refl s
  results := fun j => by
    rw [slot_setSlot]
    split
    · rw [hresult, ‹j = i›]
    · rfl

theorem mild_raise (s : State) (e : Event) : Mild s (s.raise e) :=
  ⟨{ Steady.refl s with pendA := and_not_or _ _, pendB := and_not_or _ _ }, .refl s, fun _ => rfl⟩

theorem mild_raiseSlot (s : State) (i : SlotNo) : Mild s (s.raiseSlot i) where
  toSteady := { Steady.refl s with
    pendA := by
      simp only [State.raiseSlot, setNtf_ntf]
      split
      · exact and_not_or _ _
      · exact and_not_self _
    pendB := by
      simp only [State.raiseSlot, setNtf_ntf]
      split
      · exact and_not_or _ _
      · exact and_not_self _ }
  disarms := .refl s
  results := fun _ => rfl

theorem mild_setLog (s : State) {x : Log} (hrec : s.log.records <+: x.records) (hb : LogBounded s → x.records.length ≤ 16) :
    Mild s (s.setLog x) :=
  ⟨⟨rfl, rfl, fun _ => rfl, rfl, hrec, hb, and_not_self _, and_not_self _, rfl, rfl⟩, ⟨rfl, rfl, fun _ => .inl rfl⟩,
    fun _ => rfl⟩

theorem mild_offer (s : State) (k : Kind) (n : Fin 32) (tag : Byte) (set : Set32) (v : Half) :
    Mild s (s.offer k n tag set v) := by
  unfold State.offer
  split
  · exact .refl s
  · split
    · refine .trans (mild_setLog s (List.prefix_append _ _) fun _ => ?_) (mild_raise _ _)
      rw [List.length_append, List.length_singleton]
      exact ‹_ < Config.logCapacity›
    · exact .trans (mild_setLog s (x := { s.log with next := s.log.next + 1 }) List.prefix_rfl id) (mild_raise _ _)

theorem mild_offerSlot (s : State) (i : SlotNo) (k : Kind) (tag : Byte) (set : Set32) (v : Half) :
    Mild s (s.offerSlot i k tag set v) :=
  (Mild.ite (mild_offer s _ _ _ _ _) (.refl s)).trans (mild_raiseSlot _ _)

theorem steady_setInput (s : State) (i : Fin 4) (x : Input) : Steady s (s.setInput i x) :=
  ⟨rfl, rfl, fun _ => rfl, rfl, List.prefix_rfl, id, and_not_self _, and_not_self _, rfl, rfl⟩

theorem steady_setOutput (s : State) (o : Fin 4) (x : Output) : Steady s (s.setOutput o x) :=
  ⟨rfl, rfl, fun _ => rfl, rfl, List.prefix_rfl, id, and_not_self _, and_not_self _, rfl, rfl⟩

theorem mild_disarm (s : State) (k : Fin 4) : Mild s (s.disarm k) := by
  unfold State.disarm
  split
  · refine ⟨steady_setInput s k _, ⟨rfl, rfl, fun j => ?_⟩, fun _ => rfl⟩
    by_cases h : j = k
    · subst h
      exact .inr (input_setInput_same s j _)
    · exact .inl (input_setInput_ne s k j _ h)
  · exact .refl s

theorem mild_disarmSource (s : State) (a : Option Arrival) : Mild s (s.disarmSource a) := by
  unfold State.disarmSource
  split
  · exact mild_disarm s _
  · exact .refl s

theorem mild_place (s : State) (c : Class) (n : Fin 32) : Mild s (s.place c n) := .of_frame (frame_place s c n) rfl
theorem mild_remove (s : State) (c : Class) (n : Fin 32) : Mild s (s.remove c n) := .of_frame (frame_remove s c n) rfl
theorem mild_zeroVoids (s : State) (c : Class) (n : Fin 32) : Mild s (s.zeroVoids c n) :=
  .of_frame (frame_zeroVoids s c n) rfl
theorem mild_setLif (s : State) (x : Lif) : Mild s (s.setLif x) := .of_frame (frame_setLif s x) rfl
theorem mild_setTsc (s : State) (x : Tsc) : Mild s (s.setTsc x) := .of_frame (frame_setTsc s x) rfl
theorem mild_setRnd (s : State) (x : Rnd) : Mild s (s.setRnd x) := .of_frame (frame_setRnd s x) rfl
theorem mild_setFlg (s : State) (x : Flg) : Mild s (s.setFlg x) := .of_frame (frame_setFlg s x) rfl
theorem mild_setHlt (s : State) (x : Hlt) : Mild s (s.setHlt x) := .of_frame (frame_setHlt s x) rfl

/-! ### Slots, flags and halt unit -/

theorem mild_changeWord (s : State) (new : Word) (cause : Byte) : Mild s (s.changeWord new cause) := by
  unfold State.changeWord
  exact .ite (mild_setFlg s _) (((mild_setFlg s _).trans (mild_offer _ _ _ _ _ _)).trans (mild_raise _ _))

theorem mild_takeArrival (s : State) (i : SlotNo) (v : Half) (src : Source) : Mild s (s.takeArrival i v src) :=
  (mild_setSlot s i (by rfl) (by rfl)).trans (mild_place _ _ _)

theorem mild_attempt (s : State) (i : SlotNo) (v : Half) (src : Source) : Mild s (s.attempt i v src).1 := by
  unfold State.attempt
  split
  · exact mild_takeArrival s i v src
  · exact .refl s

theorem mild_levelAttempt (s : State) (k : Fin 4) : Mild s (s.levelAttempt k) := by
  unfold State.levelAttempt
  exact .ite (mild_attempt s _ _ _) (mild_disarm s k)

theorem mild_removeArrival (s : State) (i : SlotNo) : Mild s (s.removeArrival i) :=
  ((mild_setSlot s i (by rfl) (by rfl)).trans (mild_remove _ _ _)).trans (mild_disarmSource _ _)

theorem mild_withdrawNow (s : State) (i : SlotNo) (k : Kind) : Mild s (s.withdrawNow i k) :=
  (mild_removeArrival s i).trans (mild_offerSlot _ _ _ _ _ _)

theorem mild_abortNow (s : State) (i : SlotNo) (reason : Byte) : Mild s (s.abortNow i reason) :=
  (mild_removeArrival s i).trans (mild_offerSlot _ _ _ _ _ _)

theorem mild_timeoutNow (s : State) (i : SlotNo) : Mild s (s.timeoutNow i) := by
  unfold State.timeoutNow
  dsimp only
  split
  · exact (mild_withdrawNow s i _).trans (.of_frame (frame_haltSource _ _) rfl)
  · exact mild_withdrawNow s i _

theorem mild_haltAbortSlot (i : SlotNo) (s : State) : Mild s (State.haltAbortSlot i s) := by
  have h : Mild s (if (s.slot i).state = .waiting then s.abortNow i reasonHalt else s) := .ite (mild_abortNow s i _) (.refl s)
  exact .ite (h.trans (mild_setSlot _ i (by rfl) (by rfl))) h

theorem mild_haltAbort (s : State) : Mild s s.haltAbort := .forSlots mild_haltAbortSlot s

theorem mild_resolveUncompleted (s : State) (i : SlotNo) : Mild s (s.resolveUncompleted i) := by
  unfold State.resolveUncompleted
  exact .ite (.ite (mild_withdrawNow s i _) (.ite (mild_timeoutNow s i) (mild_setSlot s i (by rfl) (by rfl)))) (.refl s)

theorem mild_rebaseSlot (reason : Byte) (sync : Sync) (i : SlotNo) (s : State) :
    Mild s (State.rebaseSlot reason sync i s) := by
  have h : Mild s (if (s.slot i).state = .waiting then s.abortNow i reason else s) := .ite (mild_abortNow s i _) (.refl s)
  exact .ite (h.trans (mild_setSlot _ i (by rfl) (by rfl))) (.refl s)

theorem mild_resumeNow (s : State) (requesters : Set32) : Mild s (s.resumeNow requesters) := by
  have h : Mild s (((s.setHlt { Hlt.clear .running with request := s.hlt.request }).offer .resume s.mbr.number causeRound
      requesters 0#16).raise .resume) :=
    ((mild_setHlt s _).trans (mild_offer _ _ _ _ _ _)).trans (mild_raise _ _)
  exact (h.trans (.of_frame (frame_renewCommandHold _ _) rfl)).trans
    (.forInputs (fun i t => .of_frame (frame_renewInputHold s.hlt i t) rfl) _)

theorem mild_withdrawOrDefer (i : SlotNo) (s : State) : Mild s (State.withdrawOrDefer i s) := by
  unfold State.withdrawOrDefer
  dsimp only
  split
  · exact .ite (mild_setSlot s i (by rfl) (by rfl)) (mild_withdrawNow s i _)
  · exact .refl s
  · exact .refl s
  · exact .refl s

theorem mild_withdrawCommand (s : State) (i : SlotNo) : Mild s (s.withdrawCommand i).1 := by
  unfold State.withdrawCommand
  dsimp only
  split
  · exact .refl s
  · split
    · exact .refl s
    · split
      · exact .refl s
      · split
        · exact mild_setSlot s i (by rfl) (by rfl)
        · exact mild_withdrawNow s i _

theorem mild_clearing (s : State) (i : SlotNo) {x : Slot} (hcfg : x.cfg = (s.slot i).cfg)
    (hresult : x.result = (s.slot i).result) : Mild s (forInputs (State.disarmBound i) (s.setSlot i x)) :=
  (mild_setSlot s i hcfg hresult).trans (.forInputs (fun k t => .ite (mild_disarm t k) (.refl t)) _)

theorem mild_clearCommand (s : State) (i : SlotNo) : Mild s (s.clearCommand i).1 := by
  unfold State.clearCommand
  dsimp only
  split
  · exact .refl s
  · split
    · exact .refl s
    · dsimp only
      exact mild_clearing s i (by rfl) (by rfl)

/-! ### Membership -/

theorem mild_enter (s : State) (m : Membership) : Mild s (s.enter m) := (mild_setMbr s (by rfl)).trans (mild_raise _ _)

theorem mild_changeRoster (s : State) (new : Set32) (sel : Fin 32) (cause : Byte) : Mild s (s.changeRoster new sel cause) := by
  unfold State.changeRoster
  exact .ite (.refl s) (((mild_setMbr s (by rfl)).trans (mild_offer _ _ _ _ _ _)).trans (mild_raise _ _))

theorem mild_goOffline (s : State) : Mild s s.goOffline := by
  unfold State.goOffline
  refine .trans ?_ (.forSlots (mild_rebaseSlot _ _) _)
  refine .trans ?_ (mild_setHlt _ _)
  refine .trans ?_ (mild_setFlg _ _)
  refine .trans ?_ (mild_setLif _ _)
  refine .trans ?_ (mild_setRnd _ _)
  exact (mild_enter s _).trans (mild_setMbr _ (by rfl))

theorem mild_leaveBus (s : State) (cause : Byte) : Mild s (s.leaveBus cause) :=
  (mild_offer s _ _ _ _ _).trans (mild_goOffline _)

theorem mild_refuseJoin (s : State) (reason : Byte) (set : Set32) : Mild s (s.refuseJoin reason set) :=
  (mild_offer s _ _ _ _ _).trans (mild_goOffline _)

theorem mild_busFault (s : State) (stb dat : Bool) : Mild s (s.busFault stb dat) := by
  have h := (mild_offer s .busFault s.mbr.number (stuckTag stb dat) s.mbr.roster 0#16).trans (mild_raise _ .bus)
  exact .ite (h.trans (mild_goOffline _)) h

theorem mild_resolveLatches (s : State) (r : Round) : Mild s (s.resolveLatches r) := by
  unfold State.resolveLatches
  split
  · exact mild_resolveUncompleted s _
  · exact .refl s

theorem mild_framingRecord (s : State) (r : Round) : Mild s (s.framingRecord r) := by
  unfold State.framingRecord
  dsimp only
  split
  · exact (mild_offer s _ _ _ _ _).trans (mild_raise _ _)
  · exact (mild_offer s _ _ _ _ _).trans (mild_raise _ _)

theorem mild_abandon (s : State) (framing : Bool) : Mild s (s.abandon framing) := by
  unfold State.abandon
  split
  · exact .refl s
  · have h := fun r => (mild_setRnd s { s.rnd with round := none }).trans (mild_resolveLatches _ r)
    exact .ite ((h _).trans (mild_framingRecord _ _)) (h _)

theorem mild_stuckNow (s : State) (stb dat : Bool) : Mild s (s.stuckNow stb dat) :=
  ((mild_setLif s _).trans (mild_abandon _ _)).trans (mild_busFault _ _ _)

theorem mild_joinNow (s : State) : Mild s s.joinNow := by
  have h : Mild s
      ((((s.setMbr { s.mbr with nonce := some (s.tsc.time.setWidth 16) }).enter .joining).setLif
        ((s.setMbr { s.mbr with nonce := some (s.tsc.time.setWidth 16) }).enter .joining).lif.seek).place .join s.mbr.number) :=
    (((mild_setMbr s (by rfl)).trans (mild_enter _ _)).trans (mild_setLif _ _)).trans (mild_place _ _ _)
  exact .ite (h.trans (mild_stuckNow _ _ _)) h

theorem mild_leaveNow (s : State) : Mild s s.leaveNow :=
  ((((Mild.forSlots mild_withdrawOrDefer s).trans (.of_frame (frame_discardFlags _) rfl)).trans
    (.of_frame (frame_leaveHalt _) rfl)).trans (mild_enter _ _)).trans (mild_place _ _ _)

theorem mild_busResetFlags (s : State) : Mild s s.busResetFlags := (mild_setFlg s _).trans (mild_changeWord _ _ _)

theorem mild_busResetHalt (s : State) : Mild s s.busResetHalt := by
  unfold State.busResetHalt
  dsimp only
  split
  · exact ((mild_setHlt s _).trans (mild_offer _ _ _ _ _ _)).trans (mild_raise _ _)
  · exact mild_setHlt s _

theorem mild_busResetOnline (s : State) : Mild s s.busResetOnline := by
  unfold State.busResetOnline
  refine .trans ?_ (.forInputs (fun i t => .of_frame (frame_followInput false i t) rfl) _)
  refine .trans ?_ (mild_busResetHalt _)
  refine .trans ?_ (mild_busResetFlags _)
  refine .trans ?_ (.forSlots (mild_rebaseSlot _ _) _)
  exact ((mild_changeRoster s _ _ _).trans (mild_setMbr _ (by rfl))).trans (mild_place _ _ _)

theorem mild_busResetSeen (s : State) : Mild s s.busResetSeen := (mild_offer s _ _ _ _ _).trans (mild_raise _ .bus)

theorem mild_busResetEffects (s : State) : Mild s s.busResetEffects := by
  have hpruned : Mild s s.busResetPruned := (mild_busResetSeen s).trans (mild_setRnd _ _)
  rw [busResetEffects_eq]
  split
  · exact mild_busResetSeen s
  · exact hpruned
  · exact hpruned.trans (mild_busResetOnline _)
  · exact hpruned.trans (mild_leaveBus _ _)

/-! ### Rounds -/

theorem mild_latchSetA (s : State) (r : Round) (c : Class) (n : Fin 32) : Mild s (s.latchSetA r c n).1 := by
  unfold State.latchSetA
  split
  · split
    · exact mild_setSlot s _ (by rfl) (by rfl)
    · exact .refl s
  · split <;> exact .refl s
  · split <;> exact .refl s
  · exact .refl s
  · exact .refl s
  · exact .refl s

theorem mild_beginField (s : State) (r : Round) : Mild s (s.beginField r).1 := by
  unfold State.beginField
  split
  · exact .refl s
  · split
    · exact .refl s
    · split
      · exact .refl s
      · split
        · split <;> exact .refl s
        · split
          · exact .refl s
          · split
            · exact mild_latchSetA s r _ _
            · split
              · exact .refl s
              · split <;> exact .refl s

theorem mild_beginPosition (s : State) (r : Round) : Mild s (s.beginPosition r) :=
  ((mild_beginField s r).trans (mild_setRnd _ _)).trans (mild_setLif _ _)

theorem mild_endRound (s : State) (dis : Level) : Mild s (s.endRound dis) := (mild_setRnd s _).trans (mild_setLif _ _)

theorem mild_haltNow (s : State) (cause : Byte) (set : Set32) (value : Half) : Mild s (s.haltNow cause set value) := by
  unfold State.haltNow
  refine .trans ?_ (mild_haltAbort _)
  exact (((mild_setHlt s _).trans (.of_frame (frame_dropHaltRequest _) rfl)).trans (mild_offer _ _ _ _ _ _)).trans
    (mild_raise _ _)

theorem mild_haltEffects (r : Round) (n : Fin 32) (s : State) : Mild s (haltEffects r n s) :=
  .ite (mild_haltNow s _ _ _) (mild_zeroVoids s _ _)

theorem mild_resumeEffects (r : Round) (n : Fin 32) (s : State) : Mild s (resumeEffects r n s) := by
  have h : Mild s ((s.setHlt { s.hlt with resumePending := false }).remove .resume 0) :=
    (mild_setHlt s _).trans (mild_remove _ _ _)
  exact .ite (.ite (h.trans (mild_resumeNow _ _)) (h.trans ((mild_offer _ _ _ _ _ _).trans (mild_raise _ _))))
    (mild_zeroVoids s _ _)

theorem mild_adoptCondition (s : State) (r : Round) : Mild s (s.adoptCondition r) := by
  unfold State.adoptCondition
  exact .ite (((mild_setHlt s _).trans (mild_offer _ _ _ _ _ _)).trans (mild_raise _ _)) (.refl s)

theorem mild_admitJoiner (s : State) (r : Round) : Mild s (s.admitJoiner r) := by
  unfold State.admitJoiner
  refine .trans ?_ (.forInputs (fun i t => .of_frame (frame_followInput true i t) rfl) _)
  refine .trans ?_ (.forSlots (fun i t => .ite (mild_setSlot t i (by rfl) (by rfl)) (.refl t)) _)
  refine .trans ?_ (mild_adoptCondition _ r)
  refine .trans ?_ (mild_changeWord _ _ _)
  refine .trans ?_ (mild_offer _ _ _ _ _ _)
  exact ((mild_enter s _).trans (mild_setMbr _ (by rfl))).trans (mild_remove _ _ _)

theorem mild_memberJoin (s : State) (r : Round) (n : Fin 32) : Mild s (s.memberJoin r n) :=
  (Mild.ite (.refl s) (mild_changeRoster s _ _ _)).trans (mild_setMbr _ (by rfl))

theorem mild_joinEffects (r : Round) (n : Fin 32) (s : State) : Mild s (joinEffects r n s) := by
  unfold joinEffects
  split
  · exact .ite (.ite (mild_refuseJoin s _ _) (mild_admitJoiner s r)) (.refl s)
  · exact mild_memberJoin s r n
  · exact mild_memberJoin s r n
  · exact .refl s

theorem mild_resolveCompleted (s : State) (i : SlotNo) (x : Slot) (r : Round) : Mild s (s.resolveCompleted i x r) :=
  .ite (mild_offerSlot s _ _ _ _ _) (.refl s)

theorem mild_reattempt (s : State) (x : Slot) : Mild s (s.reattempt x) := by
  unfold State.reattempt
  split
  · exact .ite (mild_levelAttempt s _) (.refl s)
  · exact .refl s

theorem mild_offerProgress (s : State) (i : SlotNo) (r : Round) : Mild s (s.offerProgress i r) :=
  .ite (mild_offer s _ _ _ _ _) (.refl s)

/-- Adoption touches epoch and sync state alone (R98). -/
theorem adopt_eq (x : Slot) (tag : BitVec 4) : x.adopt tag = { x with epoch := x.epochAfter tag, sync := .synced } := by
  cases h : x.sync <;> simp [Slot.adopt, Slot.epochAfter, h]
  rw [← h]

theorem mild_progressSlot (s : State) (i : SlotNo) {x : Slot} (r : Round) (hcfg : x.cfg = (s.slot i).cfg)
    (hresult : x.result = (s.slot i).result) : Mild s (s.progressSlot i x r) := by
  unfold State.progressSlot
  refine .trans ?_ (mild_resolveUncompleted _ _)
  have h : Mild s ((s.setSlot i (if (x.advance r s.mbr.number).published then { x.advance r s.mbr.number with probe := false }
      else x.advance r s.mbr.number)).offerProgress i r) := by
    refine .trans (mild_setSlot s i ?_ ?_) (mild_offerProgress _ _ _) <;> split <;> assumption
  exact .ite (h.trans (mild_remove _ _ _)) (h.trans (mild_zeroVoids _ _ _))

theorem complete_cfg (x : Slot) (r : Round) (time : Word) : (x.complete r time).cfg = x.cfg := by
  unfold Slot.complete
  dsimp only
  split <;> rfl

theorem steady_outputsOnCompletion (s : State) (i : SlotNo) : Steady s (s.outputsOnCompletion i) := by
  have hact : ∀ (u : State) (o : Fin 4), Steady u (u.actOnCompletion i o) := fun u o => by
    unfold State.actOnCompletion
    split
    · split
      · exact steady_setOutput u o _
      · exact Steady.refl u
    · split
      · exact steady_setOutput u o _
      · exact Steady.refl u
    · exact Steady.refl u
  exact foldl_keeps (Steady s) _ (fun u o h => h.trans (hact u o)) _ s (.refl s)

/-- A completion up to its COMPLETE record (R99, R100). -/
theorem steady_completed (s : State) (i : SlotNo) {x : Slot} (r : Round) (hcfg : x.cfg = (s.slot i).cfg) :
    Steady s (((s.setSlot i (x.complete r s.tsc.time)).outputsOnCompletion i).offerSlot i .complete (epochTag x.epoch)
      r.setA r.val) :=
  ((steady_setSlot s i ((complete_cfg x r _).trans hcfg)).trans (steady_outputsOnCompletion _ _)).trans
    (mild_offerSlot _ _ _ _ _ _).toSteady

/-- A completion changes outputs and a result record, so that it is steady and no more. -/
theorem steady_completeSlot (s : State) (i : SlotNo) {x : Slot} (r : Round) (hcfg : x.cfg = (s.slot i).cfg) :
    Steady s (s.completeSlot i x r) := by
  have h := steady_completed s i r hcfg
  unfold State.completeSlot
  refine .trans ?_ (mild_reattempt _ _).toSteady
  refine .trans ?_ (mild_resolveCompleted _ _ _ _).toSteady
  split
  · exact h.trans (mild_zeroVoids _ _ _).toSteady
  · exact h.trans (mild_remove _ _ _).toSteady

theorem steady_arriveEffects (r : Round) (n : Fin 32) (s : State) : Steady s (arriveEffects r n s) := by
  unfold arriveEffects
  split
  · dsimp only
    split
    · exact steady_completeSlot s n r (by rw [adopt_eq])
    · exact (mild_progressSlot s n r (by rw [adopt_eq]) (by rw [adopt_eq])).toSteady
  · exact (mild_zeroVoids s _ _).toSteady

theorem mild_applyFlags (s : State) (sets clears latchS latchC : Set32) : Mild s (s.applyFlags sets clears latchS latchC) := by
  unfold State.applyFlags
  exact (Mild.ite ((mild_setFlg s _).trans (mild_remove _ _ _)) ((mild_setFlg s _).trans (mild_zeroVoids _ _ _))).trans
    (mild_changeWord _ _ _)

theorem mild_flagsEffects (r : Round) (n : Fin 32) (s : State) : Mild s (flagsEffects r n s) :=
  .ite (mild_applyFlags s _ _ _ _) (.refl s)

theorem mild_takeRoll (s : State) (r : Round) : Mild s (s.takeRoll r) := by
  have h : Mild s (((s.changeRoster r.setA s.mbr.number causeRoll).changeWord r.wordB causeRoll).repairCondition r) :=
    ((mild_changeRoster s _ _ _).trans (mild_changeWord _ _ _)).trans (.ite (mild_haltNow _ _ _ _) (.refl _))
  have hprobe : ∀ i t, Mild t (State.probeSlot i t) := fun i t =>
    .ite (.ite (.refl t) ((mild_setSlot t i (by rfl) (by rfl)).trans (mild_place _ _ _))) (.refl t)
  unfold State.takeRoll
  dsimp only
  split
  · exact h
  · exact h.trans (.forSlots hprobe _)

theorem mild_rollEffects (r : Round) (n : Fin 32) (s : State) : Mild s (rollEffects r n s) := by
  unfold rollEffects
  split
  · exact ((mild_setMbr s (by rfl)).trans (mild_remove _ _ _)).trans (mild_takeRoll _ _)
  · exact .ite (mild_leaveBus s _) (((mild_setMbr s (by rfl)).trans (mild_zeroVoids _ _ _)).trans (mild_takeRoll _ _))
  · exact .refl s
  · exact .refl s

theorem mild_voidRecord (s : State) (r : Round) : Mild s (s.voidRecord r) := (mild_offer s _ _ _ _ _).trans (mild_raise _ _)

theorem mild_droppedRecord (s : State) (c : Class) (n : Fin 32) (limit : Nat) : Mild s (s.droppedRecord c n limit) :=
  ((mild_remove s _ _).trans (mild_offer _ _ _ _ _ _)).trans (mild_raise _ _)

theorem mild_faultSlot (s : State) (i : SlotNo) : Mild s (s.faultSlot i) :=
  (((mild_setSlot s i (by rfl) (by rfl)).trans (mild_remove _ _ _)).trans (mild_disarmSource _ _)).trans (mild_offerSlot _ _ _ _ _ _)

theorem mild_dropEntry (s : State) (c : Class) (n : Fin 32) (limit : Nat) : Mild s (s.dropEntry c n limit) := by
  unfold State.dropEntry
  split
  · exact mild_faultSlot s n
  · exact mild_refuseJoin s _ _
  · exact (mild_droppedRecord s _ _ _).trans (mild_setHlt _ _)
  · exact (mild_droppedRecord s _ _ _).trans (mild_setHlt _ _)
  · exact (mild_droppedRecord s _ _ _).trans (mild_setFlg _ _)
  · exact .ite ((mild_droppedRecord s _ _ _).trans (mild_leaveBus _ _)) (mild_droppedRecord s _ _ _)

theorem mild_countVoid (s : State) (c : Class) (n : Fin 32) : Mild s (s.countVoid c n) := by
  unfold State.countVoid
  split
  · exact .refl s
  · exact .ite (mild_dropEntry s _ _ _) (mild_setRnd s _)

theorem mild_voidEffects (r : Round) (s : State) : Mild s (voidEffects r s) := by
  unfold voidEffects
  dsimp only
  split
  · exact mild_voidRecord s r
  · exact ((mild_voidRecord s r).trans (mild_countVoid _ _ _)).trans (mild_resolveLatches _ _)

/-! ### Pins, sleep and wake -/

theorem mild_inputArrive (s : State) (i : Fin 4) (l : Level) : Mild s (s.inputArrive i l) :=
  .ite (.ite (mild_levelAttempt s i) (.refl s)) (.ite (mild_attempt s _ _ _) (.refl s))

theorem mild_actOnBinding (s : State) (i : Fin 4) (l : Level) : Mild s (s.actOnBinding i l) := by
  unfold State.actOnBinding
  dsimp only
  split
  · exact .refl s
  · exact mild_inputArrive s i l
  · exact .ite (.of_frame (frame_requestSet s _) rfl) (.refl s)
  · exact .ite (.of_frame (frame_requestClear s _) rfl) (.refl s)
  · exact .ite (.of_frame (frame_requestSet s _) rfl) (.of_frame (frame_requestClear s _) rfl)
  · exact .ite (.ite (.of_frame (frame_inputHalt s i) rfl) (.of_frame (frame_inputUnhalt s i) rfl))
      (.ite (.of_frame (frame_haltSource s _) rfl) (.refl s))

theorem steady_forInputs {f : Fin 4 → State → State} (hf : ∀ i t, Steady t (f i t)) (s : State) :
    Steady s (forInputs f s) :=
  forInputs_keeps (Steady s) f (fun i t h => h.trans (hf i t)) s (.refl s)

theorem steady_enterSleep (s : State) : Steady s s.enterSleep := by
  unfold State.enterSleep
  refine .trans ?_ (steady_forInputs (fun i t => steady_setInput t i _) _)
  exact ((mild_setTsc s _).trans (mild_setLif _ _)).toSteady

theorem steady_awake (s : State) : Steady s s.awake := by
  unfold State.awake
  refine .trans ?_ (steady_forInputs (fun i t => steady_setInput t i _) _)
  exact ((mild_setTsc s _).trans (mild_setLif _ _)).toSteady

theorem steady_startWake (s : State) : Steady s s.startWake := by
  unfold State.startWake
  split
  · exact .refl s
  · split
    · exact .refl s
    · split
      · exact steady_awake s
      · exact (mild_setTsc s _).toSteady

theorem steady_movePin (s : State) (i : Fin 4) (l : Level) : Steady s (s.movePin i l) := by
  unfold State.movePin
  dsimp only
  split
  · exact .refl s
  · split
    · exact steady_setInput s i _
    · exact steady_setInput s i _

theorem steady_rawEdge (s : State) (i : Fin 4) (l : Level) : Steady s (s.rawEdge i l) := by
  unfold State.rawEdge
  dsimp only
  split
  · exact (steady_movePin s i l).trans (steady_startWake _)
  · exact steady_movePin s i l

end Sys2Proof.Machine
end

section
/-! The effects of the rows, one by one: which blocks each touches, and which are steady. With it the obligations about what
every row answers and keeps (O3), what only its own commands change (O4), and the log and the port (O54). -/

namespace Sys2Proof.Machine

/-- The rows that reset the station. -/
def resetsStation : Instr → Bool
  | .softReset | .powerOn | .resetn | .internalResetEnd _ => true
  | _ => false

/-- The rows that have a configuration, a mask or a pending set as their matter. -/
def writesFields : Instr → Bool
  | .clearEvents _ _ | .setMask _ _ | .clearMask _ _ | .writeStationConfig _ | .writeSlotConfig _ _ | .writePinConfig _ => true
  | _ => false

/-! ### Blocks -/

/-- Every effect but a reset's leaves port, bus, levels from outside and queue alone. -/
theorem frame_effect {c : Instr} {s t : State} (h : Effect c s t) (hc : resetsStation c = false) :
    Frame [.cfg, .lif, .rnd, .mbr, .slots, .flg, .hlt, .pin, .log, .ntf, .tsc] s t := by
  cases h with
  | join _ _ => exact (frame_joinNow s).mono (by simp)
  | leave _ => exact (frame_leaveNow s).mono (by simp)
  | busReset _ | framingViolation | busResetArmedSeek => exact (frame_setLif s _).then (frame_abandon _ _) (by simp) (by simp)
  | arrive _ _ => exact (frame_attempt s _ _ _).mono (by simp)
  | withdraw _ => exact (frame_withdrawCommand s _).mono (by simp)
  | clearSlot _ => exact (frame_clearCommand s _).mono (by simp)
  | setFlags _ => exact (frame_requestSet s _).mono (by simp)
  | clearFlags _ => exact (frame_requestClear s _).mono (by simp)
  | halt _ _ => exact (frame_commandHalt s _).mono (by simp)
  | resume _ _ => exact (frame_askResume s).mono (by simp)
  | clearEvents _ _ _ | setMask _ _ _ | clearMask _ _ _ => exact (frame_setNtf s _).mono (by simp)
  | writeStationConfig _ _ => exact (frame_setCfg s _).mono (by simp)
  | writeSlotConfig _ _ => exact (frame_setSlot s _ _).mono (by simp)
  | writePinConfig _ _ => exact (frame_setPin s _).mono (by simp)
  | sleep _ | autoSleepExpiry _ => exact (frame_enterSleep s).mono (by simp)
  | wake => exact (frame_startWake s).mono (by simp)
  | softReset | powerOn | resetn | internalResetEnd _ | resetnHeld => cases hc
  | startIssued _ _ | unframedActivity | closingEndHigh | closingEndLow | busIdle _ _ _ _ | busResetPulseEnd | busResetArmed
  | closingBegins _ _ | tlowExpired | datFallInClosing | busResetDetectorDisarmed _ => exact (frame_setLif s _).mono (by simp)
  | roundStart _ _ => exact (frame_setLif s _).then (frame_setRnd _ _) (by simp) (by simp)
  | haltRound _ => exact (frame_endRound s _).then (frame_haltEffects _ _ _) (by simp) (by simp)
  | resumeRound _ => exact (frame_endRound s _).then (frame_resumeEffects _ _ _) (by simp) (by simp)
  | joinRound _ => exact (frame_endRound s _).then (frame_joinEffects _ _ _) (by simp) (by simp)
  | arriveRound _ => exact (frame_endRound s _).then (frame_arriveEffects _ _ _) (by simp) (by simp)
  | flagsRound _ => exact (frame_endRound s _).then (frame_flagsEffects _ _ _) (by simp) (by simp)
  | rollRound _ => exact (frame_endRound s _).then (frame_rollEffects _ _ _) (by simp) (by simp)
  | voidRound _ => exact (frame_endRound s _).then (frame_voidEffects _ _) (by simp) (by simp)
  | lineStuck line _ _ => exact (frame_setLif s _).then (frame_stuckNow _ _ _) (by simp) (by simp)
  | busResetRecognised => exact (frame_setLif s _).then (frame_busResetEffects _) (by simp) (by simp)
  | rollTimerExpiry _ => exact (frame_setMbr s _).then (frame_place _ _ _) (by simp) (by simp)
  | timeoutPending _ _ => exact (frame_setSlot s _ _).mono (by simp)
  | timeout i _ => exact (frame_timeoutNow s i).mono (by simp)
  | movePin i l => exact (frame_movePin s i l).mono (by simp)
  | inputChange i l _ | wakeInputEdge i l => exact (frame_rawEdge s i l).mono (by simp)
  | inputAccepted i => exact (frame_acceptLevel s i).then (frame_actOnBinding _ _ _) (by simp) (by simp)
  | pulseEnd o => exact (frame_setOutput s o _).mono (by simp)
  | oscillatorStop => exact (frame_setTsc s _).mono (by simp)
  | asyncStart _ => exact (frame_asyncRound s).then (frame_startWake _) (by simp) (by simp)
  | oscillatorRuns => exact (frame_awake s).mono (by simp)
  | positionBegins _ _ _ => exact (frame_beginPosition s _).mono (by simp)
  | positionSampled _ _ => exact (frame_setRnd s _).then (frame_setLif _ _) (by simp) (by simp)

/-! ### Steady effects -/

theorem steady_effect {c : Instr} {s t : State} (h : Effect c s t) (hr : resetsStation c = false) (hw : writesFields c = false) :
    Steady s t := by
  cases h with
  | join _ _ => exact (mild_joinNow s).toSteady
  | leave _ => exact (mild_leaveNow s).toSteady
  | busReset _ | framingViolation | busResetArmedSeek => exact ((mild_setLif s _).trans (mild_abandon _ _)).toSteady
  | arrive _ _ => exact (mild_attempt s _ _ _).toSteady
  | withdraw _ => exact (mild_withdrawCommand s _).toSteady
  | clearSlot _ => exact (mild_clearCommand s _).toSteady
  | setFlags _ => exact (Mild.of_frame (frame_requestSet s _) rfl).toSteady
  | clearFlags _ => exact (Mild.of_frame (frame_requestClear s _) rfl).toSteady
  | halt _ _ => exact (Mild.of_frame (frame_commandHalt s _) rfl).toSteady
  | resume _ _ => exact (Mild.of_frame (frame_askResume s) rfl).toSteady
  | clearEvents _ _ _ | setMask _ _ _ | clearMask _ _ _ | writeStationConfig _ _ | writeSlotConfig _ _ | writePinConfig _ _ =>
    cases hw
  | sleep _ | autoSleepExpiry _ => exact steady_enterSleep s
  | wake => exact steady_startWake s
  | softReset | powerOn | resetn | internalResetEnd _ | resetnHeld => cases hr
  | startIssued _ _ | unframedActivity | closingEndHigh | closingEndLow | busIdle _ _ _ _ | busResetPulseEnd | busResetArmed
  | closingBegins _ _ | tlowExpired | datFallInClosing | busResetDetectorDisarmed _ => exact (mild_setLif s _).toSteady
  | roundStart _ _ => exact ((mild_setLif s _).trans (mild_setRnd _ _)).toSteady
  | haltRound _ => exact ((mild_endRound s _).trans (mild_haltEffects _ _ _)).toSteady
  | resumeRound _ => exact ((mild_endRound s _).trans (mild_resumeEffects _ _ _)).toSteady
  | joinRound _ => exact ((mild_endRound s _).trans (mild_joinEffects _ _ _)).toSteady
  | arriveRound _ => exact (mild_endRound s _).toSteady.trans (steady_arriveEffects _ _ _)
  | flagsRound _ => exact ((mild_endRound s _).trans (mild_flagsEffects _ _ _)).toSteady
  | rollRound _ => exact ((mild_endRound s _).trans (mild_rollEffects _ _ _)).toSteady
  | voidRound _ => exact ((mild_endRound s _).trans (mild_voidEffects _ _)).toSteady
  | lineStuck line _ _ => exact ((mild_setLif s _).trans (mild_stuckNow _ _ _)).toSteady
  | busResetRecognised => exact ((mild_setLif s _).trans (mild_busResetEffects _)).toSteady
  | rollTimerExpiry _ => exact ((mild_setMbr s (by rfl)).trans (mild_place _ _ _)).toSteady
  | timeoutPending i _ => exact (mild_setSlot s i (by rfl) (by rfl)).toSteady
  | timeout i _ => exact (mild_timeoutNow s i).toSteady
  | movePin i l => exact steady_movePin s i l
  | inputChange i l _ | wakeInputEdge i l => exact steady_rawEdge s i l
  | inputAccepted i => exact (steady_setInput s i _).trans (mild_actOnBinding _ _ _).toSteady
  | pulseEnd o => exact steady_setOutput s o _
  | oscillatorStop => exact (mild_setTsc s _).toSteady
  | asyncStart _ => exact (Mild.of_frame (frame_asyncRound s) rfl).toSteady.trans (steady_startWake _)
  | oscillatorRuns => exact steady_awake s
  | positionBegins _ _ _ => exact (mild_beginPosition s _).toSteady
  | positionSampled _ _ => exact ((mild_setRnd s _).trans (mild_setLif _ _)).toSteady

/-! ### Every row -/

theorem effect_outer {c : Instr} {s t : State} (h : Effect c s t) :
    t.pending = s.pending ∧ t.bus = s.bus ∧ t.spi = s.spi := by
  by_cases hc : resetsStation c = false
  · have hf := frame_effect h hc
    exact ⟨hf.pending_eq rfl, hf.bus_eq rfl, hf.spi_eq rfl⟩
  · cases h with
    | softReset | powerOn | resetn | resetnHeld | internalResetEnd _ => exact ⟨rfl, rfl, rfl⟩
    | _ => exact absurd rfl hc

/-- Settles O3: each row's outcome is a next state, made of parts none of which touches the queue, the bus or the levels to
come. -/
theorem everyCommandAnswersAndKeepsTheQueue : Obligations.EveryCommandAnswersAndKeepsTheQueue := by
  intro c s
  rcases exec_means c s with h | ⟨a, v, u, h, ha, hv, hu⟩
  · exact ⟨s, h, rfl, rfl, rfl⟩
  · have hv' : v.pending = a.pending ∧ v.bus = a.bus ∧ v.spi = a.spi := by
      rcases hv with rfl | hv
      · exact ⟨rfl, rfl, rfl⟩
      · exact effect_outer hv
    have hu' : u.pending = v.pending ∧ u.bus = v.bus ∧ u.spi = v.spi := by
      rcases hu with rfl | ⟨code, rfl⟩ <;> exact ⟨rfl, rfl, rfl⟩
    obtain ⟨hpending, hbus, hspi⟩ := hv'
    obtain ⟨hpending', hbus', hspi'⟩ := hu'
    refine ⟨u.settle, h, ?_, ?_, ?_⟩
    · rw [settle_pending, hpending', hpending, ha.frame.pending_eq rfl]
    · rw [settle_bus, hbus', hbus, ha.frame.bus_eq rfl]
    · rw [settle_spi, hspi', hspi, ha.feed]

/-! ### Configurations, records and masks -/

/-- What O4 says of a row's effect, the log apart. -/
structure Confined (c : Instr) (s t : State) : Prop where
  number : t.mbr.number = s.mbr.number
  cfg : (∀ b, c ≠ .writeStationConfig b) → t.cfg = s.cfg
  slotCfg : (∀ i b, c ≠ .writeSlotConfig i b) → ∀ i, (t.slot i).cfg = (s.slot i).cfg
  pinCfg : (∀ b, c ≠ .writePinConfig b) → c ≠ .powerOn → c ≠ .resetn → c ≠ .softReset → t.pin.cfg = s.pin.cfg
  records : s.log.records <+: t.log.records
  bounded : LogBounded s → LogBounded t
  pend : (∀ l k, c ≠ .clearEvents l k) → s.ntf.pendA &&& ~~~t.ntf.pendA = 0#9 ∧ s.ntf.pendB &&& ~~~t.ntf.pendB = 0#9
  mask : (∀ l k, c ≠ .setMask l k) → (∀ l k, c ≠ .clearMask l k) → t.ntf.maskA = s.ntf.maskA ∧ t.ntf.maskB = s.ntf.maskB

theorem Confined.of_steady {c : Instr} {s t : State} (h : Steady s t) : Confined c s t where
  number := h.number
  cfg := fun _ => h.cfg
  slotCfg := fun _ => h.slotCfg
  pinCfg := fun _ _ _ _ => h.pinCfg
  records := h.records
  bounded := h.bounded
  pend := fun _ => ⟨h.pendA, h.pendB⟩
  mask := fun _ _ => ⟨h.maskA, h.maskB⟩

theorem Ntf.clear_masks (x : Ntf) (l : NotifyLine) (kinds : EventSet) :
    (x.clear l kinds).maskA = x.maskA ∧ (x.clear l kinds).maskB = x.maskB := by
  cases l <;> exact ⟨rfl, rfl⟩

theorem Ntf.unmask_pends (x : Ntf) (l : NotifyLine) (kinds : EventSet) :
    (x.unmask l kinds).pendA = x.pendA ∧ (x.unmask l kinds).pendB = x.pendB := by
  cases l <;> exact ⟨rfl, rfl⟩

theorem Ntf.hide_pends (x : Ntf) (l : NotifyLine) (kinds : EventSet) :
    (x.hide l kinds).pendA = x.pendA ∧ (x.hide l kinds).pendB = x.pendB := by
  cases l <;> exact ⟨rfl, rfl⟩

/-- A change of the notification unit alone. -/
theorem Confined.of_ntf {c : Instr} {s : State} {x : Ntf}
    (hpend : (∀ l k, c ≠ .clearEvents l k) → x.pendA = s.ntf.pendA ∧ x.pendB = s.ntf.pendB)
    (hmask : (∀ l k, c ≠ .setMask l k) → (∀ l k, c ≠ .clearMask l k) → x.maskA = s.ntf.maskA ∧ x.maskB = s.ntf.maskB) :
    Confined c s (s.setNtf x) where
  number := rfl
  cfg := fun _ => rfl
  slotCfg := fun _ _ => rfl
  pinCfg := fun _ _ _ _ => rfl
  records := List.prefix_rfl
  bounded := id
  pend := fun h => by
    obtain ⟨hA, hB⟩ := hpend h
    simp only [setNtf_ntf, hA, hB]
    exact ⟨and_not_self _, and_not_self _⟩
  mask := hmask

/-- A reset changes nothing of it but the configured polarities of the outputs (R153). -/
theorem confined_startReset {c : Instr} (s : State) (cause : ResetCause) (hc : c = .powerOn ∨ c = .resetn ∨ c = .softReset) :
    Confined c s (s.startReset cause) where
  number := rfl
  cfg := fun _ => rfl
  slotCfg := fun _ _ => rfl
  pinCfg := fun _ h₁ h₂ h₃ => by
    rcases hc with h | h | h
    · exact absurd h h₁
    · exact absurd h h₂
    · exact absurd h h₃
  records := List.prefix_rfl
  bounded := id
  pend := fun _ => ⟨and_not_self _, and_not_self _⟩
  mask := fun _ _ => ⟨rfl, rfl⟩

/-- A write changes its own configuration. -/
theorem confined_writes {c : Instr} {s t : State} (h : Effect c s t) (hc : writesFields c = true) : Confined c s t := by
  cases h with
  | clearEvents _ l _ => exact .of_ntf (fun h => absurd rfl (h _ _)) fun _ _ => Ntf.clear_masks _ l _
  | setMask _ l _ => exact .of_ntf (fun _ => Ntf.unmask_pends _ l _) fun h _ => absurd rfl (h _ _)
  | clearMask _ l _ => exact .of_ntf (fun _ => Ntf.hide_pends _ l _) fun _ h => absurd rfl (h _ _)
  | writeStationConfig _ _ => exact
    { number := rfl, cfg := fun h => absurd rfl (h _), slotCfg := fun _ _ => rfl, pinCfg := fun _ _ _ _ => rfl
      records := List.prefix_rfl, bounded := id
      pend := fun _ => ⟨and_not_self _, and_not_self _⟩, mask := fun _ _ => ⟨rfl, rfl⟩ }
  | writeSlotConfig _ _ => exact
    { number := rfl, cfg := fun _ => rfl, slotCfg := fun h => absurd rfl (h _ _), pinCfg := fun _ _ _ _ => rfl
      records := List.prefix_rfl, bounded := id
      pend := fun _ => ⟨and_not_self _, and_not_self _⟩, mask := fun _ _ => ⟨rfl, rfl⟩ }
  | writePinConfig _ _ => exact
    { number := rfl, cfg := fun _ => rfl, slotCfg := fun _ _ => rfl, pinCfg := fun h => absurd rfl (h _)
      records := List.prefix_rfl, bounded := id
      pend := fun _ => ⟨and_not_self _, and_not_self _⟩, mask := fun _ _ => ⟨rfl, rfl⟩ }
  | _ => cases hc

theorem effect_confined {c : Instr} {s t : State} (h : Effect c s t) (hc : ∀ p, c ≠ .internalResetEnd p) :
    Confined c s t := by
  by_cases hr : resetsStation c = false
  · by_cases hw : writesFields c = true
    · exact confined_writes h hw
    · exact .of_steady (steady_effect h hr (by simpa using hw))
  · cases h with
    | softReset => exact confined_startReset s _ (.inr (.inr rfl))
    | powerOn => exact confined_startReset s _ (.inl rfl)
    | resetn => 
      have h := confined_startReset (s.setTsc { s.tsc with resetnLow := true }) .pin (.inr (.inl rfl))
      exact ⟨h.number, h.cfg, h.slotCfg, h.pinCfg, h.records, h.bounded, h.pend, h.mask⟩
    | resetnHeld => exact .of_steady (mild_setTsc s _).toSteady
    | internalResetEnd p => exact absurd rfl (hc p)
    | _ => exact absurd rfl hr

/-- Settles O4: the port's part of a row shortens the log in READ LOG alone, and an effect is steady, a reset's, or a write's. -/
theorem onlyTheirCommandsChangeConfigurationsRecordsAndMasks :
    Obligations.OnlyTheirCommandsChangeConfigurationsRecordsAndMasks := by
  intro c s t hs h hc
  rcases exec_cases h with rfl | ⟨a, v, ha, hv, ht⟩
  · have hid := Confined.of_steady (c := c) (Steady.refl t)
    exact ⟨rfl, fun _ => rfl, fun _ _ => rfl, fun _ _ _ _ => rfl, fun _ _ => List.prefix_rfl, hid.pend, hid.mask⟩
  · have hv' : Confined c a v := by
      rcases hv with rfl | hv
      · exact .of_steady (.refl v)
      · exact effect_confined hv hc
    have htv : t.cfg = v.cfg ∧ t.mbr = v.mbr ∧ t.slots = v.slots ∧ t.pin = v.pin ∧ t.log = v.log ∧ t.ntf = v.ntf := by
      rcases ht with rfl | ⟨code, rfl⟩
      · simp
      · simp [State.setLast]
    obtain ⟨hcfg, hmbr, hslots, hpin, hlog, hntf⟩ := htv
    have hf := ha.frame
    refine ⟨?_, fun h => ?_, fun h i => ?_, fun h₁ h₂ h₃ h₄ => ?_, fun h₁ h₂ => ?_, fun h => ?_, fun h₁ h₂ => ?_⟩
    · rw [hmbr, hv'.number, hf.mbr_eq rfl]
    · rw [hcfg, hv'.cfg h, hf.cfg_eq rfl]
    · have := hv'.slotCfg h i
      simp only [State.slot, hslots, hf.slots_eq rfl] at this ⊢
      exact this
    · rw [hpin, hv'.pinCfg h₁ h₂ h₃ h₄, hf.pin_eq rfl]
    · rw [hlog, ← ha.kept hs h₁ h₂]
      exact hv'.records
    · rw [hntf, ← hf.ntf_eq rfl]
      exact hv'.pend h
    · rw [hntf, ← hf.ntf_eq rfl]
      exact hv'.mask h₁ h₂

/-! ### The log's bound and the port -/

theorem LogShortened.bounded {s t : State} (h : LogShortened s t) (hs : LogBounded s) : LogBounded t := by
  obtain ⟨k, hk⟩ := h
  have hlen : s.log.records.length ≤ 16 := hs
  simp only [LogBounded, hk, List.length_drop]
  omega

theorem effect_bounded {c : Instr} {s t : State} (h : Effect c s t) (hs : LogBounded s) : LogBounded t := by
  by_cases hc : ∃ p, c = .internalResetEnd p
  · obtain ⟨p, rfl⟩ := hc
    cases h
    exact Nat.zero_le 16
  · exact (effect_confined h (fun p hp => hc ⟨p, hp⟩)).bounded hs

/-- The transfer that a reset cuts is ignored to its end, its framing state cleared (R174). -/
theorem cut_sound {x : Transfer} (h : x.Sound) : x.cut.Sound where
  clocked := h.clocked
  taken := fun hh => absurd rfl hh
  ignored := fun _ => ⟨rfl, rfl⟩
  record := fun hr => nomatch hr

theorem map_cut_sound {o : Option Transfer} (h : ∀ x, o = some x → x.Sound) {y : Transfer} (hy : o.map Transfer.cut = some y) :
    y.Sound := by
  cases ho : o with
  | none => simp [ho] at hy
  | some x =>
    rw [ho, Option.map_some, Option.some.injEq] at hy
    exact hy ▸ cut_sound (h x ho)

theorem effect_portSound {c : Instr} {s t : State} (h : Effect c s t) (hs : PortSound s) : PortSound t := by
  by_cases hr : resetsStation c = false
  · have hcmd := (frame_effect h hr).cmd_eq rfl
    intro x hx
    exact hs x (by rw [← hcmd, hx])
  · cases h with
    | softReset | powerOn | resetn | internalResetEnd _ => exact fun y hy => map_cut_sound hs hy
    | resetnHeld => exact hs
    | _ => exact absurd rfl hr

/-! ### The port through the edges of SCK -/

theorem readsLog_append {l : List Byte} (b : Byte) (h : readsLog l = true) : readsLog (l ++ [b]) = true := by
  rw [readsLog, beq_iff_eq] at h ⊢
  exact head?_append_left _ h

/-- The beginning of a byte keeps what the transfer has counted. -/
theorem start_sound {x : Transfer} (h : x.Sound) (hfull : x.clocked = 8) (b : Byte) : (x.start b).Sound where
  clocked := ⟨Nat.zero_le 8, fun h => nomatch h⟩
  taken := fun hh => by
    obtain ⟨hlen, hbits⟩ := h.taken hh
    exact ⟨hlen, by simpa [hfull, Transfer.start] using hbits⟩
  ignored := h.ignored
  record := fun hr => by
    obtain ⟨hact, hlog, _⟩ := h.record hr
    exact ⟨hact, hlog, fun h => nomatch h⟩

theorem start_record_sound {x : Transfer} (h : x.Sound) (hfull : x.clocked = 8) (b : Byte) {record : Bool}
    (hrec : record = true → x.handling = .active ∧ readsLog x.received = true) :
    ({ x.start b with record := record } : Transfer).Sound :=
  { start_sound h hfull b with
    record := fun hr => by
      obtain ⟨hact, hlog⟩ := hrec hr
      exact ⟨hact, hlog, fun h => nomatch h⟩ }

theorem portSound_setTransfer {s : State} {x : Transfer} (h : x.Sound) : PortSound (s.setTransfer (some x)) :=
  fun _ hy => Option.some.inj hy ▸ h

theorem readyByte_sound {s : State} (hs : PortSound s) : PortSound s.readyByte := by
  unfold State.readyByte
  split
  case h_2 => exact hs
  case h_1 x hx =>
    have hsound := hs x hx
    split
    · exact hs
    · have hfull : x.clocked = 8 := by have := hsound.clocked.1; omega
      unfold State.beginByte
      rw [hx]
      dsimp only
      split
      case h_2 | h_3 => exact portSound_setTransfer (start_sound hsound hfull _)
      case h_1 hact =>
        split
        case h_2 => exact portSound_setTransfer (start_sound hsound hfull _)
        case h_1 place fresh _ =>
          intro y hy
          rw [setCmd_cmd, Option.some.injEq] at hy
          subst hy
          refine start_record_sound hsound hfull _ fun hr => ?_
          split at hr
          · rw [Bool.and_eq_true] at hr
            exact ⟨hact, hr.1⟩
          · obtain ⟨hact, hlog, _⟩ := hsound.record hr
            exact ⟨hact, hlog⟩

/-- A byte taken in ACTIVE or in SLEEP. -/
theorem finish_sound {x : Transfer} (h : x.Sound) (hh : x.handling ≠ .ignored) (b : Byte)
    (hrec : x.record = true → (x.received ++ [b]).length % 14 ≠ 1) : (x.finish (x.received ++ [b])).Sound where
  clocked := ⟨Nat.le_refl 8, fun _ => by simp [Transfer.finish]⟩
  taken := fun _ => by simp [Transfer.finish, (h.taken hh).1]
  ignored := fun hi => absurd hi hh
  record := fun hr => by
    obtain ⟨hact, hlog, _⟩ := h.record hr
    exact ⟨hact, readsLog_append b hlog, fun _ => hrec hr⟩

theorem endByte_sound {s : State} (hs : PortSound s) (b : Byte) : PortSound (s.endByte b) := by
  unfold State.endByte
  split
  case h_1 => exact hs
  case h_2 x hx =>
    have hsound := hs x hx
    dsimp only
    split
    case h_1 hact =>
      have hh : x.handling ≠ .ignored := by simp [hact]
      split
      · intro y hy
        rw [setLog_cmd, State.setTransfer, setCmd_cmd, Option.some.injEq] at hy
        subst hy
        exact
          { clocked := ⟨Nat.le_refl 8, fun _ => by simp [Transfer.finish]⟩
            taken := fun _ => by simp [Transfer.finish, (hsound.taken hh).1]
            ignored := fun hi => absurd hi hh
            record := fun hr => nomatch hr }
      · rename_i hend
        refine portSound_setTransfer (finish_sound hsound hh b fun hr => ?_)
        obtain ⟨_, hlog, _⟩ := hsound.record hr
        have hne : x.received ≠ [] := by
          rintro hnil
          simp [readsLog, hnil] at hlog
        simpa [hr, endsRecord, readsLog_append b hlog, hne] using hend
    case h_2 hasleep =>
      refine portSound_setTransfer (finish_sound hsound (by simp [hasleep]) b fun hr => ?_)
      rw [(hsound.record hr).1] at hasleep
      cases hasleep
    case h_3 hign =>
      refine portSound_setTransfer ?_
      exact
        { clocked := ⟨Nat.le_refl 8, fun _ => by simp [Transfer.finish]⟩
          taken := fun hi => absurd hign hi
          ignored := fun _ => ⟨rfl, rfl⟩
          record := fun hr => absurd (hign.symm.trans (hsound.record hr).1) (by simp) }

theorem sckRise_sound {s : State} (hs : PortSound s) (sdi : Level) : PortSound (s.sckRise sdi) := by
  unfold State.sckRise
  split
  case h_1 => exact hs
  case h_2 x hx =>
    have hsound := hs x hx
    split
    case isFalse => exact endByte_sound hs _
    case isTrue hlt =>
      refine portSound_setTransfer ?_
      exact
        { clocked := ⟨by simp only; omega, fun h => by simp only at h; omega⟩
          taken := fun hh => by
            obtain ⟨hlen, hbits⟩ := hsound.taken hh
            refine ⟨hlen, ?_⟩
            cases hx : x.handling with
            | ignored => exact absurd hx hh
            | active | asleep =>
              rw [List.length_append, List.length_singleton, hbits]
              simp only
              omega
          ignored := fun hi => by
            obtain ⟨hrec, _⟩ := hsound.ignored hi
            have hi' : x.handling = .ignored := hi
            exact ⟨hrec, by simp only [hi']⟩
          record := fun hr => by
            obtain ⟨hact, hlog, _⟩ := hsound.record hr
            exact ⟨hact, hlog, fun h => by simp only at h; omega⟩ }

theorem clockPort_sound {s : State} (hs : PortSound s) : PortSound s.clockPort := by
  unfold State.clockPort
  split
  · exact hs
  · rename_i sck sdi rest _
    have h : PortSound (s.setSpi { sck := sck, sdi := sdi, feed := rest }) := hs
    dsimp only
    split
    · exact sckRise_sound h _
    · exact readyByte_sound h
    · exact h

theorem clockPort_shortens (s : State) : LogShortened s s.clockPort := by
  unfold State.clockPort
  split
  · exact .of_eq rfl
  · dsimp only
    split
    · unfold State.sckRise
      split
      · exact .of_eq rfl
      · split
        · exact .of_eq rfl
        · exact endByte_shortens _ _
    · exact .of_eq ((frame_readyByte _).log_eq rfl)
    · exact .of_eq rfl

/-- A tick has no part in port and log but the edge of SCK it carries. -/
theorem tick_port (s : State) : s.tick.cmd = s.tickBegun.cmd ∧ s.tick.log = s.tickBegun.log := by
  rcases tick_cases s with ⟨_, ht⟩ | ⟨_, _, ht⟩ | ⟨_, ht⟩
  · have hf : Frame [.lif, .pin, .tsc, .mbr, .slots, .pending] s.tickBegun s.tickBegun.runTick :=
      (countTick_counted s.tickBegun).frame.then ((frame_setPending _ _).then (frame_settle _) (c := [.pending, .tsc]) (by simp) (by simp)) (by simp) (by simp)
    rw [ht]
    exact ⟨hf.cmd_eq rfl, hf.log_eq rfl⟩
  · rw [ht]
    exact ⟨rfl, rfl⟩
  · rw [ht]
    exact ⟨rfl, rfl⟩

/-- Settles O54: a row's port part and its effect keep the bound and the transfer sound, and a tick's one edge does. -/
theorem everyStepKeepsTheLogBoundedAndThePortSound : Obligations.EveryStepKeepsTheLogBoundedAndThePortSound := by
  refine ⟨fun s t hs h => ?_, fun s t hs h => ?_⟩
  · rcases step_cases h with ⟨_, rfl⟩ | ⟨c, rest, _, he⟩
    · have hb : LogBounded s.tickBegun := (clockPort_shortens (s.setBus s.bus.advance)).bounded hs
      rwa [LogBounded, (tick_port s).2]
    · rcases exec_cases he with rfl | ⟨a, v, ha, hv, ht⟩
      · exact hs
      · have hb : LogBounded a := ha.log.bounded (s := s.setPending rest) hs
        have hv' : LogBounded v := hv.elim (fun e => e ▸ hb) fun e => effect_bounded e hb
        rcases ht with rfl | ⟨code, rfl⟩
        · rwa [LogBounded, settle_log]
        · rwa [LogBounded, settle_log]
  · rcases step_cases h with ⟨_, rfl⟩ | ⟨c, rest, _, he⟩
    · have hp : PortSound s.tickBegun := clockPort_sound (s := s.setBus s.bus.advance) hs
      rwa [PortSound, (tick_port s).1]
    · rcases exec_cases he with rfl | ⟨a, v, ha, hv, ht⟩
      · exact hs
      · have hp : PortSound a := ha.sound (s := s.setPending rest) hs
        have hv' : PortSound v := hv.elim (fun e => e ▸ hp) fun e => effect_portSound e hp
        rcases ht with rfl | ⟨code, rfl⟩
        · rwa [PortSound, settle_cmd]
        · rwa [PortSound, settle_cmd]

end Sys2Proof.Machine
end

section
/-! What each meaning does to the request list: the classes it touches, and that order, selectors, void counts and the
WAITING slot behind each ARRIVE entry stay (R28 to R31, R41). -/

namespace Sys2Proof.Machine

/-! ### What an entry must be -/

/-- The class may carry the selector at this station (R28, R51). -/
structure SelectorOk (s : State) (c : Class) (n : Fin 32) : Prop where
  zero : c ≠ .arrive → c ≠ .join → n = 0
  own : c = .join → n = s.mbr.number

/-- The list stands in order, with the selectors and void counts it may have, and an ARRIVE entry only for a WAITING slot. -/
structure ListOk (s : State) : Prop where
  ascending : Ascending s.rnd.requests
  selectors : ∀ e ∈ s.rnd.requests, SelectorOk s e.cls e.sel
  voids : ∀ e ∈ s.rnd.requests, e.voids ≤ s.retryLimit e.cls e.sel
  arrive : ∀ i, hasEntry s.rnd.requests .arrive i = true → (s.slot i).state = .waiting

theorem ListOk.of_empty {s : State} (h : s.rnd.requests = []) : ListOk s := by
  constructor <;> simp [h, hasEntry]

theorem mem_placeEntry {l : List Entry} {c : Class} {n : Fin 32} {e : Entry} (h : e ∈ placeEntry l c n) :
    e ∈ l ∨ e = { cls := c, sel := n, voids := 0 } := by
  unfold placeEntry at h
  split at h
  · exact .inl h
  · exact ((mem_insertEntry _ _ _).mp h).symm

theorem mem_removeEntry {l : List Entry} {c : Class} {n : Fin 32} {e : Entry} (h : e ∈ removeEntry l c n) :
    e ∈ l :=
  (List.mem_filter.mp h).1

theorem mem_setVoids {l : List Entry} {c : Class} {n : Fin 32} {v : Nat} {e : Entry} (h : e ∈ setVoids l c n v) :
    e ∈ l ∨ ∃ y ∈ l, y.cls = c ∧ y.sel = n ∧ e = { y with voids := v } := by
  simp only [setVoids, List.mem_map] at h
  obtain ⟨y, hy, he⟩ := h
  split at he
  · rename_i his
    rw [Entry.is_iff] at his
    exact .inr ⟨y, hy, his.1, his.2, he.symm⟩
  · exact .inl (he ▸ hy)

theorem mem_iff_findEntry {l : List Entry} (h : Ascending l) (e : Entry) : e ∈ l ↔ findEntry l e.cls e.sel = some e := by
  constructor
  · intro he
    induction l with
    | nil => cases he
    | cons a l ih =>
      obtain ⟨ha, hl⟩ := List.pairwise_cons.mp h
      have hself : e.is e.cls e.sel = true := (Entry.is_iff _ _ _).mpr ⟨rfl, rfl⟩
      rcases List.mem_cons.mp he with rfl | he
      · simp [findEntry, hself]
      · have hne : a.is e.cls e.sel = false := by
          rw [Bool.eq_false_iff]
          intro his
          exact absurd ((Entry.is_identity _ _ _).mp his) (Nat.ne_of_lt (ha e he))
        have := ih hl he
        simp only [findEntry] at this ⊢
        rw [List.find?_cons, hne]
        exact this
  · intro hf
    exact List.mem_of_find?_eq_some hf

theorem hasEntry_iff {l : List Entry} {c : Class} {n : Fin 32} : hasEntry l c n = true ↔ ∃ e ∈ l, e.cls = c ∧ e.sel = n := by
  simp only [hasEntry, List.any_eq_true, Entry.is_iff]

/-! ### The relation -/

/-- From `s` to `t` the entries of the named classes alone have been touched, soundly, and none placed at a station that is no
member; membership and round in progress stand. -/
structure Listed (cs : List Class) (s t : State) : Prop where
  membership : t.mbr.membership = s.mbr.membership
  round : t.rnd.round = s.rnd.round
  others : ∀ c n, c ∉ cs → findEntry t.rnd.requests c n = findEntry s.rnd.requests c n
  silent : ¬Member s → ∀ c n, hasEntry t.rnd.requests c n = true → hasEntry s.rnd.requests c n = true
  sound : ListOk s → ListOk t

theorem Listed.refl (cs : List Class) (s : State) : Listed cs s s := ⟨rfl, rfl, fun _ _ _ => rfl, fun _ _ _ => id, id⟩

theorem Listed.trans {cs : List Class} {s t u : State} (h₁ : Listed cs s t) (h₂ : Listed cs t u) : Listed cs s u where
  membership := h₂.membership.trans h₁.membership
  round := h₂.round.trans h₁.round
  others := fun c n hc => (h₂.others c n hc).trans (h₁.others c n hc)
  silent := fun hm c n h => h₁.silent hm c n (h₂.silent (by rwa [Member, h₁.membership]) c n h)
  sound := h₂.sound ∘ h₁.sound

theorem Listed.mono {cs ds : List Class} {s t : State} (h : Listed cs s t) (hsub : cs ⊆ ds) : Listed ds s t :=
  { h with others := fun c n hc => h.others c n fun hc' => hc (hsub hc') }

/-- One after the other, each widened to the classes of both. -/
theorem Listed.then {cs ds es : List Class} {s t u : State} (h₁ : Listed cs s t) (h₂ : Listed ds t u) (hc : cs ⊆ es)
    (hd : ds ⊆ es) : Listed es s u :=
  (h₁.mono hc).trans (h₂.mono hd)

theorem Listed.ite {p : Prop} [Decidable p] {cs : List Class} {s t u : State} (ht : Listed cs s t) (hu : Listed cs s u) :
    Listed cs s (if p then t else u) := by
  split
  · exact ht
  · exact hu

theorem Listed.forSlots {cs : List Class} {f : SlotNo → State → State} (hf : ∀ i t, Listed cs t (f i t)) (s : State) :
    Listed cs s (forSlots f s) :=
  forSlots_keeps (Listed cs s) f (fun i t h => h.trans (hf i t)) s (.refl cs s)

theorem Listed.forInputs {cs : List Class} {f : Fin 4 → State → State} (hf : ∀ i t, Listed cs t (f i t)) (s : State) :
    Listed cs s (forInputs f s) :=
  forInputs_keeps (Listed cs s) f (fun i t h => h.trans (hf i t)) s (.refl cs s)

theorem Steady.selectorOk {s t : State} (h : Steady s t) {c : Class} {n : Fin 32} (hs : SelectorOk s c n) : SelectorOk t c n :=
  ⟨hs.zero, fun hc => (hs.own hc).trans h.number.symm⟩

theorem Steady.retryLimit {s t : State} (h : Steady s t) (c : Class) (n : Fin 32) : t.retryLimit c n = s.retryLimit c n := by
  cases c <;> simp only [State.retryLimit, h.cfg, h.slotCfg]

/-- Nothing of the list or of the slots' arrivals is touched. -/
theorem Listed.of_kept {cs : List Class} {s t : State} (h : Steady s t) (hm : t.mbr.membership = s.mbr.membership)
    (hrnd : t.rnd = s.rnd) (hslots : ∀ i, (s.slot i).state = .waiting → (t.slot i).state = .waiting) : Listed cs s t where
  membership := hm
  round := by rw [hrnd]
  others := fun c n _ => by rw [hrnd]
  silent := fun _ c n => by rw [hrnd]; exact id
  sound := fun hs => by
    constructor <;> rw [hrnd]
    · exact hs.ascending
    · exact fun e he => h.selectorOk (hs.selectors e he)
    · exact fun e he => (hs.voids e he).trans_eq (h.retryLimit _ _).symm
    · exact fun i hi => hslots i (hs.arrive i hi)

/-- An entry is placed: of a class that may carry the selector, and an ARRIVE entry for a slot that is WAITING then. -/
theorem Listed.of_place {s t : State} {c : Class} {n : Fin 32} (h : Steady s t)
    (hm : t.mbr.membership = s.mbr.membership) (hrnd : t.rnd = { s.rnd with requests := placeEntry s.rnd.requests c n })
    (hmember : Member s) (hsel : SelectorOk s c n)
    (hslots : ∀ i, (s.slot i).state = .waiting ∨ (c = .arrive ∧ i = n) → (t.slot i).state = .waiting) : Listed [c] s t where
  membership := hm
  round := by rw [hrnd]
  others := fun c' n' hc => by
    rw [hrnd]
    exact findEntry_placeEntry_ne _ _ _ _ _ fun he => hc (by simp [(Prod.mk.inj he).1])
  silent := fun hm => absurd hmember hm
  sound := fun hs => by
    constructor <;> rw [hrnd]
    · exact ascending_placeEntry _ _ _ hs.ascending
    · intro e he
      rcases mem_placeEntry he with he | rfl
      · exact h.selectorOk (hs.selectors e he)
      · exact h.selectorOk hsel
    · intro e he
      rcases mem_placeEntry he with he | rfl
      · exact (hs.voids e he).trans_eq (h.retryLimit _ _).symm
      · exact Nat.zero_le _
    · intro i hi
      obtain ⟨e, he, hc, hn⟩ := hasEntry_iff.mp hi
      rcases mem_placeEntry he with he | rfl
      · exact hslots i (.inl (hs.arrive i (hasEntry_iff.mpr ⟨e, he, hc, hn⟩)))
      · exact hslots i (.inr ⟨hc, hn.symm⟩)

/-- An entry is removed, and no other slot than that of an ARRIVE entry leaves WAITING. -/
theorem Listed.of_remove {s t : State} {c : Class} {n : Fin 32} (h : Steady s t)
    (hm : t.mbr.membership = s.mbr.membership) (hrnd : t.rnd = { s.rnd with requests := removeEntry s.rnd.requests c n })
    (hslots : ∀ i, (s.slot i).state = .waiting → (c, n) ≠ (.arrive, i) → (t.slot i).state = .waiting) : Listed [c] s t where
  membership := hm
  round := by rw [hrnd]
  others := fun c' n' hc => by
    rw [hrnd]
    exact findEntry_removeEntry_ne _ _ _ _ _ fun he => hc (by simp [(Prod.mk.inj he).1])
  silent := fun _ c' n' hh => by
    rw [hrnd] at hh
    obtain ⟨e, he, hc, hn⟩ := hasEntry_iff.mp hh
    exact hasEntry_iff.mpr ⟨e, mem_removeEntry he, hc, hn⟩
  sound := fun hs => by
    constructor <;> rw [hrnd]
    · exact ascending_removeEntry _ _ _ hs.ascending
    · exact fun e he => h.selectorOk (hs.selectors e (mem_removeEntry he))
    · exact fun e he => (hs.voids e (mem_removeEntry he)).trans_eq (h.retryLimit _ _).symm
    · intro i hi
      by_cases he : (c, n) = (.arrive, i)
      · obtain ⟨rfl, rfl⟩ := Prod.mk.inj he
        simp [hasEntry_removeEntry_same] at hi
      · obtain ⟨e, hmem, hc, hn⟩ := hasEntry_iff.mp hi
        exact hslots i (hs.arrive i (hasEntry_iff.mpr ⟨e, mem_removeEntry hmem, hc, hn⟩)) he

/-- A void count is set, within the limit. -/
theorem Listed.of_setVoids {s t : State} {c : Class} {n : Fin 32} {v : Nat} (h : Steady s t)
    (hm : t.mbr.membership = s.mbr.membership) (hrnd : t.rnd = { s.rnd with requests := setVoids s.rnd.requests c n v })
    (hv : v ≤ s.retryLimit c n) (hslots : ∀ i, (s.slot i).state = .waiting → (t.slot i).state = .waiting) :
    Listed [c] s t where
  membership := hm
  round := by rw [hrnd]
  others := fun c' n' hc => by
    rw [hrnd]
    exact findEntry_setVoids_ne _ _ _ _ _ _ fun he => hc (by simp [(Prod.mk.inj he).1])
  silent := fun _ c' n' hh => by
    rw [hrnd, hasEntry_setVoids] at hh
    exact hh
  sound := fun hs => by
    constructor <;> rw [hrnd]
    · exact ascending_setVoids _ _ _ _ hs.ascending
    · intro e he
      rcases mem_setVoids he with he | ⟨y, hy, _, _, rfl⟩
      · exact h.selectorOk (hs.selectors e he)
      · exact h.selectorOk (hs.selectors y hy)
    · intro e he
      rw [h.retryLimit]
      rcases mem_setVoids he with he | ⟨y, hy, rfl, rfl, rfl⟩
      · exact hs.voids e he
      · exact hv
    · intro i hi
      rw [hasEntry_setVoids] at hi
      exact hslots i (hs.arrive i hi)

theorem slot_eq_of_slots {s t : State} (h : t.slots = s.slots) (i : SlotNo) : t.slot i = s.slot i := by
  simp only [State.slot, h]

/-- List, slots and membership controller stand. -/
theorem Listed.of_frame {b : List Block} {cs : List Class} {s t : State} (h : Steady s t) (hf : Frame b s t)
    (hb : b.contains .rnd = false ∧ b.contains .slots = false ∧ b.contains .mbr = false) : Listed cs s t := by
  obtain ⟨hr, hs, hm⟩ := hb
  refine .of_kept h ?_ (hf.rnd_eq hr) fun i hi => ?_
  · rw [hf.mbr_eq hm]
  · rwa [slot_eq_of_slots (hf.slots_eq hs)]

/-- Only the list changes. -/
theorem listed_remove (s : State) (c : Class) (n : Fin 32) : Listed [c] s (s.remove c n) :=
  .of_remove (mild_remove s c n).toSteady (by simp) (remove_requests s c n) fun i hi _ => by simpa using hi

theorem listed_zeroVoids (s : State) (c : Class) (n : Fin 32) : Listed [c] s (s.zeroVoids c n) :=
  .of_setVoids (mild_zeroVoids s c n).toSteady (by simp) (zeroVoids_requests s c n) (Nat.zero_le _) fun i hi => by simpa using hi

theorem listed_place {s : State} {c : Class} {n : Fin 32} (hm : Member s) (hsel : SelectorOk s c n)
    (hw : c = .arrive → (s.slot n).state = .waiting) : Listed [c] s (s.place c n) :=
  .of_place (mild_place s c n).toSteady (by simp) (by simp) hm hsel fun i hi => by
    rw [slot_place]
    rcases hi with hi | ⟨hc, rfl⟩
    · exact hi
    · exact hw hc

theorem SelectorOk.of_zero {s : State} {c : Class} (h : c ≠ .join) : SelectorOk s c 0 := ⟨fun _ _ => rfl, fun hj => absurd hj h⟩

theorem SelectorOk.arrive (s : State) (n : Fin 32) : SelectorOk s .arrive n := ⟨fun h => absurd rfl h, fun h => nomatch h⟩

/-- An entry with selector 0 is placed. -/
theorem listed_place_zero {s : State} {c : Class} (hm : Member s) (hj : c ≠ .join) (ha : c ≠ .arrive) :
    Listed [c] s (s.place c 0) :=
  listed_place hm (.of_zero hj) fun h => absurd h ha

/-! ### Blocks that do not matter to the list -/

section
variable (cs : List Class) (s : State)

theorem listed_offer (k : Kind) (n : Fin 32) (tag : Byte) (set : Set32) (v : Half) : Listed cs s (s.offer k n tag set v) :=
  .of_frame (mild_offer s k n tag set v).toSteady (frame_offer s k n tag set v) ⟨rfl, rfl, rfl⟩

theorem listed_raise (e : Event) : Listed cs s (s.raise e) :=
  .of_frame (mild_raise s e).toSteady (frame_raise s e) ⟨rfl, rfl, rfl⟩

theorem listed_offerSlot (i : SlotNo) (k : Kind) (tag : Byte) (set : Set32) (v : Half) :
    Listed cs s (s.offerSlot i k tag set v) :=
  .of_frame (mild_offerSlot s i k tag set v).toSteady (frame_offerSlot s i k tag set v) ⟨rfl, rfl, rfl⟩

theorem listed_disarm (k : Fin 4) : Listed cs s (s.disarm k) :=
  .of_frame (mild_disarm s k).toSteady (frame_disarm s k) ⟨rfl, rfl, rfl⟩

theorem listed_disarmSource (a : Option Arrival) : Listed cs s (s.disarmSource a) :=
  .of_frame (mild_disarmSource s a).toSteady (frame_disarmSource s a) ⟨rfl, rfl, rfl⟩

theorem listed_setHlt (x : Hlt) : Listed cs s (s.setHlt x) :=
  .of_frame (mild_setHlt s x).toSteady (frame_setHlt s x) ⟨rfl, rfl, rfl⟩

theorem listed_setFlg (x : Flg) : Listed cs s (s.setFlg x) :=
  .of_frame (mild_setFlg s x).toSteady (frame_setFlg s x) ⟨rfl, rfl, rfl⟩

theorem listed_setLif (x : Lif) : Listed cs s (s.setLif x) :=
  .of_frame (mild_setLif s x).toSteady (frame_setLif s x) ⟨rfl, rfl, rfl⟩

theorem listed_changeWord (new : Word) (cause : Byte) : Listed cs s (s.changeWord new cause) :=
  .of_frame (mild_changeWord s new cause).toSteady (frame_changeWord s new cause) ⟨rfl, rfl, rfl⟩

end

/-- A slot is replaced that stays WAITING if it was. -/
theorem listed_setSlot (cs : List Class) (s : State) (i : SlotNo) {x : Slot} (hcfg : x.cfg = (s.slot i).cfg)
    (hresult : x.result = (s.slot i).result) (hstate : (s.slot i).state = .waiting → x.state = .waiting) :
    Listed cs s (s.setSlot i x) :=
  .of_kept (mild_setSlot s i hcfg hresult).toSteady rfl rfl fun j hj => by
    rw [slot_setSlot]
    split
    · rename_i h
      exact hstate (h ▸ hj)
    · exact hj

/-- The membership controller's other fields. -/
theorem listed_setMbr (cs : List Class) (s : State) {x : Mbr} (hn : x.number = s.mbr.number)
    (hm : x.membership = s.mbr.membership) : Listed cs s (s.setMbr x) :=
  .of_kept (mild_setMbr s hn).toSteady hm rfl fun _ => id

end Sys2Proof.Machine
end

section
/-! The classes that each meaning touches in the request list, meaning by meaning. -/

namespace Sys2Proof.Machine

/-! ### Slots -/

theorem listed_takeArrival {s : State} (hm : Member s) (i : SlotNo) (v : Half) (src : Source) :
    Listed [.arrive] s (s.takeArrival i v src) :=
  .of_place (mild_takeArrival s i v src).toSteady rfl rfl hm (.arrive s i) fun j hj => by
    rw [State.takeArrival, slot_place, slot_setSlot]
    split
    · rfl
    · rcases hj with hj | ⟨_, hj⟩
      · exact hj
      · exact absurd hj ‹_›

theorem arrivalTest_ok {s : State} {i : SlotNo} (h : s.arrivalTest i = .ok) :
    s.mbr.membership = .online ∧ (s.slot i).cfg.enabled = true ∧ (s.slot i).state ≠ .fault ∧ s.hlt.condition = .running
      ∧ s.MemberOf i ∧ (s.slot i).state ≠ .waiting := by
  unfold State.arrivalTest at h
  split at h
  · cases h
  · split at h
    · cases h
    · split at h
      · cases h
      · split at h
        · cases h
        · split at h
          · cases h
          · split at h
            · cases h
            · rename_i hm he hf hh hmem hw
              refine ⟨not_not.mp hm, by simpa using he, hf, ?_, not_not.mp hmem, hw⟩
              cases hc : s.hlt.condition
              · rfl
              · exact absurd hc hh

/-- An attempt is an arrival taken, its tests passed, or nothing. -/
theorem attempt_cases (s : State) (i : SlotNo) (v : Half) (src : Source) :
    (s.arrivalTest i = .ok ∧ s.attempt i v src = (s.takeArrival i v src, .ok))
      ∨ s.arrivalTest i ≠ .ok ∧ s.attempt i v src = (s, s.arrivalTest i) := by
  unfold State.attempt
  split
  · exact .inl ⟨‹_›, rfl⟩
  · rename_i h
    exact .inr ⟨h, rfl⟩

theorem listed_attempt (s : State) (i : SlotNo) (v : Half) (src : Source) : Listed [.arrive] s (s.attempt i v src).1 := by
  rcases attempt_cases s i v src with ⟨hok, h⟩ | ⟨_, h⟩
  · rw [h]
    exact listed_takeArrival (.inl (arrivalTest_ok hok).1) i v src
  · rw [h]
    exact .refl _ s

/-- The attempt of a level-armed input is an arrival taken or a disarming (R144). -/
theorem levelAttempt_cases (s : State) (k : Fin 4) :
    (s.arrivalTest (low5 (s.inputCfg k).target) = .ok
        ∧ s.levelAttempt k = s.takeArrival (low5 (s.inputCfg k).target) (s.inputCfg k).value (.input k))
      ∨ s.arrivalTest (low5 (s.inputCfg k).target) ≠ .ok ∧ s.levelAttempt k = s.disarm k := by
  unfold State.levelAttempt
  rcases attempt_cases s (low5 (s.inputCfg k).target) (s.inputCfg k).value (.input k) with ⟨hok, h⟩ | ⟨hne, h⟩
  · exact .inl ⟨hok, by rw [h]; rfl⟩
  · exact .inr ⟨hne, by rw [h]; exact if_neg hne⟩

theorem listed_levelAttempt (s : State) (k : Fin 4) : Listed [.arrive] s (s.levelAttempt k) := by
  rcases levelAttempt_cases s k with ⟨hok, h⟩ | ⟨_, h⟩
  · rw [h]
    exact listed_takeArrival (.inl (arrivalTest_ok hok).1) _ _ _
  · rw [h]
    exact listed_disarm _ s k

/-- A slot leaves WAITING with its entry. -/
theorem listed_release (s : State) (i : SlotNo) {x : Slot} (hcfg : x.cfg = (s.slot i).cfg)
    (hresult : x.result = (s.slot i).result) : Listed [.arrive] s ((s.setSlot i x).remove .arrive i) :=
  .of_remove ((mild_setSlot s i hcfg hresult).trans (mild_remove _ _ _)).toSteady rfl rfl fun j hj hne => by
    rw [slot_remove, slot_setSlot_ne _ _ _ _ (fun h => hne (by rw [h]))]
    exact hj

theorem listed_removeArrival (s : State) (i : SlotNo) : Listed [.arrive] s (s.removeArrival i) :=
  (listed_release s i (by rfl) (by rfl)).trans (listed_disarmSource _ _ _)

theorem listed_withdrawNow (s : State) (i : SlotNo) (k : Kind) : Listed [.arrive] s (s.withdrawNow i k) :=
  (listed_removeArrival s i).trans (listed_offerSlot _ _ _ _ _ _ _)

theorem listed_abortNow (s : State) (i : SlotNo) (reason : Byte) : Listed [.arrive] s (s.abortNow i reason) :=
  (listed_removeArrival s i).trans (listed_offerSlot _ _ _ _ _ _ _)

theorem listed_faultSlot (s : State) (i : SlotNo) : Listed [.arrive] s (s.faultSlot i) :=
  ((listed_release s i (by rfl) (by rfl)).trans (listed_disarmSource _ _ _)).trans (listed_offerSlot _ _ _ _ _ _ _)

theorem listed_haltAbortSlot (i : SlotNo) (s : State) : Listed [.arrive] s (State.haltAbortSlot i s) := by
  have h : Listed [.arrive] s (if (s.slot i).state = .waiting then s.abortNow i reasonHalt else s) :=
    .ite (listed_abortNow s i _) (.refl _ s)
  exact .ite (h.trans (listed_setSlot _ _ i (by rfl) (by rfl) id)) h

theorem listed_haltAbort (s : State) : Listed [.arrive] s s.haltAbort := .forSlots listed_haltAbortSlot s

theorem removeArrival_slot (s : State) (i : SlotNo) :
    (s.removeArrival i).slot i = { (s.slot i).dropArrival with state := .ready } := by
  simp [State.removeArrival]

theorem abortNow_slot (s : State) (i : SlotNo) (reason : Byte) :
    (s.abortNow i reason).slot i = { (s.slot i).dropArrival with state := .ready } := by
  rw [State.abortNow, slot_offerSlot, removeArrival_slot]

theorem listed_rebaseSlot (reason : Byte) (sync : Sync) (i : SlotNo) (s : State) :
    Listed [.arrive] s (State.rebaseSlot reason sync i s) := by
  unfold State.rebaseSlot
  refine .ite ?_ (.refl _ s)
  by_cases hw : (s.slot i).state = .waiting
  · simp only [hw, if_true]
    refine (listed_abortNow s i reason).trans (listed_setSlot _ _ i (by rfl) (by rfl) fun h => ?_)
    rw [abortNow_slot] at h
    cases h
  · simp only [hw, if_false]
    exact listed_setSlot _ s i (by rfl) (by rfl) fun h => absurd h hw

theorem listed_withdrawOrDefer (i : SlotNo) (s : State) : Listed [.arrive] s (State.withdrawOrDefer i s) := by
  unfold State.withdrawOrDefer
  dsimp only
  split
  · exact .ite (listed_setSlot _ s i (by rfl) (by rfl) id) (listed_withdrawNow s i _)
  · exact .refl _ s
  · exact .refl _ s
  · exact .refl _ s

theorem listed_withdrawCommand (s : State) (i : SlotNo) : Listed [.arrive] s (s.withdrawCommand i).1 := by
  unfold State.withdrawCommand
  dsimp only
  split
  · exact .refl _ s
  · split
    · exact .refl _ s
    · split
      · exact .refl _ s
      · split
        · exact listed_setSlot _ s i (by rfl) (by rfl) id
        · exact listed_withdrawNow s i _

theorem listed_clearCommand (s : State) (i : SlotNo) : Listed [] s (s.clearCommand i).1 := by
  unfold State.clearCommand
  dsimp only
  split
  · exact .refl _ s
  · split
    · exact .refl _ s
    · rename_i hfault
      dsimp only
      refine (listed_setSlot _ s i (by rfl) (by rfl) fun h => ?_).trans
        (.forInputs (fun k t => .ite (listed_disarm _ t k) (.refl _ t)) _)
      exact absurd (not_not.mp hfault) (by simp [h])

/-! ### Halt unit -/

theorem listed_requestHalt {s : State} (hm : Member s) (cause : Half) : Listed [.halt] s (s.requestHalt cause) :=
  (listed_setHlt _ s _).trans (listed_place_zero hm (by simp) (by simp))

theorem listed_haltSource (s : State) (cause : Half) : Listed [.halt] s (s.haltSource cause) := by
  unfold State.haltSource
  split
  · exact listed_requestHalt (.inl (And.left ‹_›)) cause
  · exact .refl _ s

theorem listed_commandHalt {s : State} (hm : Member s) (cause : Half) : Listed [.halt] s (s.commandHalt cause) := by
  unfold State.commandHalt
  split
  · exact (listed_requestHalt hm cause).trans (listed_setHlt _ _ _)
  · exact listed_setHlt _ s _

theorem listed_inputHalt (s : State) (i : Fin 4) : Listed [.halt] s (s.inputHalt i) :=
  .ite ((listed_haltSource s _).trans (listed_setHlt _ _ _)) (.refl _ s)

theorem listed_timeoutNow (s : State) (i : SlotNo) : Listed [.arrive, .halt] s (s.timeoutNow i) := by
  have h : Listed [.arrive, .halt] s (s.withdrawNow i .timeout) := (listed_withdrawNow s i _).mono (by simp)
  unfold State.timeoutNow
  dsimp only
  split
  · exact h.trans ((listed_haltSource _ _).mono (by simp))
  · exact h

theorem listed_resolveUncompleted (s : State) (i : SlotNo) : Listed [.arrive, .halt] s (s.resolveUncompleted i) := by
  unfold State.resolveUncompleted
  refine .ite (.ite ((listed_withdrawNow s i _).mono (by simp)) (.ite (listed_timeoutNow s i) ?_)) (.refl _ s)
  exact listed_setSlot _ s i (by rfl) (by rfl) id

theorem listed_resolveLatches (s : State) (r : Round) : Listed [.arrive, .halt] s (s.resolveLatches r) := by
  unfold State.resolveLatches
  split
  · exact listed_resolveUncompleted s _
  · exact .refl _ s

theorem listed_askResume {s : State} (hm : Member s) : Listed [.resume] s s.askResume :=
  (listed_setHlt _ s _).trans (listed_place_zero hm (by simp) (by simp))

theorem listed_renewCommandHold (s : State) (old : Hlt) : Listed [.halt] s (s.renewCommandHold old) := by
  unfold State.renewCommandHold
  split
  · rename_i h
    dsimp only
    split
    · exact (listed_requestHalt (.inl h.1) _).trans (listed_setHlt _ _ _)
    · exact listed_setHlt _ s _
  · exact .refl _ s

theorem listed_renewInputHold (old : Hlt) (i : Fin 4) (s : State) : Listed [.halt] s (State.renewInputHold old i s) :=
  .ite (listed_inputHalt s i) (.refl _ s)

theorem listed_resumeNow (s : State) (requesters : Set32) : Listed [.halt] s (s.resumeNow requesters) := by
  unfold State.resumeNow
  refine .trans ?_ (.forInputs (listed_renewInputHold s.hlt) _)
  exact (((listed_setHlt _ s _).trans (listed_offer _ _ _ _ _ _ _)).trans (listed_raise _ _ _)).trans
    (listed_renewCommandHold _ _)

theorem listed_haltNow (s : State) (cause : Byte) (set : Set32) (value : Half) :
    Listed [.halt, .arrive] s (s.haltNow cause set value) := by
  have h : Listed [.halt] s ((s.setHlt { s.hlt with condition := .halted }).dropHaltRequest) :=
    ((listed_setHlt _ s _).trans (listed_setHlt _ _ _)).trans (listed_remove _ _ _)
  unfold State.haltNow
  exact ((h.trans (listed_offer _ _ _ _ _ _ _)).trans (listed_raise _ _ _)).then (listed_haltAbort _) (by simp) (by simp)

/-! ### Flag unit -/

theorem listed_syncFlagsEntry {s : State} (hm : Member s) : Listed [.flags] s s.syncFlagsEntry :=
  .ite (listed_remove s _ _) (listed_place_zero hm (by simp) (by simp))

theorem listed_requestSet (s : State) (m : Set32) : Listed [.flags] s (s.requestSet m) := by
  unfold State.requestSet
  split
  · exact (listed_setFlg _ s _).trans (listed_syncFlagsEntry (.inl ‹_›))
  · exact .refl _ s

theorem listed_requestClear (s : State) (m : Set32) : Listed [.flags] s (s.requestClear m) := by
  unfold State.requestClear
  split
  · exact (listed_setFlg _ s _).trans (listed_syncFlagsEntry (.inl ‹_›))
  · exact .refl _ s

theorem listed_applyFlags (s : State) (sets clears latchS latchC : Set32) :
    Listed [.flags] s (s.applyFlags sets clears latchS latchC) := by
  unfold State.applyFlags
  refine .trans ?_ (listed_changeWord _ _ _ _)
  exact .ite ((listed_setFlg _ s _).trans (listed_remove _ _ _)) ((listed_setFlg _ s _).trans (listed_zeroVoids _ _ _))

theorem listed_followInput (clears : Bool) (i : Fin 4) (s : State) : Listed [.flags] s (State.followInput clears i s) :=
  .ite (.ite (listed_requestSet s _) (.ite (listed_requestClear s _) (.refl _ s))) (.refl _ s)

/-! ### Rounds -/

theorem listed_latchSetA (s : State) (r : Round) (c : Class) (n : Fin 32) : Listed [] s (s.latchSetA r c n).1 := by
  unfold State.latchSetA
  split
  · split
    · exact listed_setSlot _ s _ (by rfl) (by rfl) id
    · exact .refl _ s
  · split <;> exact .refl _ s
  · split <;> exact .refl _ s
  · exact .refl _ s
  · exact .refl _ s
  · exact .refl _ s

/-- What comes about in the slots as a field begins is the latch of SETA or nothing. -/
theorem beginField_cases (s : State) (r : Round) :
    (s.beginField r).1 = s ∨ ∃ c n, r.named = some (c, n) ∧ (s.beginField r).1 = (s.latchSetA r c n).1 := by
  unfold State.beginField
  split
  · exact .inl rfl
  · split
    · exact .inl rfl
    · split
      · exact .inl rfl
      · split
        · split <;> exact .inl rfl
        · rename_i c n hnamed
          split
          · exact .inl rfl
          · split
            · exact .inr ⟨c, n, hnamed, rfl⟩
            · split
              · exact .inl rfl
              · split <;> exact .inl rfl

theorem listed_beginField (s : State) (r : Round) : Listed [] s (s.beginField r).1 := by
  rcases beginField_cases s r with h | ⟨c, n, _, h⟩
  · rw [h]; exact .refl _ s
  · rw [h]; exact listed_latchSetA s r c n

theorem listed_haltEffects (r : Round) (n : Fin 32) (s : State) : Listed [.halt, .arrive] s (haltEffects r n s) :=
  .ite (listed_haltNow s _ _ _) ((listed_zeroVoids s _ _).mono (by simp))

theorem listed_resumeEffects (r : Round) (n : Fin 32) (s : State) : Listed [.halt, .resume] s (resumeEffects r n s) := by
  have h : Listed [.resume] s ((s.setHlt { s.hlt with resumePending := false }).remove .resume 0) :=
    (listed_setHlt _ s _).trans (listed_remove _ _ _)
  refine .ite (.ite (h.then (listed_resumeNow _ _) (by simp) (by simp)) ?_) ((listed_zeroVoids s _ _).mono (by simp))
  exact (h.mono (by simp)).trans ((listed_offer _ _ _ _ _ _ _).trans (listed_raise _ _ _))

theorem listed_adoptCondition (cs : List Class) (s : State) (r : Round) : Listed cs s (s.adoptCondition r) :=
  .of_frame (mild_adoptCondition s r).toSteady (frame_adoptCondition s r) ⟨rfl, rfl, rfl⟩

theorem listed_changeRoster (cs : List Class) (s : State) (new : Set32) (sel : Fin 32) (cause : Byte) :
    Listed cs s (s.changeRoster new sel cause) := by
  refine .of_kept (mild_changeRoster s new sel cause).toSteady (by rw [changeRoster_mbr]) ?_ fun i hi => ?_
  · exact (frame_changeRoster s new sel cause).rnd_eq rfl
  · rwa [slot_eq_of_slots ((frame_changeRoster s new sel cause).slots_eq rfl)]

theorem listed_memberJoin (cs : List Class) (s : State) (r : Round) (n : Fin 32) : Listed cs s (s.memberJoin r n) :=
  (Listed.ite (.refl _ s) (listed_changeRoster _ s _ _ _)).trans (listed_setMbr _ _ (by rfl) (by rfl))

theorem listed_resolveCompleted (cs : List Class) (s : State) (i : SlotNo) (x : Slot) (r : Round) :
    Listed cs s (s.resolveCompleted i x r) :=
  .ite (listed_offerSlot _ s _ _ _ _ _) (.refl _ s)

theorem listed_reattempt (s : State) (x : Slot) : Listed [.arrive] s (s.reattempt x) := by
  unfold State.reattempt
  split
  · exact .ite (listed_levelAttempt s _) (.refl _ s)
  · exact .refl _ s

theorem listed_offerProgress (cs : List Class) (s : State) (i : SlotNo) (r : Round) : Listed cs s (s.offerProgress i r) :=
  .ite (listed_offer _ s _ _ _ _ _) (.refl _ s)

theorem listed_progressSlot (s : State) (i : SlotNo) {x : Slot} (r : Round) (hcfg : x.cfg = (s.slot i).cfg)
    (hresult : x.result = (s.slot i).result) (hstate : x.state = (s.slot i).state) :
    Listed [.arrive, .halt] s (s.progressSlot i x r) := by
  unfold State.progressSlot
  refine .trans ?_ (listed_resolveUncompleted _ _)
  have h : Listed [.arrive] s ((s.setSlot i (if (x.advance r s.mbr.number).published then
      { x.advance r s.mbr.number with probe := false } else x.advance r s.mbr.number)).offerProgress i r) := by
    refine .trans (listed_setSlot _ s i ?_ ?_ ?_) (listed_offerProgress _ _ _ _)
    · split <;> exact hcfg
    · split <;> exact hresult
    · intro hw
      split <;> exact hstate.trans hw
  exact .ite (h.then (listed_remove _ _ _) (by simp) (by simp)) (h.then (listed_zeroVoids _ _ _) (by simp) (by simp))

/-- The part of a completion up to its records, in which the slot leaves WAITING with its entry, or stays. -/
theorem listed_completeSlot (s : State) (i : SlotNo) {x : Slot} (r : Round) (hcfg : x.cfg = (s.slot i).cfg) :
    Listed [.arrive] s (s.completeSlot i x r) := by
  have hst := steady_completed s i r hcfg
  have hf : Frame [.log, .ntf, .pin] (s.setSlot i (x.complete r s.tsc.time))
      (((s.setSlot i (x.complete r s.tsc.time)).outputsOnCompletion i).offerSlot i .complete (epochTag x.epoch) r.setA r.val) :=
    (frame_outputsOnCompletion _ _).then (frame_offerSlot _ _ _ _ _ _) (by simp) (by simp)
  unfold State.completeSlot
  refine .trans (.trans ?_ (listed_resolveCompleted _ _ _ _ _)) (listed_reattempt _ _)
  have hslots : ∀ j, (s.slot j).state = .waiting → j ≠ i ∨ (x.complete r s.tsc.time).state = .waiting →
      ((((s.setSlot i (x.complete r s.tsc.time)).outputsOnCompletion i).offerSlot i .complete (epochTag x.epoch) r.setA
        r.val).slot j).state = .waiting := by
    intro j hj hne
    rw [slot_eq_of_slots (hf.slots_eq rfl), slot_setSlot]
    split
    · exact hne.resolve_left fun h => h ‹_›
    · exact hj
  split
  · rename_i hw
    refine .of_setVoids (n := i) (v := 0) (hst.trans (mild_zeroVoids _ _ _).toSteady) ?_ ?_ (Nat.zero_le _) fun j hj => ?_
    · rw [zeroVoids_mbr, hf.mbr_eq rfl]; rfl
    · rw [zeroVoids_requests, hf.rnd_eq rfl]; rfl
    · rw [slot_zeroVoids]
      exact hslots j hj (.inr hw)
  · refine .of_remove (n := i) (hst.trans (mild_remove _ _ _).toSteady) ?_ ?_ fun j hj hne => ?_
    · rw [remove_mbr, hf.mbr_eq rfl]; rfl
    · rw [remove_requests, hf.rnd_eq rfl]; rfl
    · rw [slot_remove]
      exact hslots j hj (.inl fun h => hne (by rw [h]))

theorem listed_arriveEffects (r : Round) (n : Fin 32) (s : State) : Listed [.arrive, .halt] s (arriveEffects r n s) := by
  unfold arriveEffects
  split
  · dsimp only
    split
    · exact (listed_completeSlot s n r (by rw [adopt_eq])).mono (by simp)
    · exact listed_progressSlot s n r (by rw [adopt_eq]) (by rw [adopt_eq]) (by rw [adopt_eq])
  · exact (listed_zeroVoids s _ _).mono (by simp)

theorem listed_flagsEffects (r : Round) (n : Fin 32) (s : State) : Listed [.flags] s (flagsEffects r n s) :=
  .ite (listed_applyFlags s _ _ _ _) (.refl _ s)

theorem listed_probeSlot {s : State} (hm : Member s) (i : SlotNo) : Listed [.arrive] s (State.probeSlot i s) := by
  unfold State.probeSlot
  dsimp only
  split
  · rename_i h
    obtain ⟨_, _, hw, _, _⟩ := h
    refine .ite (.refl _ s) (.trans (t := s.setSlot i { s.slot i with probe := true }) ?_ ?_)
    · exact listed_setSlot _ s i (by rfl) (by rfl) id
    · exact listed_place hm (.arrive _ i) fun _ => by rwa [slot_setSlot_same]
  · exact .refl _ s

theorem listed_forSlots_probe {s : State} (hm : Member s) : Listed [.arrive] s (forSlots State.probeSlot s) :=
  forSlots_keeps (Listed [.arrive] s) _
    (fun i t h => h.trans (listed_probeSlot (by rwa [Member, h.membership]) i)) s (.refl _ s)

theorem listed_takeRoll {s : State} (hm : Member s) (r : Round) : Listed [.halt, .arrive] s (s.takeRoll r) := by
  have h : Listed [.halt, .arrive] s
      (((s.changeRoster r.setA s.mbr.number causeRoll).changeWord r.wordB causeRoll).repairCondition r) :=
    ((listed_changeRoster _ s _ _ _).trans (listed_changeWord _ _ _ _)).trans (.ite (listed_haltNow _ _ _ _) (.refl _ _))
  unfold State.takeRoll
  dsimp only
  split
  · exact h
  · exact h.trans ((listed_forSlots_probe (by rwa [Member, h.membership])).mono (by simp))

theorem listed_voidRecord (cs : List Class) (s : State) (r : Round) : Listed cs s (s.voidRecord r) :=
  (listed_offer _ s _ _ _ _ _).trans (listed_raise _ _ _)

theorem listed_droppedRecord (s : State) (c : Class) (n : Fin 32) (limit : Nat) :
    Listed [c] s (s.droppedRecord c n limit) :=
  ((listed_remove s c n).trans (listed_offer _ _ _ _ _ _ _)).trans (listed_raise _ _ _)

/-- An entry within its limit has its void counted; no other is touched. -/
theorem listed_countVoid_within {s : State} {c : Class} {n : Fin 32}
    (h : ∀ e, findEntry s.rnd.requests c n = some e → e.voids < s.retryLimit c n) : Listed [c] s (s.countVoid c n) := by
  unfold State.countVoid
  split
  · exact .refl _ s
  · rename_i e he
    have hlt := h e he
    rw [if_neg (by omega)]
    exact .of_setVoids (mild_setRnd s _).toSteady rfl rfl hlt fun _ => id

/-! ### Inputs -/

theorem listed_inputArrive (s : State) (i : Fin 4) (l : Level) : Listed [.arrive] s (s.inputArrive i l) :=
  .ite (.ite (listed_levelAttempt s i) (.refl _ s)) (.ite (listed_attempt s _ _ _) (.refl _ s))

theorem listed_actOnBinding (s : State) (i : Fin 4) (l : Level) : Listed [.arrive, .flags, .halt] s (s.actOnBinding i l) := by
  have hset : ∀ m, Listed [.arrive, .flags, .halt] s (s.requestSet m) := fun m => (listed_requestSet s m).mono (by simp)
  have hclear : ∀ m, Listed [.arrive, .flags, .halt] s (s.requestClear m) := fun m => (listed_requestClear s m).mono (by simp)
  unfold State.actOnBinding
  dsimp only
  split
  · exact .refl _ s
  · exact (listed_inputArrive s i l).mono (by simp)
  · exact .ite (hset _) (.refl _ s)
  · exact .ite (hclear _) (.refl _ s)
  · exact .ite (hset _) (hclear _)
  · refine .ite (.ite ((listed_inputHalt s i).mono (by simp)) (listed_setHlt _ s _)) (.ite ?_ (.refl _ s))
    exact (listed_haltSource s _).mono (by simp)

end Sys2Proof.Machine
end

section
/-! The request list through every step (O56). -/

namespace Sys2Proof.Machine

/-! ### At most 37 entries -/

/-- The places of the entries a station may hold: one for each slot, then one for each class without one. -/
def Entry.place (e : Entry) : Nat :=
  match e.cls with
  | .arrive => e.sel.val
  | .halt => 32
  | .resume => 33
  | .join => 34
  | .flags => 35
  | .roll => 36

theorem Entry.place_lt (e : Entry) : e.place < 37 := by
  have := e.sel.isLt
  unfold Entry.place
  split <;> omega

/-- Two entries of one place have one identity: the selector is the slot's, 0, or the own number (R28, R51). -/
theorem identity_eq_of_place {s : State} {a b : Entry} (ha : SelectorOk s a.cls a.sel) (hb : SelectorOk s b.cls b.sel)
    (h : a.place = b.place) : a.identity = b.identity := by
  have hcls : a.cls = b.cls := by
    have hla := a.sel.isLt
    have hlb := b.sel.isLt
    unfold Entry.place at h
    cases hca : a.cls <;> cases hcb : b.cls <;> simp only [hca, hcb] at h <;> first | rfl | omega
  have hsel : a.sel = b.sel := by
    by_cases harr : a.cls = .arrive
    · have harr' := hcls.symm.trans harr
      simp only [Entry.place, harr, harr'] at h
      exact Fin.ext h
    · by_cases hjoin : a.cls = .join
      · rw [ha.own hjoin, hb.own (hcls.symm.trans hjoin)]
      · rw [ha.zero harr hjoin, hb.zero (hcls ▸ harr) (hcls ▸ hjoin)]
  rw [Entry.identity, Entry.identity, hcls, hsel]

theorem ListOk.capacity {s : State} (h : ListOk s) : s.rnd.requests.length ≤ 37 := by
  have hnodup : (s.rnd.requests.map Entry.place).Nodup := by
    rw [List.nodup_iff_pairwise_ne, List.pairwise_map]
    refine List.Pairwise.imp_of_mem ?_ h.ascending
    intro a b ha hb hlt heq
    exact absurd (identity_eq_of_place (h.selectors a ha) (h.selectors b hb) heq) (Nat.ne_of_lt hlt)
  have hsub : s.rnd.requests.map Entry.place ⊆ List.range 37 := by
    intro x hx
    obtain ⟨e, _, rfl⟩ := List.mem_map.mp hx
    exact List.mem_range.mpr e.place_lt
  have := (List.subperm_of_subset hnodup hsub).length_le
  rwa [List.length_map, List.length_range] at this

/-! ### The invariant from its parts -/

theorem RequestsOk.listOk {s : State} (h : RequestsOk s) : ListOk s :=
  ⟨h.ascending, fun e he => ⟨(h.selectors e he).1, (h.selectors e he).2⟩, h.voids, h.arrive⟩

theorem RequestsOk.of_listOk {s : State} (h : ListOk s) (hoff : s.mbr.membership = .offline → s.rnd.requests = [])
    (hjoin : s.mbr.membership = .joining → ∀ e ∈ s.rnd.requests, e.cls = .join)
    (hlim : s.cfg.retry ≤ 3 ∧ ∀ i, (s.slot i).cfg.retry ≤ 3) : RequestsOk s where
  ascending := h.ascending
  offline := hoff
  joining := hjoin
  arrive := h.arrive
  selectors := fun e he => ⟨(h.selectors e he).zero, (h.selectors e he).own⟩
  capacity := h.capacity
  voids := h.voids
  limits := hlim

theorem Steady.limits {s t : State} (h : Steady s t) (hs : s.cfg.retry ≤ 3 ∧ ∀ i, (s.slot i).cfg.retry ≤ 3) :
    t.cfg.retry ≤ 3 ∧ ∀ i, (t.slot i).cfg.retry ≤ 3 := by
  rw [h.cfg]
  exact ⟨hs.1, fun i => by rw [h.slotCfg i]; exact hs.2 i⟩

/-- An empty list is sound at any station. -/
theorem RequestsOk.of_empty {s : State} (h : s.rnd.requests = [])
    (hlim : s.cfg.retry ≤ 3 ∧ ∀ i, (s.slot i).cfg.retry ≤ 3) : RequestsOk s :=
  .of_listOk (.of_empty h) (fun _ => h) (fun _ => by simp [h]) hlim

/-- Classes of entries touched soundly. -/
theorem RequestsOk.of_listed {cs : List Class} {s t : State} (hs : RequestsOk s) (h : Listed cs s t) (hst : Steady s t) :
    RequestsOk t := by
  have hkept : ¬Member s → ∀ e ∈ t.rnd.requests, ∃ y ∈ s.rnd.requests, y.cls = e.cls := by
    intro hm e he
    obtain ⟨y, hy, hc, _⟩ := hasEntry_iff.mp (h.silent hm e.cls e.sel (hasEntry_iff.mpr ⟨e, he, rfl, rfl⟩))
    exact ⟨y, hy, hc⟩
  refine .of_listOk (h.sound hs.listOk) (fun hoff => ?_) (fun hjoin e he => ?_) (hst.limits hs.limits)
  · rw [h.membership] at hoff
    rw [List.eq_nil_iff_forall_not_mem]
    intro e he
    obtain ⟨y, hy, _⟩ := hkept (by simp [Member, hoff]) e he
    rw [hs.offline hoff] at hy
    cases hy
  · rw [h.membership] at hjoin
    obtain ⟨y, hy, hc⟩ := hkept (by simp [Member, hjoin]) e he
    rw [← hc]
    exact hs.joining hjoin y hy

/-- The list stands, and with it its slots; the membership too, unless it is a member's. -/
theorem RequestsOk.of_parts {s t : State} (hs : RequestsOk s) (hst : t.cfg = s.cfg ∧ t.mbr.number = s.mbr.number)
    (hcfg : ∀ i, (t.slot i).cfg = (s.slot i).cfg) (hreq : t.rnd.requests = s.rnd.requests)
    (hm : t.mbr.membership = s.mbr.membership ∨ Member t)
    (harr : ∀ i, hasEntry s.rnd.requests .arrive i = true → (t.slot i).state = .waiting) : RequestsOk t := by
  obtain ⟨hscfg, hnumber⟩ := hst
  have hlimit : ∀ c n, t.retryLimit c n = s.retryLimit c n := by
    intro c n
    cases c <;> simp only [State.retryLimit, hscfg, hcfg]
  refine .of_listOk ⟨?_, ?_, ?_, ?_⟩ ?_ ?_ ⟨by rw [hscfg]; exact hs.limits.1, fun i => by rw [hcfg]; exact hs.limits.2 i⟩
  · rw [hreq]; exact hs.ascending
  · rw [hreq]
    exact fun e he => ⟨(hs.selectors e he).1, fun hc => ((hs.selectors e he).2 hc).trans hnumber.symm⟩
  · rw [hreq]
    exact fun e he => (hs.voids e he).trans_eq (hlimit _ _).symm
  · rw [hreq]; exact harr
  · intro hoff
    rcases hm with hm | hm
    · rw [hreq]; exact hs.offline (hm ▸ hoff)
    · simp [Member, hoff] at hm
  · intro hjoin
    rcases hm with hm | hm
    · rw [hreq]; exact hs.joining (hm ▸ hjoin)
    · simp [Member, hjoin] at hm

theorem RequestsOk.of_frame {c : List Block} {s t : State} (hs : RequestsOk s) (h : Frame c s t)
    (hc : c.contains .cfg = false ∧ c.contains .rnd = false ∧ c.contains .mbr = false ∧ c.contains .slots = false) :
    RequestsOk t := by
  obtain ⟨hcfg, hrnd, hmbr, hslots⟩ := hc
  have hslot := slot_eq_of_slots (h.slots_eq hslots)
  refine hs.of_parts ⟨h.cfg_eq hcfg, ?_⟩ (fun i => by rw [hslot]) ?_ (.inl ?_) fun i hi => ?_
  · rw [h.mbr_eq hmbr]
  · rw [h.rnd_eq hrnd]
  · rw [h.mbr_eq hmbr]
  · rw [hslot]; exact hs.arrive i hi

/-- A member's list may hold any class. -/
theorem RequestsOk.of_enter {s : State} (hs : RequestsOk s) {m : Membership} (hm : m = .online ∨ m = .leaving) :
    RequestsOk (s.enter m) :=
  hs.of_parts ⟨rfl, rfl⟩ (fun _ => rfl) rfl (.inr hm) hs.arrive

/-- The round in progress does not matter to the list. -/
theorem RequestsOk.of_setRound {s : State} (hs : RequestsOk s) (r : Option Round) :
    RequestsOk (s.setRnd { s.rnd with round := r }) :=
  hs.of_parts ⟨rfl, rfl⟩ (fun _ => rfl) rfl (.inl rfl) hs.arrive

/-! ### Going OFFLINE -/

/-- Slots put back remove nothing from an empty list. -/
theorem forSlots_rebase_empty (reason : Byte) (sync : Sync) (s : State) (h : s.rnd.requests = []) :
    (forSlots (State.rebaseSlot reason sync) s).rnd = s.rnd := by
  refine forSlots_keeps (fun t => t.rnd = s.rnd) _ (fun i t ht => ?_) s rfl
  have hempty : removeEntry t.rnd.requests .arrive i = t.rnd.requests := by rw [ht, h]; rfl
  have habort : (t.abortNow i reason).rnd = t.rnd := by
    simp only [State.abortNow, State.removeArrival, offerSlot_rnd, disarmSource_rnd, remove_requests, setSlot_rnd, hempty]
  unfold State.rebaseSlot
  split
  · dsimp only
    split
    · rw [setSlot_rnd, habort, ht]
    · exact ht
  · exact ht

@[simp] theorem goOffline_rnd (s : State) : s.goOffline.rnd = { requests := [], round := none } :=
  forSlots_rebase_empty _ _ _ rfl

@[simp] theorem leaveBus_rnd (s : State) (cause : Byte) : (s.leaveBus cause).rnd = { requests := [], round := none } :=
  goOffline_rnd _

@[simp] theorem refuseJoin_rnd (s : State) (reason : Byte) (set : Set32) :
    (s.refuseJoin reason set).rnd = { requests := [], round := none } :=
  goOffline_rnd _

theorem leaveBus_requestsOk {s : State} (hs : RequestsOk s) (cause : Byte) : RequestsOk (s.leaveBus cause) :=
  .of_empty (by rw [leaveBus_rnd]) ((mild_leaveBus s cause).toSteady.limits hs.limits)

theorem refuseJoin_requestsOk {s : State} (hs : RequestsOk s) (reason : Byte) (set : Set32) :
    RequestsOk (s.refuseJoin reason set) :=
  .of_empty (by rw [refuseJoin_rnd]) ((mild_refuseJoin s reason set).toSteady.limits hs.limits)

/-! ### Abandoned rounds and stuck lines -/

theorem frame_framingRecord (s : State) (r : Round) : Frame [.log, .ntf] s (s.framingRecord r) := by
  unfold State.framingRecord
  dsimp only
  split <;> exact (frame_offer s _ _ _ _ _).then (frame_raise _ _) (by simp) (by simp)

theorem abandon_requestsOk {s : State} (hs : RequestsOk s) (framing : Bool) : RequestsOk (s.abandon framing) := by
  unfold State.abandon
  split
  · exact hs
  · rename_i r _
    have h := (hs.of_setRound none).of_listed (listed_resolveLatches _ r) (mild_resolveLatches _ r).toSteady
    dsimp only
    split
    · exact h.of_frame (frame_framingRecord _ _) ⟨rfl, rfl, rfl, rfl⟩
    · exact h

theorem stuckNow_requestsOk {s : State} (hs : RequestsOk s) (stb dat : Bool) : RequestsOk (s.stuckNow stb dat) := by
  have h := abandon_requestsOk (hs.of_frame (frame_setLif s s.lif.faulted) ⟨rfl, rfl, rfl, rfl⟩) false
  change RequestsOk (State.busFault _ _ _)
  unfold State.busFault
  dsimp only
  split
  · refine .of_empty (by rw [goOffline_rnd]) ((mild_goOffline _).toSteady.limits ?_)
    exact ((mild_offer _ _ _ _ _ _).trans (mild_raise _ _)).toSteady.limits h.limits
  · exact h.of_frame ((frame_offer _ _ _ _ _ _).then (frame_raise _ _) (c := [.log, .ntf]) (by simp) (by simp))
      ⟨rfl, rfl, rfl, rfl⟩

/-! ### JOIN and LEAVE -/

/-- JOIN before the test of the lines (R50). -/
def State.joinPlaced (s : State) : State :=
  let a := (s.setMbr { s.mbr with nonce := some (s.tsc.time.setWidth 16) }).enter .joining
  (a.setLif a.lif.seek).place .join s.mbr.number

theorem joinNow_eq (s : State) :
    s.joinNow = if s.StbStuck ∨ s.DatStuck then s.joinPlaced.stuckNow (decide s.StbStuck) (decide s.DatStuck)
      else s.joinPlaced := rfl

theorem joinPlaced_requests (s : State) : s.joinPlaced.rnd.requests = placeEntry s.rnd.requests .join s.mbr.number := rfl

theorem joinNow_requestsOk {s : State} (hs : RequestsOk s) (hoff : s.mbr.membership = .offline) : RequestsOk s.joinNow := by
  have hreq : s.joinPlaced.rnd.requests = [{ cls := .join, sel := s.mbr.number, voids := 0 }] := by
    rw [joinPlaced_requests, hs.offline hoff]
    rfl
  have h : RequestsOk s.joinPlaced := by
    refine .of_listOk ⟨?_, ?_, ?_, ?_⟩ ?_ ?_ hs.limits <;> rw [hreq]
    · exact List.pairwise_singleton _ _
    · simp only [List.mem_singleton]
      rintro e rfl
      exact ⟨fun _ h => absurd rfl h, fun _ => rfl⟩
    · simp only [List.mem_singleton]
      rintro e rfl
      exact Nat.zero_le _
    · intro i hi
      cases hi
    · intro h
      cases h
    · simp
  rw [joinNow_eq]
  split
  · exact stuckNow_requestsOk h _ _
  · exact h

theorem listed_discardFlags (s : State) : Listed [.flags] s s.discardFlags :=
  (listed_setFlg _ s _).trans (listed_remove _ _ _)

theorem listed_leaveHalt (s : State) : Listed [.halt, .resume] s s.leaveHalt :=
  ((listed_setHlt _ s _).trans ((listed_remove _ _ _).mono (by simp))).trans ((listed_remove _ _ _).mono (by simp))

/-- LEAVE before its change of membership (R60). -/
def State.leaveCleared (s : State) : State := ((forSlots State.withdrawOrDefer s).discardFlags).leaveHalt

theorem leaveNow_eq (s : State) : s.leaveNow = (s.leaveCleared.enter .leaving).place .roll 0 := rfl

theorem listed_leaveCleared (s : State) : Listed [.arrive, .flags, .halt, .resume] s s.leaveCleared :=
  (((Listed.forSlots listed_withdrawOrDefer s).then (listed_discardFlags _) (es := [.arrive, .flags]) (by simp)
    (by simp)).mono (by simp)).trans ((listed_leaveHalt _).mono (by simp))

theorem mild_leaveCleared (s : State) : Mild s s.leaveCleared :=
  ((Mild.forSlots mild_withdrawOrDefer s).trans (.of_frame (frame_discardFlags _) rfl)).trans (.of_frame (frame_leaveHalt _) rfl)

theorem leaveNow_requestsOk {s : State} (hs : RequestsOk s) : RequestsOk s.leaveNow := by
  have h := hs.of_listed (listed_leaveCleared s) (mild_leaveCleared s).toSteady
  rw [leaveNow_eq]
  exact (h.of_enter (.inr rfl)).of_listed (listed_place_zero (.inr rfl) (by simp) (by simp)) (mild_place _ _ _).toSteady

/-! ### Rounds -/

theorem endRound_requestsOk {s : State} (hs : RequestsOk s) (dis : Level) : RequestsOk (s.endRound dis) :=
  (hs.of_setRound none).of_frame (frame_setLif _ _) ⟨rfl, rfl, rfl, rfl⟩

/-- Admission begins with membership and roster (R53). -/
def State.admitEntered (s : State) (r : Round) : State :=
  (s.enter .online).setMbr
    { (s.enter .online).mbr with roster := r.setA ||| only s.mbr.number, rollTimer := 0, nonce := none }

/-- Admission up to the slots (R53, R120, R136). -/
def State.admitBegun (s : State) (r : Round) : State :=
  let c := ((s.admitEntered r).remove .join s.mbr.number).offer .joined s.mbr.number 0#8 (r.setA ||| only s.mbr.number)
    s.mbr.nonceValue
  (c.changeWord r.joinWord causeJoin).adoptCondition r

theorem admitJoiner_eq (s : State) (r : Round) :
    s.admitJoiner r = forInputs (State.followInput true) (forSlots State.admitSlot (s.admitBegun r)) := rfl

theorem mild_admitEntered (s : State) (r : Round) : Mild s (s.admitEntered r) :=
  (mild_enter s _).trans (mild_setMbr _ (by rfl))

theorem listed_admitBegun (s : State) (r : Round) : Listed [.join] (s.admitEntered r) (s.admitBegun r) := by
  unfold State.admitBegun
  refine .trans ?_ (listed_adoptCondition _ _ _)
  refine .trans ?_ (listed_changeWord _ _ _ _)
  exact (listed_remove _ _ _).trans (listed_offer _ _ _ _ _ _ _)

theorem mild_admitBegun (s : State) (r : Round) : Mild (s.admitEntered r) (s.admitBegun r) := by
  unfold State.admitBegun
  refine .trans ?_ (mild_adoptCondition _ _)
  refine .trans ?_ (mild_changeWord _ _ _)
  exact (mild_remove _ _ _).trans (mild_offer _ _ _ _ _ _)

theorem mild_admitSlot (i : SlotNo) (s : State) : Mild s (State.admitSlot i s) :=
  .ite (mild_setSlot s i (by rfl) (by rfl)) (.refl s)

theorem joining_no_arrive {s : State} (hs : RequestsOk s) (hj : s.mbr.membership = .joining) (i : SlotNo) :
    hasEntry s.rnd.requests .arrive i = false := by
  rw [Bool.eq_false_iff]
  intro h
  obtain ⟨e, he, hc, _⟩ := hasEntry_iff.mp h
  rw [hs.joining hj e he] at hc
  cases hc

theorem admitJoiner_requestsOk {s : State} (hs : RequestsOk s) (hj : s.mbr.membership = .joining) (r : Round) :
    RequestsOk (s.admitJoiner r) := by
  have ha : RequestsOk (s.admitEntered r) := hs.of_parts ⟨rfl, rfl⟩ (fun _ => rfl) rfl (.inr (.inl rfl)) hs.arrive
  have hb := ha.of_listed (listed_admitBegun s r) (mild_admitBegun s r).toSteady
  have hnone : ∀ i, hasEntry (s.admitBegun r).rnd.requests .arrive i = false := fun i => by
    rw [hasEntry_isSome, (listed_admitBegun s r).others _ _ (by simp), ← hasEntry_isSome]
    exact joining_no_arrive hs hj i
  have hst := (Mild.forSlots mild_admitSlot (s.admitBegun r)).toSteady
  have hf := frame_forSlots _ frame_admitSlot (s.admitBegun r)
  have hc : RequestsOk (forSlots State.admitSlot (s.admitBegun r)) :=
    hb.of_parts ⟨hst.cfg, hst.number⟩ hst.slotCfg (by rw [hf.rnd_eq rfl]) (.inl (by rw [hf.mbr_eq rfl])) fun i hi => by
      rw [hnone i] at hi
      cases hi
  rw [admitJoiner_eq]
  exact hc.of_listed (.forInputs (listed_followInput true) _)
    (Mild.forInputs (fun i t => .of_frame (frame_followInput true i t) rfl) _).toSteady

theorem joinEffects_requestsOk {s : State} (hs : RequestsOk s) (r : Round) (n : Fin 32) :
    RequestsOk (joinEffects r n s) := by
  unfold joinEffects
  split
  · split
    · unfold State.ownJoin
      split
      · exact refuseJoin_requestsOk hs _ _
      · exact admitJoiner_requestsOk hs ‹_› r
    · exact hs
  · exact hs.of_listed (listed_memberJoin [] s r n) (mild_memberJoin s r n).toSteady
  · exact hs.of_listed (listed_memberJoin [] s r n) (mild_memberJoin s r n).toSteady
  · exact hs

theorem rollEffects_requestsOk {s : State} (hs : RequestsOk s) (r : Round) (n : Fin 32) :
    RequestsOk (rollEffects r n s) := by
  have htake : ∀ u : State, Listed [.roll] s u → Steady s u → Member s → RequestsOk (u.takeRoll r) := by
    intro u hl hu hm
    exact (hs.of_listed hl hu).of_listed (listed_takeRoll (by rwa [Member, hl.membership]) r) (mild_takeRoll u r).toSteady
  have hmbr := listed_setMbr [.roll] s (x := { s.mbr with rollTimer := 0 }) (by rfl) (by rfl)
  have hst := mild_setMbr s (x := { s.mbr with rollTimer := 0 }) (by rfl)
  unfold rollEffects
  split
  · exact htake _ (hmbr.trans (listed_remove _ _ _)) (hst.trans (mild_remove _ _ _)).toSteady (.inl ‹_›)
  · split
    · exact leaveBus_requestsOk hs _
    · exact htake _ (hmbr.trans (listed_zeroVoids _ _ _)) (hst.trans (mild_zeroVoids _ _ _)).toSteady (.inr ‹_›)
  · exact hs
  · exact hs

theorem dropEntry_requestsOk {s : State} (hs : RequestsOk s) (c : Class) (n : Fin 32) (limit : Nat) :
    RequestsOk (s.dropEntry c n limit) := by
  have hd : ∀ c, RequestsOk (s.droppedRecord c n limit) := fun c =>
    hs.of_listed (listed_droppedRecord s c n limit) (mild_droppedRecord s c n limit).toSteady
  unfold State.dropEntry
  split
  · exact hs.of_listed (listed_faultSlot s n) (mild_faultSlot s n).toSteady
  · exact refuseJoin_requestsOk hs _ _
  · exact (hd _).of_frame (frame_setHlt _ _) ⟨rfl, rfl, rfl, rfl⟩
  · exact (hd _).of_frame (frame_setHlt _ _) ⟨rfl, rfl, rfl, rfl⟩
  · exact (hd _).of_frame (frame_setFlg _ _) ⟨rfl, rfl, rfl, rfl⟩
  · dsimp only
    split
    · exact leaveBus_requestsOk (hd _) _
    · exact hd _

theorem countVoid_requestsOk {s : State} (hs : RequestsOk s) (c : Class) (n : Fin 32) : RequestsOk (s.countVoid c n) := by
  by_cases h : ∀ e, findEntry s.rnd.requests c n = some e → e.voids < s.retryLimit c n
  · exact hs.of_listed (listed_countVoid_within h) (mild_countVoid s c n).toSteady
  · simp only [not_forall] at h
    obtain ⟨e, he, hlt⟩ := h
    unfold State.countVoid
    rw [he]
    dsimp only
    rw [if_pos (by omega)]
    exact dropEntry_requestsOk hs c n _

theorem voidEffects_requestsOk {s : State} (hs : RequestsOk s) (r : Round) : RequestsOk (voidEffects r s) := by
  have hv := hs.of_frame (frame_voidRecord s r) ⟨rfl, rfl, rfl, rfl⟩
  unfold voidEffects
  dsimp only
  split
  · exact hv
  · exact (countVoid_requestsOk hv _ _).of_listed (listed_resolveLatches _ r) (mild_resolveLatches _ r).toSteady

/-! ### A recognised bus reset -/

theorem mem_busResetRequests {l : List Entry} {e : Entry} (h : e ∈ busResetRequests l) :
    e.cls = .join ∧ e.voids = 0 ∧ ∃ y ∈ l, y.cls = .join ∧ y.sel = e.sel := by
  simp only [busResetRequests, List.mem_map, List.mem_filter, beq_iff_eq] at h
  obtain ⟨y, ⟨hy, hc⟩, rfl⟩ := h
  exact ⟨hc, rfl, y, hy, hc, rfl⟩

theorem ascending_busResetRequests {l : List Entry} (h : Ascending l) : Ascending (busResetRequests l) := by
  unfold busResetRequests
  rw [Ascending, List.pairwise_map]
  exact h.filter _

theorem busResetPruned_requestsOk {s : State} (hs : RequestsOk s) : RequestsOk s.busResetPruned := by
  have hreq : s.busResetPruned.rnd.requests = busResetRequests s.rnd.requests := rfl
  have hf := frame_busResetPruned s
  have hst : Steady s s.busResetPruned := ((mild_busResetSeen s).trans (mild_setRnd _ _)).toSteady
  refine .of_listOk ⟨?_, ?_, ?_, ?_⟩ ?_ ?_ (hst.limits hs.limits) <;> rw [hreq]
  · exact ascending_busResetRequests hs.ascending
  · intro e he
    obtain ⟨hc, _, y, hy, hyc, hys⟩ := mem_busResetRequests he
    refine ⟨fun _ h => absurd hc h, fun _ => ?_⟩
    rw [hst.number, ← hys]
    exact (hs.selectors y hy).2 hyc
  · intro e he
    rw [(mem_busResetRequests he).2.1]
    exact Nat.zero_le _
  · intro i hi
    obtain ⟨e, he, hc, _⟩ := hasEntry_iff.mp hi
    rw [(mem_busResetRequests he).1] at hc
    cases hc
  · intro hoff
    rw [hf.mbr_eq rfl] at hoff
    rw [hs.offline hoff]
    rfl
  · exact fun _ e he => (mem_busResetRequests he).1

/-- The ONLINE station's part (R64, R87, R121, R138). -/
theorem listed_busResetOnline {s : State} (hm : Member s) : Listed [.roll, .arrive, .flags] s s.busResetOnline := by
  have hroster : Listed [.roll, .arrive, .flags] s (s.changeRoster (only s.mbr.number) s.mbr.number causeBusReset) :=
    listed_changeRoster _ s _ _ _
  unfold State.busResetOnline
  refine .trans ?_ ((Listed.forInputs (listed_followInput false) _).mono (by simp))
  refine .trans ?_ (.of_frame (mild_busResetHalt _).toSteady (frame_busResetHalt _) ⟨rfl, rfl, rfl⟩)
  refine .trans ?_ (.of_frame (mild_busResetFlags _).toSteady (frame_busResetFlags _) ⟨rfl, rfl, rfl⟩)
  refine .trans ?_ ((Listed.forSlots (listed_rebaseSlot reasonBusReset .synced) _).mono (by simp))
  refine .trans (hroster.trans (listed_setMbr _ _ (by rfl) (by rfl))) ((listed_place_zero ?_ (by simp) (by simp)).mono (by simp))
  rwa [Member, setMbr_mbr, hroster.membership]

theorem busResetEffects_requestsOk {s : State} (hs : RequestsOk s) : RequestsOk s.busResetEffects := by
  have hpruned := busResetPruned_requestsOk hs
  rw [busResetEffects_eq]
  split
  · exact hs.of_frame (frame_busResetSeen s) ⟨rfl, rfl, rfl, rfl⟩
  · exact hpruned
  · rename_i hon
    refine hpruned.of_listed (listed_busResetOnline (.inl ?_)) (mild_busResetOnline _).toSteady
    rw [(frame_busResetPruned s).mbr_eq rfl, hon]
  · exact leaveBus_requestsOk hpruned _

/-! ### Every effect -/

theorem parseStationConfig_retry {bytes : List Byte} {c : StationConfig} (h : parseStationConfig bytes = some c) :
    c.retry ≤ 3 := by
  unfold parseStationConfig at h
  split at h
  · split at h
    · cases h
    · dsimp only at h
      split at h
      · rename_i hvalid
        cases h
        simp only [StationConfig.valid, Bool.and_eq_true, decide_eq_true_eq] at hvalid
        exact hvalid.1.2
      · cases h
  · cases h

theorem parseSlotConfig_retry {bytes : List Byte} {c : SlotConfig} (h : parseSlotConfig bytes = some c) : c.retry ≤ 3 := by
  unfold parseSlotConfig at h
  split at h
  · split at h
    · dsimp only at h
      split at h
      · rename_i hvalid
        cases h
        simp only [SlotConfig.valid, Bool.and_eq_true, decide_eq_true_eq] at hvalid
        exact hvalid.1
      · cases h
    · cases h
  · cases h

theorem afterReset_requestsOk (cause : ResetCause) (number : StationNo) (pins : Vector Level 4) :
    RequestsOk (State.afterReset cause number pins) := by
  refine .of_empty rfl ⟨(by decide : StationConfig.default.retry ≤ 3), fun i => ?_⟩
  have h : (State.afterReset cause number pins).slot i = .reset := Vector.getElem_replicate _
  rw [h]
  decide

theorem startReset_requestsOk {s : State} (hs : RequestsOk s) (cause : ResetCause) : RequestsOk (s.startReset cause) :=
  hs.of_frame (frame_startReset s cause) ⟨rfl, rfl, rfl, rfl⟩

theorem effect_requestsOk {c : Instr} {s t : State} (h : Effect c s t) (hs : RequestsOk s) : RequestsOk t := by
  cases h with
  | join hoff _ => exact joinNow_requestsOk hs hoff
  | leave _ => exact leaveNow_requestsOk hs
  | busReset _ | framingViolation | busResetArmedSeek =>
    exact abandon_requestsOk (hs.of_frame (frame_setLif s _) ⟨rfl, rfl, rfl, rfl⟩) _
  | arrive _ _ => exact hs.of_listed (listed_attempt s _ _ _) (mild_attempt s _ _ _).toSteady
  | withdraw _ => exact hs.of_listed (listed_withdrawCommand s _) (mild_withdrawCommand s _).toSteady
  | clearSlot _ => exact hs.of_listed (listed_clearCommand s _) (mild_clearCommand s _).toSteady
  | setFlags _ => exact hs.of_listed (listed_requestSet s _) (Mild.of_frame (frame_requestSet s _) rfl).toSteady
  | clearFlags _ => exact hs.of_listed (listed_requestClear s _) (Mild.of_frame (frame_requestClear s _) rfl).toSteady
  | halt _ hon =>
    exact hs.of_listed (listed_commandHalt (.inl hon) _) (Mild.of_frame (frame_commandHalt s _) rfl).toSteady
  | resume hon _ => exact hs.of_listed (listed_askResume (.inl hon)) (Mild.of_frame (frame_askResume s) rfl).toSteady
  | clearEvents _ _ _ | setMask _ _ _ | clearMask _ _ _ => exact hs.of_frame (frame_setNtf s _) ⟨rfl, rfl, rfl, rfl⟩
  | writeStationConfig hoff hc => exact .of_empty (hs.offline hoff) ⟨parseStationConfig_retry hc, hs.limits.2⟩
  | writeSlotConfig hoff hc =>
    refine .of_empty (hs.offline hoff) ⟨hs.limits.1, fun j => ?_⟩
    rw [slot_setSlot]
    split
    · exact parseSlotConfig_retry hc
    · exact hs.limits.2 j
  | writePinConfig _ _ => exact hs.of_frame (frame_setPin s _) ⟨rfl, rfl, rfl, rfl⟩
  | sleep _ | autoSleepExpiry _ => exact hs.of_frame (frame_enterSleep s) ⟨rfl, rfl, rfl, rfl⟩
  | wake => exact hs.of_frame (frame_startWake s) ⟨rfl, rfl, rfl, rfl⟩
  | softReset | powerOn => exact startReset_requestsOk hs _
  | resetn => exact startReset_requestsOk (hs.of_frame (frame_setTsc s _) ⟨rfl, rfl, rfl, rfl⟩) _
  | resetnHeld | oscillatorStop => exact hs.of_frame (frame_setTsc s _) ⟨rfl, rfl, rfl, rfl⟩
  | internalResetEnd p =>
    exact (afterReset_requestsOk s.tsc.cause (strapNumber p) s.pinLevels).of_parts ⟨rfl, rfl⟩ (fun _ => rfl) rfl (.inl rfl)
      (fun _ h => nomatch h)
  | startIssued _ _ | unframedActivity | closingEndHigh | closingEndLow | busIdle _ _ _ _ | busResetPulseEnd | busResetArmed
  | closingBegins _ _ | tlowExpired | datFallInClosing | busResetDetectorDisarmed _ =>
    exact hs.of_frame (frame_setLif s _) ⟨rfl, rfl, rfl, rfl⟩
  | roundStart _ _ => exact (hs.of_frame (frame_setLif s _) ⟨rfl, rfl, rfl, rfl⟩).of_setRound _
  | haltRound _ =>
    exact (endRound_requestsOk hs _).of_listed (listed_haltEffects _ _ _) (mild_haltEffects _ _ _).toSteady
  | resumeRound _ =>
    exact (endRound_requestsOk hs _).of_listed (listed_resumeEffects _ _ _) (mild_resumeEffects _ _ _).toSteady
  | joinRound _ => exact joinEffects_requestsOk (endRound_requestsOk hs _) _ _
  | arriveRound _ => exact (endRound_requestsOk hs _).of_listed (listed_arriveEffects _ _ _) (steady_arriveEffects _ _ _)
  | flagsRound _ =>
    exact (endRound_requestsOk hs _).of_listed (listed_flagsEffects _ _ _) (mild_flagsEffects _ _ _).toSteady
  | rollRound _ => exact rollEffects_requestsOk (endRound_requestsOk hs _) _ _
  | voidRound _ => exact voidEffects_requestsOk (endRound_requestsOk hs _) _
  | lineStuck line _ _ => exact stuckNow_requestsOk (hs.of_frame (frame_setLif s _) ⟨rfl, rfl, rfl, rfl⟩) _ _
  | busResetRecognised => exact busResetEffects_requestsOk (hs.of_frame (frame_setLif s _) ⟨rfl, rfl, rfl, rfl⟩)
  | rollTimerExpiry hm =>
    have h := hs.of_listed (listed_setMbr [] s (x := { s.mbr with rollTimer := 0 }) (by rfl) (by rfl))
      (mild_setMbr s (by rfl)).toSteady
    exact h.of_listed (listed_place_zero hm (by simp) (by simp)) (mild_place _ _ _).toSteady
  | timeoutPending i _ => exact hs.of_listed (listed_setSlot [] s i (by rfl) (by rfl) id) (mild_setSlot s i (by rfl) (by rfl)).toSteady
  | timeout i _ => exact hs.of_listed (listed_timeoutNow s i) (mild_timeoutNow s i).toSteady
  | movePin i l => exact hs.of_frame (frame_movePin s i l) ⟨rfl, rfl, rfl, rfl⟩
  | inputChange i l _ | wakeInputEdge i l => exact hs.of_frame (frame_rawEdge s i l) ⟨rfl, rfl, rfl, rfl⟩
  | inputAccepted i =>
    exact (hs.of_frame (frame_acceptLevel s i) ⟨rfl, rfl, rfl, rfl⟩).of_listed (listed_actOnBinding _ _ _)
      (mild_actOnBinding _ _ _).toSteady
  | pulseEnd o => exact hs.of_frame (frame_setOutput s o _) ⟨rfl, rfl, rfl, rfl⟩
  | asyncStart _ => exact (hs.of_setRound _).of_frame ((frame_setLif _ _).then (frame_startWake _) (c := [.tsc, .lif, .pin])
      (by simp) (by simp)) ⟨rfl, rfl, rfl, rfl⟩
  | oscillatorRuns => exact hs.of_frame (frame_awake s) ⟨rfl, rfl, rfl, rfl⟩
  | @positionBegins _ r _ _ _ =>
    have h := hs.of_listed (listed_beginField s r) (mild_beginField s r).toSteady
    exact (h.of_setRound _).of_frame (frame_setLif _ _) ⟨rfl, rfl, rfl, rfl⟩
  | positionSampled _ _ => exact (hs.of_setRound _).of_frame (frame_setLif _ _) ⟨rfl, rfl, rfl, rfl⟩

theorem counted_requestsOk {s t : State} (h : Counted s t) (hs : RequestsOk s) : RequestsOk t := by
  have hslot : ∀ i, (t.slot i).cfg = (s.slot i).cfg ∧ (t.slot i).state = (s.slot i).state := fun i => by
    rw [h.slots i]
    exact ⟨rfl, rfl⟩
  refine hs.of_parts ⟨h.frame.cfg_eq rfl, ?_⟩ (fun i => (hslot i).1) (by rw [h.frame.rnd_eq rfl]) (.inl ?_) fun i hi => ?_
  · rw [h.mbr]
  · rw [h.mbr]
  · rw [(hslot i).2]
    exact hs.arrive i hi

/-- Settles O56: each effect touches classes of entries soundly, or empties the list; the rest of a step leaves it. -/
theorem everyStepKeepsTheRequestList : Obligations.EveryStepKeepsTheRequestList := fun _ _ hs h =>
  step_keeps (fun _ _ hf hs => hs.of_frame hf ⟨rfl, rfl, rfl, rfl⟩) (fun _ _ => counted_requestsOk)
    (fun s _ _ hs => hs.of_frame (frame_setLif s _) ⟨rfl, rfl, rfl, rfl⟩) (fun _ _ _ => effect_requestsOk) hs h

end Sys2Proof.Machine
end

section
/-! The flag unit through every step (O55): S and C, the FLAGS entry, and the word's sync state. -/

namespace Sys2Proof.Machine

/-! ### The invariant from its parts -/

/-- Masks and entry stand; the word is SYNCED as before, or at a member. -/
theorem FlagUnitOk.of_parts {s t : State} (hs : FlagUnitOk s) (hset : t.flg.setReq = s.flg.setReq)
    (hclear : t.flg.clearReq = s.flg.clearReq)
    (hheld : hasEntry t.rnd.requests .flags 0 = hasEntry s.rnd.requests .flags 0) (hm : Member t ↔ Member s)
    (hsync : t.flg.sync = s.flg.sync ∨ t.flg.sync = .synced ∧ Member s) : FlagUnitOk t where
  disjoint := by rw [hset, hclear]; exact hs.disjoint
  empty := fun h => by rw [hset, hclear]; exact hs.empty (mt hm.mpr h)
  entry := by rw [hheld, hset, hclear]; exact hs.entry
  synced := by
    rw [hm]
    rcases hsync with h | ⟨h, hmember⟩
    · rw [h]; exact hs.synced
    · exact ⟨fun _ => hmember, fun _ => h⟩

theorem member_congr {s t : State} (h : t.mbr.membership = s.mbr.membership) : Member t ↔ Member s := by
  simp only [Member, h]

/-- Another class's entries are touched, and the flag unit is left. -/
theorem FlagUnitOk.of_listed {cs : List Class} {s t : State} (hs : FlagUnitOk s) (h : Listed cs s t)
    (hcs : cs.contains .flags = false) (hflg : t.flg = s.flg) : FlagUnitOk t := by
  refine hs.of_parts (by rw [hflg]) (by rw [hflg]) ?_ (member_congr h.membership) (.inl (by rw [hflg]))
  rw [hasEntry_isSome, hasEntry_isSome, h.others _ _ (by simpa using hcs)]

theorem FlagUnitOk.of_frame {c : List Block} {s t : State} (hs : FlagUnitOk s) (h : Frame c s t)
    (hc : c.contains .flg = false ∧ c.contains .rnd = false ∧ c.contains .mbr = false) : FlagUnitOk t := by
  obtain ⟨hflg, hrnd, hmbr⟩ := hc
  have hf := h.flg_eq hflg
  refine hs.of_parts (by rw [hf]) (by rw [hf]) (by rw [h.rnd_eq hrnd]) (member_congr ?_) (.inl (by rw [hf]))
  rw [h.mbr_eq hmbr]

theorem FlagUnitOk.of_setRound {s : State} (hs : FlagUnitOk s) (r : Option Round) :
    FlagUnitOk (s.setRnd { s.rnd with round := r }) :=
  hs.of_parts rfl rfl rfl Iff.rfl (.inl rfl)

/-- Nothing requested, no entry held, the word SYNCED exactly at a member. -/
theorem FlagUnitOk.of_empty {s : State} (hset : s.flg.setReq = 0#32) (hclear : s.flg.clearReq = 0#32)
    (hheld : hasEntry s.rnd.requests .flags 0 = false) (hsync : s.flg.sync = .synced ↔ Member s) : FlagUnitOk s where
  disjoint := by rw [hset, hclear]; rfl
  empty := fun _ => ⟨hset, hclear⟩
  entry := by rw [hheld, hset, hclear]; simp
  synced := hsync

/-- A station that is no member holds no FLAGS entry. -/
theorem FlagUnitOk.no_entry {s : State} (hs : FlagUnitOk s) (hm : ¬Member s) : hasEntry s.rnd.requests .flags 0 = false := by
  obtain ⟨hset, hclear⟩ := hs.empty hm
  rw [Bool.eq_false_iff]
  intro h
  exact hs.entry.mp h (by rw [hset, hclear]; rfl)

/-! ### Requests -/

theorem syncFlagsEntry_flg (s : State) : s.syncFlagsEntry.flg = s.flg := by
  unfold State.syncFlagsEntry
  split <;> rfl

theorem syncFlagsEntry_held (s : State) :
    hasEntry s.syncFlagsEntry.rnd.requests .flags 0 = true ↔ s.flg.setReq ||| s.flg.clearReq ≠ 0#32 := by
  unfold State.syncFlagsEntry
  split
  · rename_i h
    simp only [remove_requests, hasEntry_removeEntry_same, Bool.false_eq_true, false_iff, not_not]
    exact h
  · rename_i h
    simp only [place_requests, hasEntry_placeEntry_same, true_iff]
    exact h

/-- New masks that share no bit, their entry brought into line (R113, R114). -/
theorem FlagUnitOk.of_sync {s : State} (hs : FlagUnitOk s) (hm : Member s) {f : Flg} (hsync : f.sync = s.flg.sync)
    (hdisj : f.setReq &&& f.clearReq = 0#32) : FlagUnitOk (s.setFlg f).syncFlagsEntry := by
  have hmem : Member (s.setFlg f).syncFlagsEntry := by
    rw [Member, (frame_syncFlagsEntry _).mbr_eq rfl]
    exact hm
  refine ⟨?_, fun h => absurd hmem h, ?_, ?_⟩
  · rw [syncFlagsEntry_flg]; exact hdisj
  · rw [syncFlagsEntry_held, syncFlagsEntry_flg]
  · rw [syncFlagsEntry_flg, setFlg_flg, hsync]
    exact ⟨fun _ => hmem, fun _ => hs.synced.mpr hm⟩

theorem askSet_disjoint {f : Flg} (h : f.setReq &&& f.clearReq = 0#32) (m : Set32) :
    (f.askSet m).setReq &&& (f.askSet m).clearReq = 0#32 := by
  ext i hi
  have := congrArg (BitVec.getLsbD · i) h
  simp [Flg.askSet] at this ⊢
  grind

theorem askClear_disjoint {f : Flg} (h : f.setReq &&& f.clearReq = 0#32) (m : Set32) :
    (f.askClear m).setReq &&& (f.askClear m).clearReq = 0#32 := by
  ext i hi
  have := congrArg (BitVec.getLsbD · i) h
  simp [Flg.askClear] at this ⊢
  grind

theorem requestSet_flagsOk {s : State} (hs : FlagUnitOk s) (m : Set32) : FlagUnitOk (s.requestSet m) := by
  unfold State.requestSet
  split
  · exact hs.of_sync (.inl ‹_›) rfl (askSet_disjoint hs.disjoint m)
  · exact hs

theorem requestClear_flagsOk {s : State} (hs : FlagUnitOk s) (m : Set32) : FlagUnitOk (s.requestClear m) := by
  unfold State.requestClear
  split
  · exact hs.of_sync (.inl ‹_›) rfl (askClear_disjoint hs.disjoint m)
  · exact hs

theorem followInput_flagsOk (clears : Bool) (i : Fin 4) {s : State} (hs : FlagUnitOk s) :
    FlagUnitOk (State.followInput clears i s) := by
  unfold State.followInput
  split
  · split
    · exact requestSet_flagsOk hs _
    · split
      · exact requestClear_flagsOk hs _
      · exact hs
  · exact hs

theorem forInputs_follow_flagsOk (clears : Bool) {s : State} (hs : FlagUnitOk s) :
    FlagUnitOk (forInputs (State.followInput clears) s) :=
  forInputs_keeps FlagUnitOk _ (fun i _ h => followInput_flagsOk clears i h) s hs

/-- The word changes, and with it the sync state; nothing else of the flag unit does. -/
theorem changeWord_flg (s : State) (new : Word) (cause : Byte) :
    (s.changeWord new cause).flg = { s.flg with word := new, sync := .synced } := by
  unfold State.changeWord
  dsimp only
  split <;> simp

theorem changeWord_flagsOk {s : State} (hs : FlagUnitOk s) (hm : Member s) (new : Word) (cause : Byte) :
    FlagUnitOk (s.changeWord new cause) := by
  have hf := frame_changeWord s new cause
  refine hs.of_parts ?_ ?_ (by rw [hf.rnd_eq rfl]) (member_congr (by rw [hf.mbr_eq rfl])) (.inr ⟨?_, hm⟩) <;>
    rw [changeWord_flg]

/-- What has been latched leaves the masks; where something stays, it was requested, and so the entry held (R116). -/
theorem applyFlags_flagsOk {s : State} (hs : FlagUnitOk s) (hm : Member s) (sets clears latchS latchC : Set32) :
    FlagUnitOk (s.applyFlags sets clears latchS latchC) := by
  let f : Flg := { s.flg with setReq := s.flg.setReq &&& ~~~latchS, clearReq := s.flg.clearReq &&& ~~~latchC }
  have hdisj : f.setReq &&& f.clearReq = 0#32 := by
    have h := hs.disjoint
    ext i hi
    have := congrArg (BitVec.getLsbD · i) h
    simp [f] at this ⊢
    grind
  have hquiet : ¬f.Quiet → s.flg.setReq ||| s.flg.clearReq ≠ 0#32 := by
    intro hq h
    refine hq ?_
    ext i hi
    have := congrArg (BitVec.getLsbD · i) h
    simp [f, hi] at this ⊢
    grind
  have hsync : f.sync = .synced := hs.synced.mpr hm
  have hok : ∀ u : State, u.flg = f → u.mbr = s.mbr →
      (hasEntry u.rnd.requests .flags 0 = true ↔ f.setReq ||| f.clearReq ≠ 0#32) →
      FlagUnitOk (u.changeWord (wordAfter s.flg.word sets clears) causeRound) := by
    intro u hflg hmbr hheld
    have hmu : Member u := by rwa [Member, hmbr]
    refine changeWord_flagsOk ⟨?_, fun h => absurd hmu h, ?_, ?_⟩ hmu _ _
    · rw [hflg]; exact hdisj
    · rw [hflg]; exact hheld
    · rw [hflg]; exact ⟨fun _ => hmu, fun _ => hsync⟩
  unfold State.applyFlags
  dsimp only
  split
  · rename_i hq
    refine hok _ (by simp [f]) (by simp) ?_
    simp only [remove_requests, hasEntry_removeEntry_same, Bool.false_eq_true, false_iff, not_not]
    exact hq
  · rename_i hq
    refine hok _ (by simp [f]) (by simp) ?_
    simp only [zeroVoids_requests, hasEntry_setVoids]
    exact ⟨fun _ => hq, fun _ => hs.entry.mpr (hquiet hq)⟩

/-! ### Membership -/

theorem goOffline_flagsOk (s : State) : FlagUnitOk s.goOffline :=
  .of_empty (by rw [goOffline_flg]) (by rw [goOffline_flg]) (by rw [goOffline_rnd]; rfl)
    (by rw [goOffline_flg, Member, goOffline_mbr]; simp)

theorem abandon_flagsOk {s : State} (hs : FlagUnitOk s) (framing : Bool) : FlagUnitOk (s.abandon framing) := by
  unfold State.abandon
  split
  · exact hs
  · rename_i r _
    have h := (hs.of_setRound none).of_listed (listed_resolveLatches _ r) rfl ((frame_resolveLatches _ r).flg_eq rfl)
    dsimp only
    split
    · exact h.of_frame (frame_framingRecord _ _) ⟨rfl, rfl, rfl⟩
    · exact h

theorem stuckNow_flagsOk {s : State} (hs : FlagUnitOk s) (stb dat : Bool) : FlagUnitOk (s.stuckNow stb dat) := by
  have h := abandon_flagsOk (hs.of_frame (frame_setLif s s.lif.faulted) ⟨rfl, rfl, rfl⟩) false
  change FlagUnitOk (State.busFault _ _ _)
  unfold State.busFault
  dsimp only
  split
  · exact goOffline_flagsOk _
  · exact h.of_frame ((frame_offer _ _ _ _ _ _).then (frame_raise _ _) (c := [.log, .ntf]) (by simp) (by simp))
      ⟨rfl, rfl, rfl⟩

theorem joinNow_flagsOk {s : State} (hs : FlagUnitOk s) (hoff : s.mbr.membership = .offline) : FlagUnitOk s.joinNow := by
  have hnot : ¬Member s := by simp [Member, hoff]
  have h : FlagUnitOk s.joinPlaced := by
    refine hs.of_parts rfl rfl ?_ ⟨fun h => ?_, fun h => absurd h hnot⟩ (.inl rfl)
    · rw [joinPlaced_requests, hasEntry_isSome, hasEntry_isSome, findEntry_placeEntry_ne _ _ _ _ _ (by simp)]
    · rcases h with h | h <;> cases h
  rw [joinNow_eq]
  split
  · exact stuckNow_flagsOk h _ _
  · exact h

theorem leaveCleared_flg (s : State) : s.leaveCleared.flg = { s.flg with setReq := 0#32, clearReq := 0#32 } := by
  have h : (forSlots State.withdrawOrDefer s).flg = s.flg := (frame_forSlots _ frame_withdrawOrDefer s).flg_eq rfl
  rw [State.leaveCleared, (frame_leaveHalt _).flg_eq rfl, State.discardFlags, remove_flg, setFlg_flg, h]

@[simp] theorem discardFlags_requests (s : State) :
    s.discardFlags.rnd.requests = removeEntry s.rnd.requests .flags 0 := rfl

@[simp] theorem enter_flg (s : State) (m : Membership) : (s.enter m).flg = s.flg := rfl

theorem leaveCleared_noFlags (s : State) : hasEntry s.leaveCleared.rnd.requests .flags 0 = false := by
  rw [State.leaveCleared, hasEntry_isSome, (listed_leaveHalt _).others _ _ (by simp), ← hasEntry_isSome,
    discardFlags_requests, hasEntry_removeEntry_same]

theorem leaveNow_flagsOk {s : State} (hs : FlagUnitOk s) (hon : s.mbr.membership = .online) : FlagUnitOk s.leaveNow := by
  have hflg : s.leaveNow.flg = { s.flg with setReq := 0#32, clearReq := 0#32 } := by
    rw [leaveNow_eq, place_flg, enter_flg, leaveCleared_flg]
  have hm : Member s.leaveNow := .inr (by rw [leaveNow_eq, place_mbr, enter_mbr])
  refine .of_empty ?_ ?_ ?_ ⟨fun _ => hm, fun _ => ?_⟩
  · rw [hflg]
  · rw [hflg]
  · rw [leaveNow_eq, place_requests, hasEntry_isSome, findEntry_placeEntry_ne _ _ _ _ _ (by simp), ← hasEntry_isSome,
      enter_rnd]
    exact leaveCleared_noFlags s
  · rw [hflg]
    exact hs.synced.mpr (.inl hon)

/-! ### Rounds -/

theorem endRound_flagsOk {s : State} (hs : FlagUnitOk s) (dis : Level) : FlagUnitOk (s.endRound dis) :=
  (hs.of_setRound none).of_frame (frame_setLif _ _) ⟨rfl, rfl, rfl⟩

theorem admitBegun_flg (s : State) (r : Round) :
    (s.admitBegun r).flg = { s.flg with word := r.joinWord, sync := .synced } := by
  unfold State.admitBegun
  dsimp only
  rw [(frame_adoptCondition _ r).flg_eq rfl, changeWord_flg, offer_flg, remove_flg]
  rfl

theorem admitJoiner_flagsOk {s : State} (hs : FlagUnitOk s) (hj : s.mbr.membership = .joining) (r : Round) :
    FlagUnitOk (s.admitJoiner r) := by
  have hnot : ¬Member s := by simp [Member, hj]
  obtain ⟨hset, hclear⟩ := hs.empty hnot
  have hm : Member (s.admitBegun r) := .inl (by rw [(listed_admitBegun s r).membership]; rfl)
  have hb : FlagUnitOk (s.admitBegun r) := by
    refine .of_empty (by rw [admitBegun_flg]; exact hset) (by rw [admitBegun_flg]; exact hclear) ?_
      ⟨fun _ => hm, fun _ => by rw [admitBegun_flg]⟩
    rw [hasEntry_isSome, (listed_admitBegun s r).others _ _ (by simp), ← hasEntry_isSome]
    exact hs.no_entry hnot
  rw [admitJoiner_eq]
  exact forInputs_follow_flagsOk true (hb.of_frame (frame_forSlots _ frame_admitSlot _) ⟨rfl, rfl, rfl⟩)

theorem memberJoin_flagsOk {s : State} (hs : FlagUnitOk s) (r : Round) (n : Fin 32) : FlagUnitOk (s.memberJoin r n) :=
  hs.of_listed (listed_memberJoin [] s r n) rfl ((frame_memberJoin s r n).flg_eq rfl)

theorem joinEffects_flagsOk {s : State} (hs : FlagUnitOk s) (r : Round) (n : Fin 32) : FlagUnitOk (joinEffects r n s) := by
  unfold joinEffects
  split
  · split
    · unfold State.ownJoin
      split
      · exact goOffline_flagsOk _
      · exact admitJoiner_flagsOk hs ‹_› r
    · exact hs
  · exact memberJoin_flagsOk hs r n
  · exact memberJoin_flagsOk hs r n
  · exact hs

theorem listed_repairCondition (s : State) (r : Round) : Listed [.halt, .arrive] s (s.repairCondition r) :=
  .ite (listed_haltNow s _ _ _) (.refl _ s)

theorem takeRoll_flagsOk {s : State} (hs : FlagUnitOk s) (hm : Member s) (r : Round) : FlagUnitOk (s.takeRoll r) := by
  have hroster := hs.of_listed (listed_changeRoster [] s r.setA s.mbr.number causeRoll) rfl
    ((frame_changeRoster s _ _ _).flg_eq rfl)
  have hmr : Member (s.changeRoster r.setA s.mbr.number causeRoll) := by rwa [Member, changeRoster_mbr]
  have hword := changeWord_flagsOk hroster hmr r.wordB causeRoll
  have hmw : Member ((s.changeRoster r.setA s.mbr.number causeRoll).changeWord r.wordB causeRoll) := by
    rwa [Member, (frame_changeWord _ _ _).mbr_eq rfl]
  have hrepair := hword.of_listed (listed_repairCondition _ r) rfl ((frame_repairCondition _ r).flg_eq rfl)
  unfold State.takeRoll
  dsimp only
  split
  · exact hrepair
  · refine hrepair.of_listed (listed_forSlots_probe ?_) rfl ((frame_forSlots _ frame_probeSlot _).flg_eq rfl)
    rwa [Member, (frame_repairCondition _ r).mbr_eq rfl]

theorem rollEffects_flagsOk {s : State} (hs : FlagUnitOk s) (r : Round) (n : Fin 32) : FlagUnitOk (rollEffects r n s) := by
  have hmbr := listed_setMbr [.roll] s (x := { s.mbr with rollTimer := 0 }) (by rfl) (by rfl)
  unfold rollEffects
  split
  · exact takeRoll_flagsOk (hs.of_listed (hmbr.trans (listed_remove _ _ _)) rfl rfl) (.inl ‹_›) r
  · split
    · exact goOffline_flagsOk _
    · exact takeRoll_flagsOk (hs.of_listed (hmbr.trans (listed_zeroVoids _ _ _)) rfl rfl) (.inr ‹_›) r
  · exact hs
  · exact hs

/-- A round of a class that names no slot or station carries selector 0 (R27). -/
theorem named_selector {r : Round} {c : Class} {n : Fin 32} (h : r.named = some (c, n)) (hc : c.hasSelector = false) : n = 0 := by
  unfold Round.named at h
  split at h
  · unfold namedRound at h
    split at h
    · split at h
      · cases h
      · rename_i c' _ hsel
        obtain ⟨rfl, rfl⟩ := Prod.mk.inj (Option.some.inj h)
        have : r.identity % 32 = 0 := by
          by_contra hne
          exact hsel ⟨hc, hne⟩
        exact Fin.ext (by simpa [Fin.ofNat] using this)
    · cases h
  · cases h

theorem dropEntry_flagsOk {s : State} (hs : FlagUnitOk s) {r : Round} {c : Class} {n : Fin 32} (h : r.named = some (c, n))
    (limit : Nat) : FlagUnitOk (s.dropEntry c n limit) := by
  have hd : ∀ c, c ≠ .flags → FlagUnitOk (s.droppedRecord c n limit) := fun c hc =>
    hs.of_listed (listed_droppedRecord s c n limit) (by simpa using hc.symm) ((frame_droppedRecord s c n limit).flg_eq rfl)
  unfold State.dropEntry
  split
  · exact hs.of_listed (listed_faultSlot s n) rfl ((frame_faultSlot s n).flg_eq rfl)
  · exact goOffline_flagsOk _
  · exact (hd _ (by simp)).of_frame (frame_setHlt _ _) ⟨rfl, rfl, rfl⟩
  · exact (hd _ (by simp)).of_frame (frame_setHlt _ _) ⟨rfl, rfl, rfl⟩
  · obtain rfl := named_selector h rfl
    have hf := frame_droppedRecord s .flags 0 limit
    dsimp only
    refine .of_empty (by simp) (by simp) ?_ ?_
    · simp [State.droppedRecord, hasEntry_removeEntry_same]
    · rw [Member, setFlg_flg, setFlg_mbr, hf.flg_eq rfl, hf.mbr_eq rfl]
      exact hs.synced
  · dsimp only
    split
    · exact goOffline_flagsOk _
    · exact hd _ (by simp)

theorem voidEffects_flagsOk {s : State} (hs : FlagUnitOk s) (r : Round) : FlagUnitOk (voidEffects r s) := by
  have hv := hs.of_frame (frame_voidRecord s r) ⟨rfl, rfl, rfl⟩
  unfold voidEffects
  dsimp only
  split
  · exact hv
  · rename_i c n hnamed
    have hcount : FlagUnitOk ((s.voidRecord r).countVoid c n) := by
      unfold State.countVoid
      split
      · exact hv
      · split
        · exact dropEntry_flagsOk hv hnamed _
        · exact hv.of_parts rfl rfl (hasEntry_setVoids _ _ _ _ _ _) Iff.rfl (.inl rfl)
    exact hcount.of_listed (listed_resolveLatches _ r) rfl ((frame_resolveLatches _ r).flg_eq rfl)

/-! ### A recognised bus reset -/

theorem busResetRequests_noFlags (l : List Entry) (n : Fin 32) : hasEntry (busResetRequests l) .flags n = false := by
  rw [Bool.eq_false_iff]
  intro h
  obtain ⟨e, he, hc, _⟩ := hasEntry_iff.mp h
  rw [(mem_busResetRequests he).1] at hc
  cases hc

/-- The ONLINE station's part before the flag unit's (R64, R87). -/
def State.busResetRebased (s : State) : State :=
  let a := s.changeRoster (only s.mbr.number) s.mbr.number causeBusReset
  forSlots (State.rebaseSlot reasonBusReset .synced) ((a.setMbr { a.mbr with rollTimer := 0 }).place .roll 0)

theorem busResetOnline_eq (s : State) :
    s.busResetOnline = forInputs (State.followInput false) s.busResetRebased.busResetFlags.busResetHalt := rfl

theorem listed_busResetRebased {s : State} (hm : Member s) : Listed [.roll, .arrive] s s.busResetRebased := by
  have hroster : Listed [.roll, .arrive] s (s.changeRoster (only s.mbr.number) s.mbr.number causeBusReset) :=
    listed_changeRoster _ s _ _ _
  unfold State.busResetRebased
  refine .trans ?_ ((Listed.forSlots (listed_rebaseSlot reasonBusReset .synced) _).mono (by simp))
  refine .trans (hroster.trans (listed_setMbr _ _ (by rfl) (by rfl))) ((listed_place_zero ?_ (by simp) (by simp)).mono (by simp))
  rwa [Member, setMbr_mbr, hroster.membership]

theorem busResetFlags_flg (s : State) :
    s.busResetFlags.flg = { word := 0#32, sync := .synced, setReq := 0#32, clearReq := 0#32 } := by
  rw [State.busResetFlags, changeWord_flg]
  rfl

theorem busResetOnline_flagsOk {s : State} (hm : Member s) (hheld : hasEntry s.rnd.requests .flags 0 = false) :
    FlagUnitOk s.busResetOnline := by
  have hl := listed_busResetRebased hm
  have hf := frame_busResetFlags s.busResetRebased
  have hmf : Member s.busResetRebased.busResetFlags := by
    rw [Member, hf.mbr_eq rfl, hl.membership]
    exact hm
  have h : FlagUnitOk s.busResetRebased.busResetFlags := by
    refine .of_empty (by rw [busResetFlags_flg]) (by rw [busResetFlags_flg]) ?_
      ⟨fun _ => hmf, fun _ => by rw [busResetFlags_flg]⟩
    rw [hf.rnd_eq rfl, hasEntry_isSome, hl.others _ _ (by simp), ← hasEntry_isSome]
    exact hheld
  rw [busResetOnline_eq]
  exact forInputs_follow_flagsOk false (h.of_frame (frame_busResetHalt _) ⟨rfl, rfl, rfl⟩)

theorem busResetEffects_flagsOk {s : State} (hs : FlagUnitOk s) : FlagUnitOk s.busResetEffects := by
  have hf := frame_busResetPruned s
  rw [busResetEffects_eq]
  split
  · exact hs.of_frame (frame_busResetSeen s) ⟨rfl, rfl, rfl⟩
  · rename_i hj
    have hnot : ¬Member s := by simp [Member, hj]
    refine hs.of_parts (by rw [hf.flg_eq rfl]) (by rw [hf.flg_eq rfl]) ?_ (member_congr (by rw [hf.mbr_eq rfl]))
      (.inl (by rw [hf.flg_eq rfl]))
    rw [hs.no_entry hnot]
    exact busResetRequests_noFlags _ _
  · rename_i hon
    exact busResetOnline_flagsOk (.inl (by rw [hf.mbr_eq rfl, hon])) (busResetRequests_noFlags _ _)
  · exact goOffline_flagsOk _

/-! ### Every effect -/

theorem actOnBinding_flagsOk {s : State} (hs : FlagUnitOk s) (i : Fin 4) (l : Level) : FlagUnitOk (s.actOnBinding i l) := by
  have harrive := hs.of_listed (listed_inputArrive s i l) rfl ((frame_inputArrive s i l).flg_eq rfl)
  unfold State.actOnBinding
  dsimp only
  split
  · exact hs
  · exact harrive
  · split
    · exact requestSet_flagsOk hs _
    · exact hs
  · split
    · exact requestClear_flagsOk hs _
    · exact hs
  · split
    · exact requestSet_flagsOk hs _
    · exact requestClear_flagsOk hs _
  · split
    · split
      · exact hs.of_listed (listed_inputHalt s i) rfl ((frame_inputHalt s i).flg_eq rfl)
      · exact hs.of_frame (frame_inputUnhalt s i) ⟨rfl, rfl, rfl⟩
    · split
      · exact hs.of_listed (listed_haltSource s _) rfl ((frame_haltSource s _).flg_eq rfl)
      · exact hs

theorem afterReset_flagsOk (cause : ResetCause) (number : StationNo) (pins : Vector Level 4) :
    FlagUnitOk (State.afterReset cause number pins) :=
  .of_empty rfl rfl rfl (by simp [State.afterReset, Member])

theorem effect_flagsOk {c : Instr} {s t : State} (h : Effect c s t) (hs : FlagUnitOk s) : FlagUnitOk t := by
  have hframe : ∀ {bs : List Block} {u : State}, Frame bs s u →
      bs.contains .flg = false ∧ bs.contains .rnd = false ∧ bs.contains .mbr = false → FlagUnitOk u :=
    fun hf hb => hs.of_frame hf hb
  cases h with
  | join hoff _ => exact joinNow_flagsOk hs hoff
  | leave hon => exact leaveNow_flagsOk hs hon
  | busReset _ | framingViolation | busResetArmedSeek => exact abandon_flagsOk (hframe (frame_setLif s _) ⟨rfl, rfl, rfl⟩) _
  | arrive _ _ => exact hs.of_listed (listed_attempt s _ _ _) rfl ((frame_attempt s _ _ _).flg_eq rfl)
  | withdraw _ => exact hs.of_listed (listed_withdrawCommand s _) rfl ((frame_withdrawCommand s _).flg_eq rfl)
  | clearSlot _ => exact hframe (frame_clearCommand s _) ⟨rfl, rfl, rfl⟩
  | setFlags _ => exact requestSet_flagsOk hs _
  | clearFlags _ => exact requestClear_flagsOk hs _
  | halt _ hon => exact hs.of_listed (listed_commandHalt (.inl hon) _) rfl ((frame_commandHalt s _).flg_eq rfl)
  | resume hon _ => exact hs.of_listed (listed_askResume (.inl hon)) rfl ((frame_askResume s).flg_eq rfl)
  | clearEvents _ _ _ | setMask _ _ _ | clearMask _ _ _ => exact hframe (frame_setNtf s _) ⟨rfl, rfl, rfl⟩
  | writeStationConfig _ _ => exact hframe (frame_setCfg s _) ⟨rfl, rfl, rfl⟩
  | writeSlotConfig _ _ | timeoutPending _ _ => exact hframe (frame_setSlot s _ _) ⟨rfl, rfl, rfl⟩
  | writePinConfig _ _ => exact hframe (frame_setPin s _) ⟨rfl, rfl, rfl⟩
  | sleep _ | autoSleepExpiry _ => exact hframe (frame_enterSleep s) ⟨rfl, rfl, rfl⟩
  | wake => exact hframe (frame_startWake s) ⟨rfl, rfl, rfl⟩
  | softReset | powerOn => exact hframe (frame_startReset s _) ⟨rfl, rfl, rfl⟩
  | resetn => exact (hframe (frame_setTsc s _) ⟨rfl, rfl, rfl⟩).of_frame (frame_startReset _ _) ⟨rfl, rfl, rfl⟩
  | resetnHeld | oscillatorStop => exact hframe (frame_setTsc s _) ⟨rfl, rfl, rfl⟩
  | internalResetEnd p =>
    exact (afterReset_flagsOk s.tsc.cause (strapNumber p) s.pinLevels).of_parts rfl rfl rfl Iff.rfl (.inl rfl)
  | startIssued _ _ | unframedActivity | closingEndHigh | closingEndLow | busIdle _ _ _ _ | busResetPulseEnd | busResetArmed
  | closingBegins _ _ | tlowExpired | datFallInClosing | busResetDetectorDisarmed _ =>
    exact hframe (frame_setLif s _) ⟨rfl, rfl, rfl⟩
  | roundStart _ _ => exact (hframe (frame_setLif s _) ⟨rfl, rfl, rfl⟩).of_setRound _
  | haltRound _ =>
    exact (endRound_flagsOk hs _).of_listed (listed_haltEffects _ _ _) rfl ((frame_haltEffects _ _ _).flg_eq rfl)
  | resumeRound _ =>
    exact (endRound_flagsOk hs _).of_listed (listed_resumeEffects _ _ _) rfl ((frame_resumeEffects _ _ _).flg_eq rfl)
  | joinRound _ => exact joinEffects_flagsOk (endRound_flagsOk hs _) _ _
  | arriveRound _ =>
    exact (endRound_flagsOk hs _).of_listed (listed_arriveEffects _ _ _) rfl ((frame_arriveEffects _ _ _).flg_eq rfl)
  | flagsRound _ =>
    have h := endRound_flagsOk hs .high
    unfold flagsEffects
    split
    · exact applyFlags_flagsOk h ‹_› _ _ _ _
    · exact h
  | rollRound _ => exact rollEffects_flagsOk (endRound_flagsOk hs _) _ _
  | voidRound _ => exact voidEffects_flagsOk (endRound_flagsOk hs _) _
  | lineStuck line _ _ => exact stuckNow_flagsOk (hframe (frame_setLif s _) ⟨rfl, rfl, rfl⟩) _ _
  | busResetRecognised => exact busResetEffects_flagsOk (hframe (frame_setLif s _) ⟨rfl, rfl, rfl⟩)
  | rollTimerExpiry hm =>
    have h := (listed_setMbr [.roll] s (x := { s.mbr with rollTimer := 0 }) (by rfl) (by rfl)).trans
      (listed_place_zero hm (by simp) (by simp))
    exact hs.of_listed h rfl rfl
  | timeout i _ => exact hs.of_listed (listed_timeoutNow s i) rfl ((frame_timeoutNow s i).flg_eq rfl)
  | movePin i l => exact hframe (frame_movePin s i l) ⟨rfl, rfl, rfl⟩
  | inputChange i l _ | wakeInputEdge i l => exact hframe (frame_rawEdge s i l) ⟨rfl, rfl, rfl⟩
  | inputAccepted i => exact actOnBinding_flagsOk (hframe (frame_acceptLevel s i) ⟨rfl, rfl, rfl⟩) _ _
  | pulseEnd o => exact hframe (frame_setOutput s o _) ⟨rfl, rfl, rfl⟩
  | asyncStart _ => exact (hs.of_setRound _).of_frame ((frame_setLif _ _).then (frame_startWake _) (c := [.tsc, .lif, .pin])
      (by simp) (by simp)) ⟨rfl, rfl, rfl⟩
  | oscillatorRuns => exact hframe (frame_awake s) ⟨rfl, rfl, rfl⟩
  | @positionBegins _ r _ _ _ =>
    exact ((hframe (frame_beginField s r) ⟨rfl, rfl, rfl⟩).of_setRound _).of_frame (frame_setLif _ _) ⟨rfl, rfl, rfl⟩
  | positionSampled _ _ => exact (hs.of_setRound _).of_frame (frame_setLif _ _) ⟨rfl, rfl, rfl⟩

theorem counted_flagsOk {s t : State} (h : Counted s t) (hs : FlagUnitOk s) : FlagUnitOk t := by
  have hflg := h.frame.flg_eq rfl
  refine hs.of_parts (by rw [hflg]) (by rw [hflg]) (by rw [h.frame.rnd_eq rfl]) (member_congr ?_) (.inl (by rw [hflg]))
  rw [h.mbr]

/-- Settles O55: the commands, inputs and rounds that touch S, C, the entry or the word keep them in line, and nothing else of
a step touches them. -/
theorem everyStepKeepsTheFlagUnitSound : Obligations.EveryStepKeepsTheFlagUnitSound := fun _ _ hs h =>
  step_keeps (fun _ _ hf hs => hs.of_frame hf ⟨rfl, rfl, rfl⟩) (fun _ _ => counted_flagsOk)
    (fun s _ _ hs => hs.of_frame (frame_setLif s _) ⟨rfl, rfl, rfl⟩) (fun _ _ _ => effect_flagsOk) hs h

end Sys2Proof.Machine
end

section
/-! What each meaning does to the slots and to the halt request: the relation that keeps them sound (R69, R70, R125, R143). -/

namespace Sys2Proof.Machine

/-! ### One slot -/

/-- A slot holds an arrival exactly while it is WAITING, enabled then, marked only then, its source bound to it. -/
structure SlotGood (cfg : PinConfig) (i : SlotNo) (x : Slot) : Prop where
  arrival : x.state = .waiting ↔ x.arrival.isSome = true
  marks : x.state ≠ .waiting →
    x.published = false ∧ x.committed = false ∧ x.withdrawPending = false ∧ x.timeoutPending = false
  enabled : x.state = .waiting → x.cfg.enabled = true
  source : ∀ a k, x.arrival = some a → a.source = .input k →
    cfg.inputs[k].binding = .arrive ∧ low5 cfg.inputs[k].target = i

/-- The slot without an arrival (R69). -/
theorem SlotGood.of_dropped (cfg : PinConfig) (i : SlotNo) {x y : Slot} (hy : y.state ≠ .waiting)
    (h : y.arrival = x.dropArrival.arrival ∧ y.published = x.dropArrival.published ∧ y.committed = x.dropArrival.committed
      ∧ y.withdrawPending = x.dropArrival.withdrawPending ∧ y.timeoutPending = x.dropArrival.timeoutPending) :
    SlotGood cfg i y := by
  obtain ⟨harr, hpub, hcom, hwith, htime⟩ := h
  have hnone : y.arrival = none := harr
  exact
    { arrival := ⟨fun h => absurd h hy, fun h => by simp [hnone] at h⟩
      marks := fun _ => ⟨hpub, hcom, hwith, htime⟩
      enabled := fun h => absurd h hy
      source := fun a k ha => by simp [hnone] at ha }

/-- State, arrival and enabling stand, and the marks do where there is no arrival. -/
theorem SlotGood.of_marked {cfg : PinConfig} {i : SlotNo} {x y : Slot} (h : SlotGood cfg i x) (hstate : y.state = x.state)
    (harr : y.arrival = x.arrival) (hen : y.cfg.enabled = x.cfg.enabled)
    (hmarks : x.state ≠ .waiting → y.published = x.published ∧ y.committed = x.committed
      ∧ y.withdrawPending = x.withdrawPending ∧ y.timeoutPending = x.timeoutPending) : SlotGood cfg i y where
  arrival := by rw [hstate, harr]; exact h.arrival
  marks := fun hy => by
    rw [hstate] at hy
    obtain ⟨hpub, hcom, hwith, htime⟩ := hmarks hy
    rw [hpub, hcom, hwith, htime]
    exact h.marks hy
  enabled := by rw [hstate, hen]; exact h.enabled
  source := by rw [harr]; exact h.source

/-- Every slot is good. -/
def Goods (s : State) : Prop := ∀ i, SlotGood s.pin.cfg i (s.slot i)

theorem Goods.congr {s t : State} (hs : Goods s) (hcfg : t.pin.cfg = s.pin.cfg) (hslots : t.slots = s.slots) : Goods t :=
  fun i => by rw [hcfg, slot_eq_of_slots hslots]; exact hs i

theorem Goods.setSlot {s : State} (hs : Goods s) {i : SlotNo} {x : Slot} (hx : SlotGood s.pin.cfg i x) :
    Goods (s.setSlot i x) := fun j => by
  rw [slot_setSlot]
  split
  · rename_i h
    subst h
    exact hx
  · exact hs j

/-! ### The invariant from its parts -/

theorem SlotsOk.goods {s : State} (h : SlotsOk s) : Goods s := fun i => ⟨h.arrival i, h.marks i, h.enabled i, h.source i⟩

theorem SlotsOk.of_goods {s : State} (h : Goods s) (hm : ∀ i, (s.slot i).state = .waiting → Member s)
    (hh : s.hlt.condition = .halted → (∀ i, (s.slot i).state ≠ .waiting) ∧ s.hlt.request = none)
    (hr : s.hlt.request.isSome = true → Member s) : SlotsOk s where
  arrival := fun i => (h i).arrival
  marks := fun i => (h i).marks
  enabled := fun i => (h i).enabled
  source := fun i => (h i).source
  member := hm
  halted := hh
  request := hr

/-- Nothing held and nothing requested. -/
theorem SlotsOk.of_none {s : State} (h : Goods s) (hw : ∀ i, (s.slot i).state ≠ .waiting) (hr : s.hlt.request = none) :
    SlotsOk s :=
  .of_goods h (fun i hi => absurd hi (hw i)) (fun _ => ⟨hw, hr⟩) (by simp [hr])

/-- Slots and halt unit stand, and a member stays one. -/
theorem SlotsOk.of_same {s t : State} (hs : SlotsOk s) (hcfg : t.pin.cfg = s.pin.cfg) (hslots : t.slots = s.slots)
    (hhlt : t.hlt = s.hlt) (hm : Member s → Member t) : SlotsOk t := by
  have hslot := slot_eq_of_slots hslots
  refine .of_goods (hs.goods.congr hcfg hslots) (fun i hi => ?_) ?_ ?_
  · rw [hslot] at hi
    exact hm (hs.member i hi)
  · rw [hhlt]
    exact fun h => ⟨fun i => by rw [hslot]; exact (hs.halted h).1 i, (hs.halted h).2⟩
  · rw [hhlt]
    exact fun h => hm (hs.request h)

theorem SlotsOk.of_frame {c : List Block} {s t : State} (hs : SlotsOk s) (h : Frame c s t)
    (hc : c.contains .pin = false ∧ c.contains .slots = false ∧ c.contains .hlt = false ∧ c.contains .mbr = false) :
    SlotsOk t := by
  obtain ⟨hpin, hslots, hhlt, hmbr⟩ := hc
  refine hs.of_same ?_ (h.slots_eq hslots) (h.hlt_eq hhlt) ?_
  · rw [h.pin_eq hpin]
  · rw [Member, Member, h.mbr_eq hmbr]
    exact id

/-- The station is RUNNING, with no request or the one it had. -/
theorem SlotsOk.of_running {s : State} (hs : SlotsOk s) {x : Hlt} (hx : x.condition = .running)
    (hreq : x.request = none ∨ x.request = s.hlt.request) : SlotsOk (s.setHlt x) := by
  refine .of_goods (hs.goods.congr rfl rfl) hs.member (fun h => ?_) fun h => ?_
  · rw [setHlt_hlt, hx] at h
    cases h
  · rw [setHlt_hlt] at h
    rcases hreq with h' | h' <;> rw [h'] at h
    · cases h
    · exact hs.request h

/-! ### The relation -/

/-- From `s` to `t` the slots stay good, membership and condition stand, and an arrival or a halt request is new only at an
ONLINE and RUNNING station, or a RUNNING member. -/
structure Kept (s t : State) : Prop where
  membership : t.mbr.membership = s.mbr.membership
  condition : t.hlt.condition = s.hlt.condition
  goods : Goods s → Goods t
  waiting : ∀ i, (t.slot i).state = .waiting →
    (s.slot i).state = .waiting ∨ Member s ∧ s.hlt.condition = .running
  request : t.hlt.request = s.hlt.request ∨ t.hlt.request = none ∨ Member s ∧ s.hlt.condition = .running

theorem Kept.refl (s : State) : Kept s s := ⟨rfl, rfl, id, fun _ => .inl, .inl rfl⟩

theorem Kept.trans {s t u : State} (h₁ : Kept s t) (h₂ : Kept t u) : Kept s u where
  membership := h₂.membership.trans h₁.membership
  condition := h₂.condition.trans h₁.condition
  goods := h₂.goods ∘ h₁.goods
  waiting := fun i hi => by
    rcases h₂.waiting i hi with h | h
    · exact h₁.waiting i h
    · rw [member_congr h₁.membership, h₁.condition] at h
      exact .inr h
  request := by
    rcases h₂.request with h | h | h
    · rw [h]; exact h₁.request
    · exact .inr (.inl h)
    · rw [member_congr h₁.membership, h₁.condition] at h
      exact .inr (.inr h)

theorem Kept.ite {p : Prop} [Decidable p] {s t u : State} (ht : Kept s t) (hu : Kept s u) : Kept s (if p then t else u) := by
  split
  · exact ht
  · exact hu

theorem Kept.forSlots {f : SlotNo → State → State} (hf : ∀ i t, Kept t (f i t)) (s : State) : Kept s (forSlots f s) :=
  forSlots_keeps (Kept s) f (fun i t h => h.trans (hf i t)) s (.refl s)

theorem Kept.forInputs {f : Fin 4 → State → State} (hf : ∀ i t, Kept t (f i t)) (s : State) : Kept s (forInputs f s) :=
  forInputs_keeps (Kept s) f (fun i t h => h.trans (hf i t)) s (.refl s)

theorem SlotsOk.of_kept {s t : State} (hs : SlotsOk s) (h : Kept s t) : SlotsOk t := by
  refine .of_goods (h.goods hs.goods) (fun i hi => ?_) (fun hh => ⟨fun i hi => ?_, ?_⟩) fun hr => ?_
  · rw [member_congr h.membership]
    exact (h.waiting i hi).elim (hs.member i) And.left
  · rw [h.condition] at hh
    rcases h.waiting i hi with hw | ⟨_, hrun⟩
    · exact (hs.halted hh).1 i hw
    · rw [hh] at hrun; cases hrun
  · rw [h.condition] at hh
    rcases h.request with h | h | ⟨_, hrun⟩
    · rw [h]; exact (hs.halted hh).2
    · exact h
    · rw [hh] at hrun; cases hrun
  · rw [member_congr h.membership]
    rcases h.request with h | h | ⟨hm, _⟩
    · rw [h] at hr; exact hs.request hr
    · rw [h] at hr; cases hr
    · exact hm

/-- Slots, halt unit and membership controller stand. -/
theorem Kept.of_frame {b : List Block} {s t : State} (h : Steady s t) (hf : Frame b s t)
    (hb : b.contains .slots = false ∧ b.contains .hlt = false ∧ b.contains .mbr = false) : Kept s t := by
  obtain ⟨hslots, hhlt, hmbr⟩ := hb
  refine ⟨by rw [hf.mbr_eq hmbr], by rw [hf.hlt_eq hhlt], fun hg => hg.congr h.pinCfg (hf.slots_eq hslots), fun i hi => ?_,
    .inl (by rw [hf.hlt_eq hhlt])⟩
  rw [slot_eq_of_slots (hf.slots_eq hslots)] at hi
  exact .inl hi

/-- One slot is replaced by a good one that is WAITING only as before, or newly at a RUNNING member. -/
theorem kept_setSlot (s : State) (i : SlotNo) {x : Slot} (hgood : SlotGood s.pin.cfg i (s.slot i) → SlotGood s.pin.cfg i x)
    (hw : x.state = .waiting → (s.slot i).state = .waiting ∨ Member s ∧ s.hlt.condition = .running) : Kept s (s.setSlot i x) where
  membership := rfl
  condition := rfl
  goods := fun hg => hg.setSlot (hgood (hg i))
  waiting := fun j hj => by
    rw [slot_setSlot] at hj
    split at hj
    · rename_i h
      subst h
      exact hw hj
    · exact .inl hj
  request := .inl rfl

/-- The condition stands; the request stands, goes, or is made at a RUNNING member. -/
theorem kept_setHlt (s : State) {x : Hlt} (hc : x.condition = s.hlt.condition)
    (hr : x.request = s.hlt.request ∨ x.request = none ∨ Member s ∧ s.hlt.condition = .running) : Kept s (s.setHlt x) :=
  ⟨rfl, hc, fun hg => hg.congr rfl rfl, fun _ => .inl, hr⟩

section
variable (s : State)

theorem kept_place (c : Class) (n : Fin 32) : Kept s (s.place c n) :=
  .of_frame (mild_place s c n).toSteady (frame_place s c n) ⟨rfl, rfl, rfl⟩

theorem kept_remove (c : Class) (n : Fin 32) : Kept s (s.remove c n) :=
  .of_frame (mild_remove s c n).toSteady (frame_remove s c n) ⟨rfl, rfl, rfl⟩

theorem kept_zeroVoids (c : Class) (n : Fin 32) : Kept s (s.zeroVoids c n) :=
  .of_frame (mild_zeroVoids s c n).toSteady (frame_zeroVoids s c n) ⟨rfl, rfl, rfl⟩

theorem kept_offer (k : Kind) (n : Fin 32) (tag : Byte) (set : Set32) (v : Half) : Kept s (s.offer k n tag set v) :=
  .of_frame (mild_offer s k n tag set v).toSteady (frame_offer s k n tag set v) ⟨rfl, rfl, rfl⟩

theorem kept_raise (e : Event) : Kept s (s.raise e) :=
  .of_frame (mild_raise s e).toSteady (frame_raise s e) ⟨rfl, rfl, rfl⟩

theorem kept_offerSlot (i : SlotNo) (k : Kind) (tag : Byte) (set : Set32) (v : Half) : Kept s (s.offerSlot i k tag set v) :=
  .of_frame (mild_offerSlot s i k tag set v).toSteady (frame_offerSlot s i k tag set v) ⟨rfl, rfl, rfl⟩

theorem kept_disarm (k : Fin 4) : Kept s (s.disarm k) :=
  .of_frame (mild_disarm s k).toSteady (frame_disarm s k) ⟨rfl, rfl, rfl⟩

theorem kept_disarmSource (a : Option Arrival) : Kept s (s.disarmSource a) :=
  .of_frame (mild_disarmSource s a).toSteady (frame_disarmSource s a) ⟨rfl, rfl, rfl⟩

theorem kept_setRnd (x : Rnd) : Kept s (s.setRnd x) :=
  .of_frame (mild_setRnd s x).toSteady (frame_setRnd s x) ⟨rfl, rfl, rfl⟩

theorem kept_setLif (x : Lif) : Kept s (s.setLif x) :=
  .of_frame (mild_setLif s x).toSteady (frame_setLif s x) ⟨rfl, rfl, rfl⟩

theorem kept_changeWord (new : Word) (cause : Byte) : Kept s (s.changeWord new cause) :=
  .of_frame (mild_changeWord s new cause).toSteady (frame_changeWord s new cause) ⟨rfl, rfl, rfl⟩

theorem kept_requestSet (m : Set32) : Kept s (s.requestSet m) :=
  .of_frame (Mild.of_frame (frame_requestSet s m) rfl).toSteady (frame_requestSet s m) ⟨rfl, rfl, rfl⟩

theorem kept_requestClear (m : Set32) : Kept s (s.requestClear m) :=
  .of_frame (Mild.of_frame (frame_requestClear s m) rfl).toSteady (frame_requestClear s m) ⟨rfl, rfl, rfl⟩

theorem kept_followInput (clears : Bool) (i : Fin 4) : Kept s (State.followInput clears i s) :=
  .of_frame (Mild.of_frame (frame_followInput clears i s) rfl).toSteady (frame_followInput clears i s) ⟨rfl, rfl, rfl⟩

end

/-- The membership controller's other fields. -/
theorem kept_setMbr (s : State) {x : Mbr} (hm : x.membership = s.mbr.membership) : Kept s (s.setMbr x) :=
  ⟨hm, rfl, fun hg => hg.congr rfl rfl, fun _ => .inl, .inl rfl⟩

theorem kept_changeRoster (s : State) (new : Set32) (sel : Fin 32) (cause : Byte) : Kept s (s.changeRoster new sel cause) := by
  unfold State.changeRoster
  exact .ite (.refl s) (((kept_setMbr s (by rfl)).trans (kept_offer _ _ _ _ _ _)).trans (kept_raise _ _))

/-! ### Slots -/

/-- An arrival is taken whose tests have passed, from the command or from an input bound to the slot (R74, R143). -/
theorem kept_takeArrival {s : State} {i : SlotNo} (h : s.arrivalTest i = .ok) (v : Half) {src : Source}
    (hsrc : ∀ k, src = .input k → (s.inputCfg k).binding = .arrive ∧ low5 (s.inputCfg k).target = i) :
    Kept s (s.takeArrival i v src) := by
  obtain ⟨hon, hen, _, hrun, _, _⟩ := arrivalTest_ok h
  refine (kept_setSlot s i (fun _ => ?_) fun _ => .inr ⟨.inl hon, hrun⟩).trans (kept_place _ _ _)
  refine ⟨by simp, fun hne => absurd rfl hne, fun _ => hen, fun a k ha hk => ?_⟩
  obtain rfl := Option.some.inj ha
  exact hsrc k hk

theorem kept_attempt (s : State) (i : SlotNo) (v : Half) {src : Source}
    (hsrc : ∀ k, src = .input k → (s.inputCfg k).binding = .arrive ∧ low5 (s.inputCfg k).target = i) :
    Kept s (s.attempt i v src).1 := by
  rcases attempt_cases s i v src with ⟨hok, h⟩ | ⟨_, h⟩
  · rw [h]
    exact kept_takeArrival hok v hsrc
  · rw [h]
    exact .refl s

theorem kept_levelAttempt (s : State) (k : Fin 4) (hb : (s.inputCfg k).binding = .arrive) : Kept s (s.levelAttempt k) := by
  rcases levelAttempt_cases s k with ⟨hok, h⟩ | ⟨_, h⟩
  · rw [h]
    refine kept_takeArrival hok _ fun k' hk => ?_
    cases hk
    exact ⟨hb, rfl⟩
  · rw [h]
    exact kept_disarm s k

/-- A slot loses its arrival. -/
theorem kept_drop (s : State) (i : SlotNo) {x : Slot} (hx : x.state ≠ .waiting)
    (h : x.arrival = (s.slot i).dropArrival.arrival ∧ x.published = (s.slot i).dropArrival.published
      ∧ x.committed = (s.slot i).dropArrival.committed ∧ x.withdrawPending = (s.slot i).dropArrival.withdrawPending
      ∧ x.timeoutPending = (s.slot i).dropArrival.timeoutPending) : Kept s (s.setSlot i x) :=
  kept_setSlot s i (fun _ => .of_dropped _ _ hx h) fun hw => absurd hw hx

theorem kept_removeArrival (s : State) (i : SlotNo) : Kept s (s.removeArrival i) :=
  ((kept_drop s i (by simp) ⟨by rfl, by rfl, by rfl, by rfl, by rfl⟩).trans (kept_remove _ _ _)).trans (kept_disarmSource _ _)

theorem kept_withdrawNow (s : State) (i : SlotNo) (k : Kind) : Kept s (s.withdrawNow i k) :=
  (kept_removeArrival s i).trans (kept_offerSlot _ _ _ _ _ _)

theorem kept_abortNow (s : State) (i : SlotNo) (reason : Byte) : Kept s (s.abortNow i reason) :=
  (kept_removeArrival s i).trans (kept_offerSlot _ _ _ _ _ _)

theorem kept_faultSlot (s : State) (i : SlotNo) : Kept s (s.faultSlot i) :=
  (((kept_drop s i (by simp) ⟨by rfl, by rfl, by rfl, by rfl, by rfl⟩).trans (kept_remove _ _ _)).trans
    (kept_disarmSource _ _)).trans (kept_offerSlot _ _ _ _ _ _)

/-- Fields that neither hold nor mark an arrival change. -/
theorem kept_setSlot_marked (s : State) (i : SlotNo) {x : Slot} (hstate : x.state = (s.slot i).state)
    (harr : x.arrival = (s.slot i).arrival) (hcfg : x.cfg = (s.slot i).cfg)
    (hmarks : (s.slot i).state ≠ .waiting → x.published = (s.slot i).published ∧ x.committed = (s.slot i).committed
      ∧ x.withdrawPending = (s.slot i).withdrawPending ∧ x.timeoutPending = (s.slot i).timeoutPending) :
    Kept s (s.setSlot i x) :=
  kept_setSlot s i (fun h => h.of_marked hstate harr (by rw [hcfg]) hmarks) fun hw => .inl (hstate ▸ hw)

theorem kept_haltAbortSlot (i : SlotNo) (s : State) : Kept s (State.haltAbortSlot i s) := by
  have h : Kept s (if (s.slot i).state = .waiting then s.abortNow i reasonHalt else s) := .ite (kept_abortNow s i _) (.refl s)
  exact .ite (h.trans (kept_setSlot_marked _ i (by rfl) (by rfl) (by rfl) fun _ => ⟨rfl, rfl, rfl, rfl⟩)) h

theorem kept_haltAbort (s : State) : Kept s s.haltAbort := .forSlots kept_haltAbortSlot s

theorem kept_rebaseSlot (reason : Byte) (sync : Sync) (i : SlotNo) (s : State) :
    Kept s (State.rebaseSlot reason sync i s) := by
  have h : Kept s (if (s.slot i).state = .waiting then s.abortNow i reason else s) := .ite (kept_abortNow s i _) (.refl s)
  exact .ite (h.trans (kept_drop _ i (by simp [Slot.rebase]) ⟨by rfl, by rfl, by rfl, by rfl, by rfl⟩)) (.refl s)

theorem kept_withdrawOrDefer (i : SlotNo) (s : State) : Kept s (State.withdrawOrDefer i s) := by
  unfold State.withdrawOrDefer
  dsimp only
  split
  · rename_i hw
    exact .ite (kept_setSlot_marked s i (by rfl) (by rfl) (by rfl) fun h => absurd hw h) (kept_withdrawNow s i _)
  · exact .refl s
  · exact .refl s
  · exact .refl s

theorem kept_withdrawCommand (s : State) (i : SlotNo) : Kept s (s.withdrawCommand i).1 := by
  unfold State.withdrawCommand
  dsimp only
  split
  · exact .refl s
  · split
    · exact .refl s
    · rename_i hw
      split
      · exact .refl s
      · split
        · exact kept_setSlot_marked s i (by rfl) (by rfl) (by rfl) fun h => absurd h hw
        · exact kept_withdrawNow s i _

/-- A slot that is no longer in FAULT held no arrival (R85). -/
theorem kept_clearCommand (s : State) (i : SlotNo) : Kept s (s.clearCommand i).1 := by
  unfold State.clearCommand
  dsimp only
  split
  · exact .refl s
  · split
    · exact .refl s
    · rename_i hfault
      have hne : (s.slot i).state ≠ .waiting := by simp [not_not.mp hfault]
      dsimp only
      refine (kept_setSlot s i (fun h => ?_) fun h => by cases h).trans
        (.forInputs (fun k t => .ite (kept_disarm t k) (.refl t)) _)
      have harr : (s.slot i).arrival = none := by
        rw [← Option.not_isSome_iff_eq_none, ← h.arrival]
        exact hne
      obtain ⟨hpub, hcom, hwith, htime⟩ := h.marks hne
      exact .of_dropped _ _ (x := s.slot i) (by simp) ⟨harr, hpub, hcom, hwith, htime⟩

/-! ### Halt unit -/

theorem kept_requestHalt {s : State} (hm : Member s) (hrun : s.hlt.condition = .running) (cause : Half) :
    Kept s (s.requestHalt cause) :=
  (kept_setHlt s (by rfl) (.inr (.inr ⟨hm, hrun⟩))).trans (kept_place _ _ _)

theorem kept_haltSource (s : State) (cause : Half) : Kept s (s.haltSource cause) := by
  unfold State.haltSource
  split
  · rename_i h
    exact kept_requestHalt (.inl h.1) h.2 cause
  · exact .refl s

theorem kept_commandHalt {s : State} (hm : Member s) (cause : Half) : Kept s (s.commandHalt cause) := by
  unfold State.commandHalt
  split
  · exact (kept_requestHalt hm ‹_› cause).trans (kept_setHlt _ (by rfl) (.inl (by rfl)))
  · exact kept_setHlt s (by rfl) (.inl (by rfl))

theorem kept_inputHalt (s : State) (i : Fin 4) : Kept s (s.inputHalt i) :=
  .ite ((kept_haltSource s _).trans (kept_setHlt _ (by rfl) (.inl (by rfl)))) (.refl s)

theorem kept_timeoutNow (s : State) (i : SlotNo) : Kept s (s.timeoutNow i) := by
  unfold State.timeoutNow
  dsimp only
  split
  · exact (kept_withdrawNow s i _).trans (kept_haltSource _ _)
  · exact kept_withdrawNow s i _

theorem kept_resolveUncompleted (s : State) (i : SlotNo) : Kept s (s.resolveUncompleted i) := by
  unfold State.resolveUncompleted
  dsimp only
  split
  · rename_i h
    exact .ite (kept_withdrawNow s i _) (.ite (kept_timeoutNow s i)
      (kept_setSlot_marked s i (by rfl) (by rfl) (by rfl) fun hne => absurd h.1 hne))
  · exact .refl s

theorem kept_resolveLatches (s : State) (r : Round) : Kept s (s.resolveLatches r) := by
  unfold State.resolveLatches
  split
  · exact kept_resolveUncompleted s _
  · exact .refl s

theorem kept_renewCommandHold {s : State} (hrun : s.hlt.condition = .running) (old : Hlt) :
    Kept s (s.renewCommandHold old) := by
  unfold State.renewCommandHold
  split
  · rename_i h
    dsimp only
    split
    · exact (kept_requestHalt (.inl h.1) hrun _).trans (kept_setHlt _ (by rfl) (.inl (by rfl)))
    · exact kept_setHlt s (by rfl) (.inl (by rfl))
  · exact .refl s

theorem kept_renewInputHold (old : Hlt) (i : Fin 4) (s : State) : Kept s (State.renewInputHold old i s) :=
  .ite (kept_inputHalt s i) (.refl s)

theorem kept_leaveHalt (s : State) : Kept s s.leaveHalt :=
  ((kept_setHlt s (by rfl) (.inr (.inl (by rfl)))).trans (kept_remove _ _ _)).trans (kept_remove _ _ _)

/-! ### Rounds -/

theorem kept_latchSetA (s : State) (r : Round) (c : Class) (n : Fin 32) : Kept s (s.latchSetA r c n).1 := by
  unfold State.latchSetA
  split
  · split
    · rename_i h
      exact kept_setSlot_marked s _ (by rfl) (by rfl) (by rfl) fun hne => absurd h.2 hne
    · exact .refl s
  · split <;> exact .refl s
  · split <;> exact .refl s
  · exact .refl s
  · exact .refl s
  · exact .refl s

theorem kept_beginField (s : State) (r : Round) : Kept s (s.beginField r).1 := by
  rcases beginField_cases s r with h | ⟨c, n, _, h⟩
  · rw [h]; exact .refl s
  · rw [h]; exact kept_latchSetA s r c n

theorem kept_resolveCompleted (s : State) (i : SlotNo) (x : Slot) (r : Round) : Kept s (s.resolveCompleted i x r) :=
  .ite (kept_offerSlot s _ _ _ _ _) (.refl s)

theorem kept_reattempt (s : State) (x : Slot) : Kept s (s.reattempt x) := by
  unfold State.reattempt
  split
  · split
    · rename_i h
      exact kept_levelAttempt s _ h.1.1
    · exact .refl s
  · exact .refl s

theorem kept_outputsOnCompletion (s : State) (i : SlotNo) : Kept s (s.outputsOnCompletion i) :=
  .of_frame (steady_outputsOnCompletion s i) (frame_outputsOnCompletion s i) ⟨rfl, rfl, rfl⟩

/-- A completion releases a committed arrival, and no other (R99, R101). -/
theorem complete_good {cfg : PinConfig} {i : SlotNo} {x : Slot} (h : SlotGood cfg i x) (r : Round) (time : Word) :
    SlotGood cfg i (x.complete r time) := by
  unfold Slot.complete
  dsimp only
  split
  · exact .of_dropped _ _ (x := x) (by simp) ⟨rfl, rfl, rfl, rfl, rfl⟩
  · exact h.of_marked rfl rfl rfl fun _ => ⟨rfl, rfl, rfl, rfl⟩

theorem complete_waiting {x : Slot} {r : Round} {time : Word} (h : (x.complete r time).state = .waiting) :
    x.state = .waiting ∧ x.committed = false := by
  unfold Slot.complete at h
  dsimp only at h
  split at h
  · cases h
  · rename_i hc
    exact ⟨h, by simpa using hc⟩

/-- A slot after adoption is as good as before: epoch and sync state are no arrival's (R98). -/
theorem adopt_good {cfg : PinConfig} {i : SlotNo} {x : Slot} (h : SlotGood cfg i x) (tag : BitVec 4) :
    SlotGood cfg i (x.adopt tag) := by
  rw [adopt_eq]
  exact h.of_marked rfl rfl rfl fun _ => ⟨rfl, rfl, rfl, rfl⟩

theorem kept_completeSlot (s : State) (i : SlotNo) (r : Round) : Kept s (s.completeSlot i ((s.slot i).adopt r.tag) r) := by
  have hset : Kept s (s.setSlot i (((s.slot i).adopt r.tag).complete r s.tsc.time)) :=
    kept_setSlot s i (fun h => complete_good (adopt_good h _) _ _) fun h => by
      have := (complete_waiting h).1
      rw [adopt_eq] at this
      exact .inl this
  unfold State.completeSlot
  refine .trans ?_ (kept_reattempt _ _)
  refine .trans ?_ (kept_resolveCompleted _ _ _ _)
  have h := (hset.trans (kept_outputsOnCompletion _ i)).trans
    (kept_offerSlot _ i .complete (epochTag ((s.slot i).adopt r.tag).epoch) r.setA r.val)
  split
  · exact h.trans (kept_zeroVoids _ _ _)
  · exact h.trans (kept_remove _ _ _)

theorem kept_offerProgress (s : State) (i : SlotNo) (r : Round) : Kept s (s.offerProgress i r) :=
  .ite (kept_offer s _ _ _ _ _) (.refl s)

/-- Publication marks an arrival alone (R102). -/
theorem advance_good {cfg : PinConfig} {i : SlotNo} {x : Slot} (h : SlotGood cfg i x) (r : Round) (number : StationNo) :
    SlotGood cfg i (x.advance r number) := by
  refine h.of_marked rfl rfl rfl fun hne => ⟨?_, rfl, rfl, rfl⟩
  simp [Slot.advance, hne]

theorem kept_progressSlot (s : State) (i : SlotNo) (r : Round) : Kept s (s.progressSlot i ((s.slot i).adopt r.tag) r) := by
  have hset : Kept s (s.setSlot i (if (((s.slot i).adopt r.tag).advance r s.mbr.number).published then
      { ((s.slot i).adopt r.tag).advance r s.mbr.number with probe := false }
      else ((s.slot i).adopt r.tag).advance r s.mbr.number)) := by
    refine kept_setSlot s i (fun h => ?_) fun h => .inl ?_
    · have hg := advance_good (adopt_good h r.tag) r s.mbr.number
      split
      · exact hg.of_marked rfl rfl rfl fun _ => ⟨rfl, rfl, rfl, rfl⟩
      · exact hg
    · rw [adopt_eq] at h
      split at h <;> exact h
  unfold State.progressSlot
  refine .trans ?_ (kept_resolveUncompleted _ _)
  have h := hset.trans (kept_offerProgress _ i r)
  exact .ite (h.trans (kept_remove _ _ _)) (h.trans (kept_zeroVoids _ _ _))

theorem kept_arriveEffects (r : Round) (n : Fin 32) (s : State) : Kept s (arriveEffects r n s) := by
  unfold arriveEffects
  split
  · dsimp only
    split
    · exact kept_completeSlot s n r
    · exact kept_progressSlot s n r
  · exact kept_zeroVoids s _ _

theorem kept_probeSlot (i : SlotNo) (s : State) : Kept s (State.probeSlot i s) := by
  have h : Kept s ((s.setSlot i { s.slot i with probe := true }).place .arrive i) :=
    .trans (t := s.setSlot i { s.slot i with probe := true })
      (kept_setSlot_marked s i (by rfl) (by rfl) (by rfl) fun _ => ⟨rfl, rfl, rfl, rfl⟩) (kept_place _ _ _)
  exact .ite (.ite (.refl s) h) (.refl s)

theorem kept_voidRecord (s : State) (r : Round) : Kept s (s.voidRecord r) := (kept_offer s _ _ _ _ _).trans (kept_raise _ _)

theorem kept_droppedRecord (s : State) (c : Class) (n : Fin 32) (limit : Nat) : Kept s (s.droppedRecord c n limit) :=
  ((kept_remove s _ _).trans (kept_offer _ _ _ _ _ _)).trans (kept_raise _ _)

/-! ### Inputs -/

theorem kept_inputArrive {s : State} {i : Fin 4} (hb : (s.inputCfg i).binding = .arrive) (l : Level) :
    Kept s (s.inputArrive i l) := by
  refine .ite (.ite (kept_levelAttempt s i hb) (.refl s)) (.ite (kept_attempt s _ _ fun k hk => ?_) (.refl s))
  cases hk
  exact ⟨hb, rfl⟩

theorem kept_actOnBinding (s : State) (i : Fin 4) (l : Level) : Kept s (s.actOnBinding i l) := by
  unfold State.actOnBinding
  dsimp only
  split
  · exact .refl s
  · exact kept_inputArrive ‹_› l
  · exact .ite (kept_requestSet s _) (.refl s)
  · exact .ite (kept_requestClear s _) (.refl s)
  · exact .ite (kept_requestSet s _) (kept_requestClear s _)
  · exact .ite (.ite (kept_inputHalt s i) (kept_setHlt s (by rfl) (.inl (by rfl)))) (.ite (kept_haltSource s _) (.refl s))

end Sys2Proof.Machine
end

section
/-! The slots and the halt request through every step (O57). -/

namespace Sys2Proof.Machine

/-! ### Walks over the slots -/

theorem removeArrival_other (s : State) {i j : SlotNo} (h : j ≠ i) : (s.removeArrival i).slot j = s.slot j := by
  rw [State.removeArrival, slot_disarmSource, slot_remove, slot_setSlot_ne _ _ _ _ h]

theorem abortNow_other (s : State) {i j : SlotNo} (reason : Byte) (h : j ≠ i) : (s.abortNow i reason).slot j = s.slot j := by
  rw [State.abortNow, slot_offerSlot, removeArrival_other s h]

theorem withdrawNow_other (s : State) {i j : SlotNo} (k : Kind) (h : j ≠ i) : (s.withdrawNow i k).slot j = s.slot j := by
  rw [State.withdrawNow, slot_offerSlot, removeArrival_other s h]

/-- An enabled slot put back is READY, or what its sync state is to be, whatever it held (R87, R88). -/
theorem rebaseSlot_slot (reason : Byte) (sync : Sync) (i : SlotNo) (s : State) :
    (State.rebaseSlot reason sync i s).slot i
      = if (s.slot i).cfg.enabled = true then (s.slot i).rebase sync else s.slot i := by
  unfold State.rebaseSlot
  split
  · dsimp only
    rw [slot_setSlot_same]
    split
    · rw [abortNow_slot]
      rfl
    · rfl
  · rfl

theorem rebaseSlot_other (reason : Byte) (sync : Sync) {i j : SlotNo} (s : State) (h : j ≠ i) :
    (State.rebaseSlot reason sync i s).slot j = s.slot j := by
  unfold State.rebaseSlot
  split
  · dsimp only
    rw [slot_setSlot_ne _ _ _ _ h]
    split
    · exact abortNow_other s reason h
    · rfl
  · rfl

/-- Every slot after the walk: what its own turn makes of it. -/
theorem forSlots_slot {f : SlotNo → State → State} {g : Slot → Slot} (hsame : ∀ i t, (f i t).slot i = g (t.slot i))
    (hother : ∀ i j t, j ≠ i → (f i t).slot j = t.slot j) (s : State) (i : SlotNo) :
    (forSlots f s).slot i = g (s.slot i) := by
  have h := forSlots_each f (fun _ => True) (fun j t => t.slot j = s.slot j) (fun j t => t.slot j = g (s.slot j))
    (fun _ _ _ => trivial) (fun j t _ hj => by rw [hsame, hj]) (fun j k t hne _ hj => by rw [hother k j t hne.symm, hj])
    (fun j k t hne _ hj => by rw [hother k j t hne.symm, hj]) s trivial (fun _ => rfl)
  exact h.2 i

/-- The slots put back, each as it was before (R87, R88). -/
theorem forSlots_rebase_slot (reason : Byte) (sync : Sync) (s : State) (i : SlotNo) :
    (forSlots (State.rebaseSlot reason sync) s).slot i
      = if (s.slot i).cfg.enabled = true then (s.slot i).rebase sync else s.slot i :=
  forSlots_slot (g := fun x => if x.cfg.enabled = true then x.rebase sync else x)
    (fun i t => rebaseSlot_slot reason sync i t) (fun _ _ t h => rebaseSlot_other reason sync t h) s i

/-- What a halt abort makes of a slot (R86). -/
def Slot.haltAborted (x : Slot) : Slot :=
  let y := if x.state = .waiting then { x.dropArrival with state := .ready } else x
  if x.cfg.enabled = true then { y with lastSeen := 0#32 } else y

theorem haltAbortSlot_slot (i : SlotNo) (s : State) : (State.haltAbortSlot i s).slot i = (s.slot i).haltAborted := by
  have h : (if (s.slot i).state = .waiting then s.abortNow i reasonHalt else s).slot i
      = if (s.slot i).state = .waiting then { (s.slot i).dropArrival with state := .ready } else s.slot i := by
    split
    · exact abortNow_slot s i _
    · rfl
  have hcfg : (if (s.slot i).state = .waiting then { (s.slot i).dropArrival with state := .ready } else s.slot i).cfg
      = (s.slot i).cfg := by
    split <;> rfl
  unfold State.haltAbortSlot Slot.haltAborted
  dsimp only
  rw [h, hcfg]
  split
  · rw [slot_setSlot_same]
  · exact h

theorem haltAbortSlot_other {i j : SlotNo} (s : State) (h : j ≠ i) : (State.haltAbortSlot i s).slot j = s.slot j := by
  have ha : (if (s.slot i).state = .waiting then s.abortNow i reasonHalt else s).slot j = s.slot j := by
    split
    · exact abortNow_other s _ h
    · rfl
  unfold State.haltAbortSlot
  dsimp only
  generalize (if (s.slot i).state = .waiting then s.abortNow i reasonHalt else s) = u at ha ⊢
  split
  · rw [slot_setSlot_ne _ _ _ _ h, ha]
  · exact ha

theorem haltAbort_slot (s : State) (i : SlotNo) : s.haltAbort.slot i = (s.slot i).haltAborted :=
  forSlots_slot haltAbortSlot_slot (fun _ _ t h => haltAbortSlot_other t h) s i

theorem haltAborted_not_waiting (x : Slot) : x.haltAborted.state ≠ .waiting := by
  unfold Slot.haltAborted
  dsimp only
  split <;> split <;> simp_all

/-! ### Going OFFLINE -/

theorem goOffline_slot (s : State) (i : SlotNo) :
    s.goOffline.slot i = if (s.slot i).cfg.enabled = true then (s.slot i).rebase .unsynced else s.slot i := by
  unfold State.goOffline
  rw [forSlots_rebase_slot]
  rfl

/-- No slot of an OFFLINE station is WAITING, whatever it held: only an enabled slot can be (R88). -/
theorem goOffline_slotsOk {s : State} (hg : Goods s) : SlotsOk s.goOffline := by
  refine .of_none (fun i => ?_) (fun i => ?_) (by rw [goOffline_hlt]; rfl)
  · rw [(mild_goOffline s).pinCfg, goOffline_slot]
    split
    · exact .of_dropped _ _ (x := s.slot i) (by simp [Slot.rebase]) ⟨rfl, rfl, rfl, rfl, rfl⟩
    · exact hg i
  · rw [goOffline_slot]
    split
    · simp [Slot.rebase]
    · exact fun hw => ‹¬_› ((hg i).enabled hw)

theorem leaveBus_slotsOk {s : State} (hg : Goods s) (cause : Byte) : SlotsOk (s.leaveBus cause) :=
  goOffline_slotsOk ((kept_offer s _ _ _ _ _).goods hg)

theorem refuseJoin_slotsOk {s : State} (hg : Goods s) (reason : Byte) (set : Set32) : SlotsOk (s.refuseJoin reason set) :=
  goOffline_slotsOk ((kept_offer s _ _ _ _ _).goods hg)

theorem kept_abandon (s : State) (framing : Bool) : Kept s (s.abandon framing) := by
  unfold State.abandon
  split
  · exact .refl s
  · rename_i r _
    have h := (kept_setRnd s { s.rnd with round := none }).trans (kept_resolveLatches _ r)
    exact .ite (h.trans (.of_frame (mild_framingRecord _ _).toSteady (frame_framingRecord _ _) ⟨rfl, rfl, rfl⟩)) h

theorem stuckNow_slotsOk {s : State} (hs : SlotsOk s) (stb dat : Bool) : SlotsOk (s.stuckNow stb dat) := by
  have h := hs.of_kept ((kept_setLif s s.lif.faulted).trans (kept_abandon _ false))
  have hr := (kept_offer ((s.setLif s.lif.faulted).abandon false) .busFault ((s.setLif s.lif.faulted).abandon false).mbr.number
    (stuckTag stb dat) ((s.setLif s.lif.faulted).abandon false).mbr.roster 0#16).trans (kept_raise _ .bus)
  change SlotsOk (State.busFault _ _ _)
  unfold State.busFault
  dsimp only
  split
  · exact goOffline_slotsOk (hr.goods h.goods)
  · exact h.of_kept hr

/-! ### JOIN and LEAVE -/

theorem joinNow_slotsOk {s : State} (hs : SlotsOk s) (hoff : s.mbr.membership = .offline) : SlotsOk s.joinNow := by
  have h : SlotsOk s.joinPlaced := hs.of_same rfl rfl rfl (by simp [Member, hoff])
  rw [joinNow_eq]
  split
  · exact stuckNow_slotsOk h _ _
  · exact h

theorem kept_leaveCleared (s : State) : Kept s s.leaveCleared := by
  unfold State.leaveCleared
  refine .trans ?_ (kept_leaveHalt _)
  refine .trans (.forSlots kept_withdrawOrDefer s) ?_
  exact .of_frame (Mild.of_frame (frame_discardFlags _) rfl).toSteady (frame_discardFlags _) ⟨rfl, rfl, rfl⟩

theorem enter_slotsOk {s : State} (hs : SlotsOk s) {m : Membership} (hm : m = .online ∨ m = .leaving) :
    SlotsOk (s.enter m) :=
  hs.of_same rfl rfl rfl fun _ => hm

theorem leaveNow_slotsOk {s : State} (hs : SlotsOk s) : SlotsOk s.leaveNow := by
  rw [leaveNow_eq]
  exact (enter_slotsOk (hs.of_kept (kept_leaveCleared s)) (.inr rfl)).of_kept (kept_place _ _ _)

/-! ### Conditions -/

/-- A station that becomes HALTED holds nothing any more (R86, R129). -/
theorem haltNow_slotsOk {s : State} (hs : SlotsOk s) (cause : Byte) (set : Set32) (value : Half) :
    SlotsOk (s.haltNow cause set value) := by
  have hg : Goods ((s.setHlt { s.hlt with condition := .halted }).dropHaltRequest) := hs.goods.congr rfl rfl
  unfold State.haltNow
  refine .of_none ?_ (fun i => ?_) ?_
  · exact (((kept_offer _ _ _ _ _ _).trans (kept_raise _ _)).trans (kept_haltAbort _)).goods hg
  · rw [haltAbort_slot]
    exact haltAborted_not_waiting _
  · rw [State.haltAbort, (frame_forSlots _ frame_haltAbortSlot _).hlt_eq rfl, raise_hlt, offer_hlt]
    rfl

/-- Resumption begins: RUNNING, with its record and event (R134). -/
def State.resumeBegun (s : State) (requesters : Set32) : State :=
  let t := s.setHlt { Hlt.clear .running with request := s.hlt.request }
  (t.offer .resume s.mbr.number causeRound requesters 0#16).raise .resume

theorem resumeNow_eq (s : State) (requesters : Set32) :
    s.resumeNow requesters
      = forInputs (State.renewInputHold s.hlt) ((s.resumeBegun requesters).renewCommandHold s.hlt) := rfl

theorem resumeBegun_hlt (s : State) (requesters : Set32) :
    (s.resumeBegun requesters).hlt = { Hlt.clear .running with request := s.hlt.request } := by
  unfold State.resumeBegun
  rw [raise_hlt, offer_hlt, setHlt_hlt]

theorem resumeNow_slotsOk {s : State} (hs : SlotsOk s) (requesters : Set32) : SlotsOk (s.resumeNow requesters) := by
  have h : SlotsOk (s.resumeBegun requesters) :=
    (hs.of_running (x := { Hlt.clear .running with request := s.hlt.request }) rfl (.inr rfl)).of_kept
      ((kept_offer _ _ _ _ _ _).trans (kept_raise _ _))
  rw [resumeNow_eq]
  refine h.of_kept (.trans (kept_renewCommandHold ?_ _) (.forInputs (kept_renewInputHold s.hlt) _))
  rw [resumeBegun_hlt]
  rfl

theorem haltEffects_slotsOk {s : State} (hs : SlotsOk s) (r : Round) (n : Fin 32) : SlotsOk (haltEffects r n s) := by
  unfold haltEffects
  split
  · exact haltNow_slotsOk hs _ _ _
  · exact hs.of_kept (kept_zeroVoids s _ _)

theorem resumeEffects_slotsOk {s : State} (hs : SlotsOk s) (r : Round) (n : Fin 32) : SlotsOk (resumeEffects r n s) := by
  have h := hs.of_kept ((kept_setHlt s (x := { s.hlt with resumePending := false }) rfl (.inl rfl)).trans
    (kept_remove _ .resume 0))
  unfold resumeEffects
  split
  · dsimp only
    split
    · exact resumeNow_slotsOk h _
    · exact h.of_kept ((kept_offer _ _ _ _ _ _).trans (kept_raise _ _))
  · exact hs.of_kept (kept_zeroVoids s _ _)

/-! ### Admission -/

/-- A slot made READY at an admission holds no arrival: no slot of a joiner does (R53). -/
theorem admitSlot_good {s : State} (hg : Goods s ∧ ∀ i, (s.slot i).state ≠ .waiting) (i : SlotNo) :
    Goods (State.admitSlot i s) ∧ ∀ j, ((State.admitSlot i s).slot j).state ≠ .waiting := by
  obtain ⟨hgood, hw⟩ := hg
  unfold State.admitSlot
  split
  · refine ⟨hgood.setSlot ?_, fun j => ?_⟩
    · have harr : (s.slot i).arrival = none := by
        rw [← Option.not_isSome_iff_eq_none, ← (hgood i).arrival]
        exact hw i
      obtain ⟨hpub, hcom, hwith, htime⟩ := (hgood i).marks (hw i)
      exact .of_dropped _ _ (x := s.slot i) (by simp) ⟨harr, hpub, hcom, hwith, htime⟩
    · rw [slot_setSlot]
      split
      · simp
      · exact hw j
  · exact ⟨hgood, hw⟩

theorem adoptCondition_request (s : State) (r : Round) : (s.adoptCondition r).hlt.request = s.hlt.request := by
  unfold State.adoptCondition
  split
  · rw [raise_hlt, offer_hlt, setHlt_hlt]
  · rfl

theorem admitBegun_request (s : State) (r : Round) : (s.admitBegun r).hlt.request = s.hlt.request := by
  unfold State.admitBegun
  dsimp only
  rw [adoptCondition_request, (frame_changeWord _ _ _).hlt_eq rfl, offer_hlt, remove_hlt]
  rfl

theorem frame_admitBegun (s : State) (r : Round) :
    Frame [.mbr, .rnd, .log, .ntf, .flg, .hlt] s (s.admitBegun r) := by
  unfold State.admitBegun State.admitEntered
  dsimp only
  refine .comp ?_ ((frame_adoptCondition _ _).mono (by simp))
  refine .comp ?_ ((frame_changeWord _ _ _).mono (by simp))
  refine .comp ?_ ((frame_offer _ _ _ _ _ _).mono (by simp))
  refine .comp ?_ ((frame_remove _ _ _).mono (by simp))
  refine .comp ?_ ((frame_setMbr _ _).mono (by simp))
  exact (frame_setMbr s _).then (frame_raise _ _) (by simp) (by simp)

theorem admitJoiner_slotsOk {s : State} (hs : SlotsOk s) (hj : s.mbr.membership = .joining) (r : Round) :
    SlotsOk (s.admitJoiner r) := by
  have hnot : ¬Member s := by simp [Member, hj]
  have hreq : s.hlt.request = none := by
    rw [← Option.not_isSome_iff_eq_none]
    exact fun h => hnot (hs.request h)
  have hf := frame_admitBegun s r
  have hg : Goods (s.admitBegun r) ∧ ∀ i, ((s.admitBegun r).slot i).state ≠ .waiting := by
    refine ⟨hs.goods.congr (by rw [hf.pin_eq rfl]) (hf.slots_eq rfl), fun i hw => hnot (hs.member i ?_)⟩
    rwa [slot_eq_of_slots (hf.slots_eq rfl)] at hw
  obtain ⟨hgood, hw⟩ := forSlots_keeps (fun t => Goods t ∧ ∀ i, (t.slot i).state ≠ .waiting) _
    (fun i t h => admitSlot_good h i) _ hg
  have h : SlotsOk (forSlots State.admitSlot (s.admitBegun r)) := by
    refine .of_none hgood hw ?_
    rw [(frame_forSlots _ frame_admitSlot _).hlt_eq rfl, admitBegun_request, hreq]
  rw [admitJoiner_eq]
  exact h.of_kept (.forInputs (fun i t => kept_followInput t true i) _)

theorem kept_memberJoin (s : State) (r : Round) (n : Fin 32) : Kept s (s.memberJoin r n) :=
  (Kept.ite (.refl s) (kept_changeRoster s _ _ _)).trans (kept_setMbr _ (by rfl))

theorem joinEffects_slotsOk {s : State} (hs : SlotsOk s) (r : Round) (n : Fin 32) : SlotsOk (joinEffects r n s) := by
  unfold joinEffects
  split
  · split
    · unfold State.ownJoin
      split
      · exact refuseJoin_slotsOk hs.goods _ _
      · exact admitJoiner_slotsOk hs ‹_› r
    · exact hs
  · exact hs.of_kept (kept_memberJoin s r n)
  · exact hs.of_kept (kept_memberJoin s r n)
  · exact hs

/-! ### ROLL and void rounds, bus reset -/

theorem takeRoll_slotsOk {s : State} (hs : SlotsOk s) (r : Round) : SlotsOk (s.takeRoll r) := by
  have hword := hs.of_kept ((kept_changeRoster s r.setA s.mbr.number causeRoll).trans (kept_changeWord _ r.wordB causeRoll))
  have h : SlotsOk (((s.changeRoster r.setA s.mbr.number causeRoll).changeWord r.wordB causeRoll).repairCondition r) := by
    unfold State.repairCondition
    split
    · exact haltNow_slotsOk hword _ _ _
    · exact hword
  unfold State.takeRoll
  dsimp only
  split
  · exact h
  · exact h.of_kept (.forSlots kept_probeSlot _)

theorem rollEffects_slotsOk {s : State} (hs : SlotsOk s) (r : Round) (n : Fin 32) : SlotsOk (rollEffects r n s) := by
  have hmbr := kept_setMbr s (x := { s.mbr with rollTimer := 0 }) rfl
  unfold rollEffects
  split
  · exact takeRoll_slotsOk (hs.of_kept (hmbr.trans (kept_remove _ _ _))) r
  · split
    · exact leaveBus_slotsOk hs.goods _
    · exact takeRoll_slotsOk (hs.of_kept (hmbr.trans (kept_zeroVoids _ _ _))) r
  · exact hs
  · exact hs

theorem dropEntry_slotsOk {s : State} (hs : SlotsOk s) (c : Class) (n : Fin 32) (limit : Nat) :
    SlotsOk (s.dropEntry c n limit) := by
  have hd : ∀ c, SlotsOk (s.droppedRecord c n limit) := fun c => hs.of_kept (kept_droppedRecord s c n limit)
  unfold State.dropEntry
  split
  · exact hs.of_kept (kept_faultSlot s n)
  · exact refuseJoin_slotsOk hs.goods _ _
  · exact (hd _).of_kept (kept_setHlt _ (by rfl) (.inr (.inl (by rfl))))
  · exact (hd _).of_kept (kept_setHlt _ (by rfl) (.inl (by rfl)))
  · exact (hd _).of_frame (frame_setFlg _ _) ⟨rfl, rfl, rfl, rfl⟩
  · dsimp only
    split
    · exact leaveBus_slotsOk (hd _).goods _
    · exact hd _

theorem voidEffects_slotsOk {s : State} (hs : SlotsOk s) (r : Round) : SlotsOk (voidEffects r s) := by
  have hv := hs.of_kept (kept_voidRecord s r)
  unfold voidEffects
  dsimp only
  split
  · exact hv
  · refine SlotsOk.of_kept ?_ (kept_resolveLatches _ r)
    unfold State.countVoid
    split
    · exact hv
    · split
      · exact dropEntry_slotsOk hv _ _ _
      · exact hv.of_kept (kept_setRnd _ _)

theorem kept_busResetRebased (s : State) : Kept s s.busResetRebased := by
  unfold State.busResetRebased
  refine .trans ?_ (.forSlots (kept_rebaseSlot _ _) _)
  exact ((kept_changeRoster s _ _ _).trans (kept_setMbr _ (by rfl))).trans (kept_place _ _ _)

theorem busResetHalt_slotsOk {s : State} (hs : SlotsOk s) : SlotsOk s.busResetHalt := by
  have h := hs.of_running (x := Hlt.clear .running) rfl (.inl rfl)
  unfold State.busResetHalt
  dsimp only
  split
  · exact h.of_kept ((kept_offer _ _ _ _ _ _).trans (kept_raise _ _))
  · exact h

theorem busResetOnline_slotsOk {s : State} (hs : SlotsOk s) : SlotsOk s.busResetOnline := by
  rw [busResetOnline_eq]
  have h := (hs.of_kept (kept_busResetRebased s)).of_frame (frame_busResetFlags _) ⟨rfl, rfl, rfl, rfl⟩
  exact (busResetHalt_slotsOk h).of_kept (.forInputs (fun i t => kept_followInput t false i) _)

theorem busResetEffects_slotsOk {s : State} (hs : SlotsOk s) : SlotsOk s.busResetEffects := by
  have hpruned := hs.of_frame (frame_busResetPruned s) ⟨rfl, rfl, rfl, rfl⟩
  rw [busResetEffects_eq]
  split
  · exact hs.of_frame (frame_busResetSeen s) ⟨rfl, rfl, rfl, rfl⟩
  · exact hpruned
  · exact busResetOnline_slotsOk hpruned
  · exact leaveBus_slotsOk hpruned.goods _

/-! ### Every effect -/

theorem afterReset_slot (cause : ResetCause) (number : StationNo) (pins : Vector Level 4) (i : SlotNo) :
    (State.afterReset cause number pins).slot i = .reset :=
  Vector.getElem_replicate _

theorem afterReset_slotsOk (cause : ResetCause) (number : StationNo) (pins : Vector Level 4) :
    SlotsOk (State.afterReset cause number pins) := by
  refine .of_none (fun i => ?_) (fun i => ?_) rfl <;> rw [afterReset_slot]
  · exact .of_dropped _ _ (x := .reset) (by simp [Slot.reset]) ⟨rfl, rfl, rfl, rfl, rfl⟩
  · simp [Slot.reset]

/-- The inputs' configurations and their arrivals stand as a reset begins. -/
theorem startReset_slotsOk {s : State} (hs : SlotsOk s) (cause : ResetCause) : SlotsOk (s.startReset cause) := by
  refine .of_goods (fun i => ?_) hs.member hs.halted hs.request
  obtain ⟨harr, hmarks, hen, hsrc⟩ := hs.goods i
  exact ⟨harr, hmarks, hen, hsrc⟩

/-- No arrival is held OFFLINE, so that no configuration written there is an arrival's. -/
theorem writePin_slotsOk {s : State} (hs : SlotsOk s) (hoff : s.mbr.membership = .offline) (x : Pin) :
    SlotsOk (s.setPin x) := by
  refine .of_goods (fun i => ?_) hs.member hs.halted hs.request
  obtain ⟨harr, hmarks, hen, _⟩ := hs.goods i
  refine ⟨harr, hmarks, hen, fun a k ha => ?_⟩
  have hw : (s.slot i).state = .waiting := harr.mpr (by rw [show (s.slot i).arrival = some a from ha]; rfl)
  have := hs.member i hw
  simp [Member, hoff] at this

theorem writeSlot_slotsOk {s : State} (hs : SlotsOk s) (i : SlotNo) (c : SlotConfig) :
    SlotsOk (s.setSlot i ((s.slot i).configure c)) :=
  hs.of_kept (kept_drop s i (by cases h : c.enabled <;> simp [Slot.configure, h]) ⟨by rfl, by rfl, by rfl, by rfl, by rfl⟩)

theorem Steady.of_pin {s t : State} (hf : Frame [.tsc, .lif, .pin] s t) (hcfg : t.pin.cfg = s.pin.cfg) : Steady s t := by
  have hslot := slot_eq_of_slots (hf.slots_eq rfl)
  have hntf := hf.ntf_eq rfl
  have hlog := hf.log_eq rfl
  refine ⟨hf.cfg_eq rfl, by rw [hf.mbr_eq rfl], fun i => by rw [hslot], hcfg, by rw [hlog], ?_, ?_, ?_, by rw [hntf],
    by rw [hntf]⟩
  · simp only [LogBounded, hlog]; exact id
  · rw [hntf]; exact and_not_self _
  · rw [hntf]; exact and_not_self _

/-- The effects that touch timebase, line interface and the running state of inputs alone. -/
theorem SlotsOk.of_inputs {s t : State} (hs : SlotsOk s) (h : Steady s t) (hf : Frame [.tsc, .lif, .pin] s t) : SlotsOk t :=
  hs.of_same h.pinCfg (hf.slots_eq rfl) (hf.hlt_eq rfl) (by rw [Member, Member, hf.mbr_eq rfl]; exact id)

theorem endRound_slotsOk {s : State} (hs : SlotsOk s) (dis : Level) : SlotsOk (s.endRound dis) :=
  hs.of_same rfl rfl rfl id

theorem effect_slotsOk {c : Instr} {s t : State} (h : Effect c s t) (hs : SlotsOk s) : SlotsOk t := by
  cases h with
  | join hoff _ => exact joinNow_slotsOk hs hoff
  | leave _ => exact leaveNow_slotsOk hs
  | busReset _ | framingViolation | busResetArmedSeek => exact hs.of_kept ((kept_setLif s _).trans (kept_abandon _ _))
  | arrive _ _ => exact hs.of_kept (kept_attempt s _ _ fun _ h => by cases h)
  | withdraw _ => exact hs.of_kept (kept_withdrawCommand s _)
  | clearSlot _ => exact hs.of_kept (kept_clearCommand s _)
  | setFlags _ => exact hs.of_kept (kept_requestSet s _)
  | clearFlags _ => exact hs.of_kept (kept_requestClear s _)
  | halt _ hon => exact hs.of_kept (kept_commandHalt (.inl hon) _)
  | resume _ _ => exact hs.of_kept ((kept_setHlt s (by rfl) (.inl (by rfl))).trans (kept_place _ _ _))
  | clearEvents _ _ _ | setMask _ _ _ | clearMask _ _ _ => exact hs.of_same rfl rfl rfl id
  | writeStationConfig _ _ => exact hs.of_same rfl rfl rfl id
  | writeSlotConfig _ _ => exact writeSlot_slotsOk hs _ _
  | writePinConfig hoff _ => exact writePin_slotsOk hs hoff _
  | sleep _ | autoSleepExpiry _ => exact hs.of_inputs (steady_enterSleep s) (frame_enterSleep s)
  | wake => exact hs.of_inputs (steady_startWake s) (frame_startWake s)
  | softReset | powerOn => exact startReset_slotsOk hs _
  | resetn => exact startReset_slotsOk (hs.of_same (t := s.setTsc { s.tsc with resetnLow := true }) rfl rfl rfl id) _
  | resetnHeld | oscillatorStop => exact hs.of_same rfl rfl rfl id
  | internalResetEnd p =>
    exact (afterReset_slotsOk s.tsc.cause (strapNumber p) s.pinLevels).of_same rfl rfl rfl id
  | startIssued _ _ | unframedActivity | closingEndHigh | closingEndLow | busIdle _ _ _ _ | busResetPulseEnd | busResetArmed
  | closingBegins _ _ | tlowExpired | datFallInClosing | busResetDetectorDisarmed _ => exact hs.of_kept (kept_setLif s _)
  | roundStart _ _ => exact hs.of_kept ((kept_setLif s _).trans (kept_setRnd _ _))
  | haltRound _ => exact haltEffects_slotsOk (endRound_slotsOk hs _) _ _
  | resumeRound _ => exact resumeEffects_slotsOk (endRound_slotsOk hs _) _ _
  | joinRound _ => exact joinEffects_slotsOk (endRound_slotsOk hs _) _ _
  | arriveRound _ => exact (endRound_slotsOk hs _).of_kept (kept_arriveEffects _ _ _)
  | flagsRound _ =>
    exact (endRound_slotsOk hs _).of_frame (frame_flagsEffects _ _ _) ⟨rfl, rfl, rfl, rfl⟩
  | rollRound _ => exact rollEffects_slotsOk (endRound_slotsOk hs _) _ _
  | voidRound _ => exact voidEffects_slotsOk (endRound_slotsOk hs _) _
  | lineStuck line _ _ => exact stuckNow_slotsOk (hs.of_kept (kept_setLif s _)) _ _
  | busResetRecognised => exact busResetEffects_slotsOk (hs.of_kept (kept_setLif s _))
  | rollTimerExpiry _ => exact hs.of_kept ((kept_setMbr s (by rfl)).trans (kept_place _ _ _))
  | timeoutPending i hw =>
    exact hs.of_kept (kept_setSlot_marked s i (by rfl) (by rfl) (by rfl) fun hne => absurd hw hne)
  | timeout i _ => exact hs.of_kept (kept_timeoutNow s i)
  | movePin i l => exact hs.of_inputs (steady_movePin s i l) ((frame_movePin s i l).mono (by simp))
  | inputChange i l _ | wakeInputEdge i l => exact hs.of_inputs (steady_rawEdge s i l) (frame_rawEdge s i l)
  | inputAccepted i =>
    exact (hs.of_inputs (steady_setInput s i _) ((frame_acceptLevel s i).mono (by simp))).of_kept (kept_actOnBinding _ _ _)
  | pulseEnd o => exact hs.of_same rfl rfl rfl id
  | asyncStart _ =>
    exact (hs.of_kept ((kept_setRnd s _).trans (kept_setLif _ _))).of_inputs (steady_startWake _) (frame_startWake _)
  | oscillatorRuns => exact hs.of_inputs (steady_awake s) (frame_awake s)
  | @positionBegins _ r _ _ _ =>
    exact hs.of_kept (((kept_beginField s r).trans (kept_setRnd _ _)).trans (kept_setLif _ _))
  | positionSampled _ _ => exact hs.of_kept ((kept_setRnd s _).trans (kept_setLif _ _))

theorem counted_slotsOk {s t : State} (h : Counted s t) (hs : SlotsOk s) : SlotsOk t := by
  have hslot : ∀ i, (t.slot i).state = (s.slot i).state := fun i => by rw [h.slots i]
  have hm : Member t ↔ Member s := member_congr (by rw [h.mbr])
  have hhlt := h.frame.hlt_eq rfl
  refine .of_goods (fun i => ?_) (fun i hi => ?_) ?_ ?_
  · rw [h.pinCfg, h.slots i]
    exact (hs.goods i).of_marked rfl rfl rfl fun _ => ⟨rfl, rfl, rfl, rfl⟩
  · rw [hslot] at hi
    exact hm.mpr (hs.member i hi)
  · rw [hhlt]
    exact fun hh => ⟨fun i => by rw [hslot]; exact (hs.halted hh).1 i, (hs.halted hh).2⟩
  · rw [hhlt]
    exact fun hr => hm.mpr (hs.request hr)

/-- Settles O57: an effect keeps the slots sound, or leaves no arrival and no halt request. -/
theorem everyStepKeepsTheSlotsSound : Obligations.EveryStepKeepsTheSlotsSound := fun _ _ hs h =>
  step_keeps (fun _ _ hf hs => hs.of_frame hf ⟨rfl, rfl, rfl, rfl⟩) (fun _ _ => counted_slotsOk)
    (fun s _ _ hs => hs.of_kept (kept_setLif s _)) (fun _ _ _ => effect_slotsOk) hs h

/-- Settles O60: after a reset nothing is requested, held, driven or counted. -/
theorem invariantsHoldAtReset : Obligations.InvariantsHoldAtReset := by
  have h : ∀ (cause : ResetCause) (number : StationNo) (pins : Vector Level 4),
      LogBounded (State.afterReset cause number pins) ∧ PortSound (State.afterReset cause number pins)
        ∧ FlagUnitOk (State.afterReset cause number pins) ∧ RequestsOk (State.afterReset cause number pins)
        ∧ SlotsOk (State.afterReset cause number pins) ∧ DriversOk (State.afterReset cause number pins)
        ∧ AutoSleepHeld (State.afterReset cause number pins) := fun cause number pins =>
    ⟨Nat.zero_le 16, fun x hx => (by cases hx), afterReset_flagsOk cause number pins, afterReset_requestsOk cause number pins,
      afterReset_slotsOk cause number pins, DriversOk.of_released rfl rfl, fun _ _ => rfl⟩
  exact ⟨h, h _ _ _⟩

end Sys2Proof.Machine
end

section
/-! The values that a station reset leaves (R184). -/

namespace Sys2Proof.Machine

theorem afterReset_input (cause : ResetCause) (number : StationNo) (pins : Vector Level 4) (i : Fin 4) :
    (State.afterReset cause number pins).input i = Input.reset pins[i] :=
  getElem_mapAll _ _ _ _

theorem afterReset_inputCfg (cause : ResetCause) (number : StationNo) (pins : Vector Level 4) (i : Fin 4) :
    (State.afterReset cause number pins).inputCfg i = .default :=
  Vector.getElem_replicate _

theorem afterReset_outputCfg (cause : ResetCause) (number : StationNo) (pins : Vector Level 4) (o : Fin 4) :
    (State.afterReset cause number pins).outputCfg o = .default :=
  Vector.getElem_replicate _

theorem afterReset_outputActive (cause : ResetCause) (number : StationNo) (pins : Vector Level 4) (o : Fin 4) :
    (State.afterReset cause number pins).outputActive o = false := by
  unfold State.outputActive
  rw [afterReset_outputCfg]
  rfl

theorem afterReset_outputPin (cause : ResetCause) (number : StationNo) (pins : Vector Level 4) (o : Fin 4) :
    (State.afterReset cause number pins).outputPin o = .low := by
  unfold State.outputPin
  rw [afterReset_outputCfg, afterReset_outputActive]
  rfl

/-- Settles O26: the defaults of every block, read off the state that a reset leaves. -/
theorem resetLeavesTheTableOfValues : Obligations.ResetLeavesTheTableOfValues := by
  intro cause number pins
  refine ⟨rfl, rfl, rfl, rfl, rfl, rfl, fun i => ?slots, rfl, rfl, fun i => ?inputs, fun o => ?outputs, rfl, rfl, rfl, rfl, rfl,
    rfl, rfl, rfl, rfl⟩
  case slots =>
    rw [afterReset_slot]
    exact ⟨rfl, rfl, rfl, rfl, rfl, rfl, rfl, rfl, rfl, rfl, rfl⟩
  case inputs =>
    rw [afterReset_inputCfg, afterReset_input]
    exact ⟨rfl, rfl, rfl⟩
  case outputs => exact ⟨afterReset_outputCfg .., afterReset_outputActive .., afterReset_outputPin ..⟩

end Sys2Proof.Machine
end

section
/-! Commands and events as answers: what a row that has run its body, or its effect, makes of the station, the port and the
auto-sleep timer aside (R165 to R169, R179). -/

namespace Sys2Proof.Machine

/-! ### Fields under the end of a row -/

@[simp] theorem output_settle (s : State) (o : Fin 4) : s.settle.output o = s.output o := by simp [State.output]
@[simp] theorem outputCfg_settle (s : State) (o : Fin 4) : s.settle.outputCfg o = s.outputCfg o := by simp [State.outputCfg]

@[simp] theorem setLast_cfg (s : State) (c : Code) : (s.setLast c).cfg = s.cfg := rfl
@[simp] theorem setLast_lif (s : State) (c : Code) : (s.setLast c).lif = s.lif := rfl
@[simp] theorem setLast_rnd (s : State) (c : Code) : (s.setLast c).rnd = s.rnd := rfl
@[simp] theorem setLast_mbr (s : State) (c : Code) : (s.setLast c).mbr = s.mbr := rfl
@[simp] theorem setLast_slots (s : State) (c : Code) : (s.setLast c).slots = s.slots := rfl
@[simp] theorem setLast_flg (s : State) (c : Code) : (s.setLast c).flg = s.flg := rfl
@[simp] theorem setLast_hlt (s : State) (c : Code) : (s.setLast c).hlt = s.hlt := rfl
@[simp] theorem setLast_pin (s : State) (c : Code) : (s.setLast c).pin = s.pin := rfl
@[simp] theorem setLast_log (s : State) (c : Code) : (s.setLast c).log = s.log := rfl
@[simp] theorem setLast_ntf (s : State) (c : Code) : (s.setLast c).ntf = s.ntf := rfl
@[simp] theorem setLast_tsc (s : State) (c : Code) : (s.setLast c).tsc = s.tsc := rfl
@[simp] theorem slot_setLast (s : State) (c : Code) (i : SlotNo) : (s.setLast c).slot i = s.slot i := rfl
@[simp] theorem input_setLast (s : State) (c : Code) (i : Fin 4) : (s.setLast c).input i = s.input i := rfl
@[simp] theorem inputCfg_setLast (s : State) (c : Code) (i : Fin 4) : (s.setLast c).inputCfg i = s.inputCfg i := rfl
@[simp] theorem output_setLast (s : State) (c : Code) (o : Fin 4) : (s.setLast c).output o = s.output o := rfl
@[simp] theorem outputCfg_setLast (s : State) (c : Code) (o : Fin 4) : (s.setLast c).outputCfg o = s.outputCfg o := rfl

/-! ### Events -/

/-- An event whose effect leaves timebase and sleep control alone touches, once the auto-sleep timer is settled, the blocks of
its effect alone. -/
theorem Frame.only {touched : List Block} {s u : State} (h : Frame touched s u) (ht : touched.contains .tsc = false) :
    Only touched s u.settle :=
  ⟨TscQuiet.trans (Or.inl (h.tsc_eq ht)) (settle_tsc u), h.then (frame_settle u) (by simp) (by simp)⟩

theorem Only.mono {a c : List Block} {s t : State} (h : Only a s t) (hc : a ⊆ c) : Only c s t :=
  ⟨h.1, h.2.mono (List.cons_subset_cons _ hc)⟩

theorem Only.refl (touched : List Block) (s : State) : Only touched s s := ⟨Or.inl rfl, Frame.refl _ s⟩

/-- The same where the effect may touch timebase and sleep control. -/
theorem Frame.settled {touched : List Block} {s u : State} (h : Frame touched s u) (ht : touched.contains .tsc = true) :
    Frame touched s u.settle :=
  h.comp ((frame_settle u).mono (by simpa using ht))

/-! ### Commands -/

/-- The station as the body of a command finds it: `s`, but for the port and the auto-sleep timer. -/
theorem Deselected.same {s u : State} {data : List Byte} (h : Deselected s u data) :
    ∃ cmd tsc, u = (s.setCmd cmd).setTsc tsc ∧ tsc.time = s.tsc.time := by
  have hf := h.frame
  have hu : u = (s.setCmd u.cmd).setTsc u.tsc := by
    obtain ⟨cfg, lif, rnd, mbr, slots, flg, hlt, pin, log, ntf, cmd, tsc, bus, spi, pending⟩ := u
    obtain rfl := hf.cfg_eq rfl
    obtain rfl := hf.lif_eq rfl
    obtain rfl := hf.rnd_eq rfl
    obtain rfl := hf.mbr_eq rfl
    obtain rfl := hf.slots_eq rfl
    obtain rfl := hf.flg_eq rfl
    obtain rfl := hf.hlt_eq rfl
    obtain rfl := hf.pin_eq rfl
    obtain rfl := hf.log_eq rfl
    obtain rfl := hf.ntf_eq rfl
    obtain rfl := hf.bus_eq rfl
    obtain rfl := hf.spi_eq rfl
    obtain rfl := hf.pending_eq rfl
    rfl
  refine ⟨u.cmd, u.tsc, hu, ?_⟩
  rcases h.quiet with hq | hq <;> rw [hq]

/-- What a write command taken in ACTIVE answers, by its body: the station as the body finds it, and the body's outcome
recorded. -/
theorem command_answers {c : Instr} {opcode : Byte} {ops : List Byte} {s : State} {body : State → State × Code}
    (hexec : exec c s = done (s.command c body)) (hlead : leadBytes c = opcode :: ops) (hdata : dataBytes c = 0)
    (hw : 0x10 ≤ opcode.toNat) (hp : PortActive c s) :
    ∃ cmd tsc, tsc.time = s.tsc.time
      ∧ Deselected s ((s.setCmd cmd).setTsc tsc) (List.replicate ops.length 0#8)
      ∧ exec c s = .next ((body ((s.setCmd cmd).setTsc tsc)).1.setLast (body ((s.setCmd cmd).setTsc tsc)).2).settle := by
  obtain ⟨u, hu, hd⟩ := command_write hlead hdata hw hp body
  obtain ⟨cmd, tsc, rfl, htime⟩ := hd.same
  exact ⟨cmd, tsc, htime, hd, by rw [hexec, hu]; rfl⟩

/-- A command that its body refuses. -/
theorem Deselected.refused {n : Nat} {s u : State} (c : Code) (hd : Deselected s u (List.replicate n 0#8)) :
    Refused n c s (u.setLast c).settle :=
  hd.wrote c (Frame.refl [] u) (by simp) (by simp)

/-- A slot operand of at most 31 names its slot. -/
theorem slotOf_val {slot : Byte} {i : SlotNo} (h : i.val = slot.toNat) : slotOf slot = some i := by
  have hlt : slot.toNat < 32 := h ▸ i.isLt
  simp only [slotOf, hlt, dif_pos, Option.some.injEq]
  exact Fin.ext h.symm

theorem slotOf_none {slot : Byte} (h : 32 ≤ slot.toNat) : slotOf slot = none := dif_neg (by omega)

/-! ### The request list of an answer -/

theorem Placed.of_place {c : Class} {n : Fin 32} {s t : State} (h : t.rnd.requests = placeEntry s.rnd.requests c n) :
    Placed c n s t := by
  rw [Placed, h]
  exact findEntry_placeEntry_same _ _ _

theorem OtherEntries.of_place {c : Class} {n : Fin 32} {s t : State}
    (h : t.rnd = { s.rnd with requests := placeEntry s.rnd.requests c n }) : OtherEntries c n s t := by
  rw [OtherEntries, h]
  exact ⟨rfl, fun c' n' hne => findEntry_placeEntry_ne _ _ _ _ _ hne⟩

theorem OtherEntries.of_remove {c : Class} {n : Fin 32} {s t : State}
    (h : t.rnd = { s.rnd with requests := removeEntry s.rnd.requests c n }) : OtherEntries c n s t := by
  rw [OtherEntries, h]
  exact ⟨rfl, fun c' n' hne => findEntry_removeEntry_ne _ _ _ _ _ hne⟩

theorem OtherSlots.of_setSlot {i : SlotNo} {x : Slot} {s t : State} (h : t.slots = (s.setSlot i x).slots) :
    OtherSlots i s t := fun j hj => by
  rw [slot_eq_of_slots h]
  exact slot_setSlot_ne s i j x hj

end Sys2Proof.Machine
end

section
/-! Records and events: what an offer and an event do to log and pending sets (R155, R161), and on what of the station that
depends. -/

namespace Sys2Proof.Machine

/-! ### The three outcomes of an offer -/

theorem offer_filtered {s : State} {k : Kind} (h : passes s.cfg k = false) (sel : Fin 32) (tag : Byte) (set : Set32) (v : Half) :
    s.offer k sel tag set v = s :=
  if_pos h

/-- The record that an offer appends (R155). -/
def State.recordOf (s : State) (k : Kind) (sel : Fin 32) (tag : Byte) (set : Set32) (v : Half) : Record :=
  { seq := s.log.next, kind := k, sel, tag, set, value := v, time := s.tsc.time }

theorem offer_appended {s : State} {k : Kind} (h : passes s.cfg k = true) (hroom : s.log.records.length < 16) (sel : Fin 32)
    (tag : Byte) (set : Set32) (v : Half) :
    s.offer k sel tag set v
      = (s.setLog { records := s.log.records ++ [s.recordOf k sel tag set v], next := s.log.next + 1 }).raise .record := by
  rw [State.offer, if_neg (by simp [h]), if_pos (show _ < Config.logCapacity from hroom)]
  rfl

theorem offer_dropped {s : State} {k : Kind} (h : passes s.cfg k = true) (hfull : 16 ≤ s.log.records.length) (sel : Fin 32)
    (tag : Byte) (set : Set32) (v : Half) :
    s.offer k sel tag set v = (s.setLog { s.log with next := s.log.next + 1 }).raise .overrun := by
  rw [State.offer, if_neg (by simp [h]), if_neg (show ¬_ < Config.logCapacity from Nat.not_lt.mpr hfull)]

/-- Settles O8: the three outcomes of an offer, and an event's latching into the pending sets. -/
theorem recordsAndEventsAreReported : Obligations.RecordsAndEventsAreReported := by
  refine ⟨fun s k sel tag set v => ⟨fun h => offer_filtered h sel tag set v, fun h => ?offered⟩,
    fun s => ⟨fun e => ⟨rfl, rfl, rfl, rfl, frame_raise s e⟩, fun i => ⟨rfl, rfl, rfl, rfl, frame_raiseSlot s i⟩⟩,
    fun s i k tag set v => ⟨fun h => ?logged, fun h => ?unlogged⟩, fun s i r => ⟨fun h => ?progress, fun h => ?noProgress⟩⟩
  case offered =>
    have hpass : passes s.cfg k = true := h
    refine ⟨frame_offer s k sel tag set v, ?_, fun hroom => ?_, fun hfull => ?_⟩
    · rcases Nat.lt_or_ge s.log.records.length 16 with hroom | hfull
      · rw [offer_appended hpass hroom]
        rfl
      · rw [offer_dropped hpass hfull]
        rfl
    · rw [offer_appended hpass hroom]
      exact ⟨rfl, rfl⟩
    · rw [offer_dropped hpass hfull]
      exact ⟨rfl, rfl⟩
  case logged => rw [State.offerSlot, if_pos h]
  case unlogged => rw [State.offerSlot, if_neg (by simp [h])]
  case progress => exact if_pos h
  case noProgress => exact if_neg (by simp [h])

/-! ### What a report depends on -/

/-- What a report reads and writes is the same: filter, log, pending sets and station time. -/
structure Reporting (s t : State) : Prop where
  cfg : t.cfg = s.cfg
  log : t.log = s.log
  ntf : t.ntf = s.ntf
  time : t.tsc.time = s.tsc.time

theorem Reporting.of_frame {touched : List Block} {s t : State} (h : Frame touched s t)
    (ht : touched.contains .cfg = false ∧ touched.contains .log = false ∧ touched.contains .ntf = false
      ∧ touched.contains .tsc = false) : Reporting s t :=
  ⟨h.cfg_eq ht.1, h.log_eq ht.2.1, h.ntf_eq ht.2.2.1, by rw [h.tsc_eq ht.2.2.2]⟩

theorem Reporting.trans {s t u : State} (hst : Reporting s t) (htu : Reporting t u) : Reporting s u :=
  ⟨htu.cfg.trans hst.cfg, htu.log.trans hst.log, htu.ntf.trans hst.ntf, htu.time.trans hst.time⟩

theorem Reporting.raise {s t : State} (h : Reporting s t) (e : Event) : Reporting (s.raise e) (t.raise e) :=
  ⟨h.cfg, h.log, by simp only [State.raise, setNtf_ntf, h.ntf], h.time⟩

theorem Reporting.setLog {s t : State} (h : Reporting s t) (x : Log) : Reporting (s.setLog x) (t.setLog x) :=
  ⟨h.cfg, rfl, h.ntf, h.time⟩

theorem Reporting.offer {s t : State} (h : Reporting s t) (k : Kind) (sel : Fin 32) (tag : Byte) (set : Set32) (v : Half) :
    Reporting (s.offer k sel tag set v) (t.offer k sel tag set v) := by
  unfold State.offer
  rw [h.cfg, h.log, h.time]
  split
  · exact h
  · split
    · exact (h.setLog _).raise .record
    · exact (h.setLog _).raise .overrun

theorem Reporting.raiseSlot {s t : State} (h : Reporting s t) {i : SlotNo} (hi : (t.slot i).cfg = (s.slot i).cfg) :
    Reporting (s.raiseSlot i) (t.raiseSlot i) :=
  ⟨h.cfg, h.log, by simp only [State.raiseSlot, setNtf_ntf, h.ntf, hi], h.time⟩

theorem Reporting.offerSlot {s t : State} (h : Reporting s t) {i : SlotNo} (hi : (t.slot i).cfg = (s.slot i).cfg) (k : Kind)
    (tag : Byte) (set : Set32) (v : Half) : Reporting (s.offerSlot i k tag set v) (t.offerSlot i k tag set v) := by
  unfold State.offerSlot
  rw [hi]
  split
  · exact (h.offer k i tag set v).raiseSlot (by simpa using hi)
  · exact h.raiseSlot hi

theorem Reporting.reports {s t : State} {k : Kind} {sel : Fin 32} {tag : Byte} {set : Set32} {v : Half} {e : Event}
    (h : Reporting ((s.offer k sel tag set v).raise e) t) : Reports s t k sel tag set v e :=
  ⟨h.log, h.ntf⟩

theorem Reporting.reportsSlot {s t : State} {i : SlotNo} {k : Kind} {tag : Byte} {set : Set32} {v : Half}
    (h : Reporting (s.offerSlot i k tag set v) t) : ReportsSlot s t i k tag set v :=
  ⟨h.log, h.ntf⟩

theorem Reporting.settle (s : State) : Reporting s s.settle := by
  refine ⟨settle_cfg s, settle_log s, settle_ntf s, ?_⟩
  rcases settle_tsc s with h | h <;> rw [h]

theorem Reporting.setLast (s : State) (c : Code) : Reporting s (s.setLast c) := ⟨rfl, rfl, rfl, rfl⟩

end Sys2Proof.Machine
end

section
/-! The commands of the slots: ARRIVE, WITHDRAW and CLEAR SLOT (R74, R75, R79, R80, R85). -/

namespace Sys2Proof.Machine

/-! ### ARRIVE -/

theorem attempt_refused {s : State} {i : SlotNo} {c : Code} (h : s.arrivalTest i = c) (hc : c ≠ .ok) (v : Half) (src : Source) :
    s.attempt i v src = (s, c) := by
  rcases attempt_cases s i v src with ⟨hok, _⟩ | ⟨_, he⟩
  · exact absurd (h.symm.trans hok) hc
  · rw [he, h]

theorem attempt_taken {s : State} {i : SlotNo} (h : s.arrivalTest i = .ok) (v : Half) (src : Source) :
    s.attempt i v src = (s.takeArrival i v src, .ok) := by
  rcases attempt_cases s i v src with ⟨_, he⟩ | ⟨hne, _⟩
  · exact he
  · exact absurd h hne

@[simp] theorem takeArrival_rnd (s : State) (i : SlotNo) (v : Half) (src : Source) :
    (s.takeArrival i v src).rnd = { s.rnd with requests := placeEntry s.rnd.requests .arrive i } := rfl

@[simp] theorem takeArrival_slot (s : State) (i : SlotNo) (v : Half) (src : Source) :
    (s.takeArrival i v src).slot i
      = { (s.slot i).dropArrival with
          state := .waiting, arrival := some { value := v, source := src, time := s.tsc.time } } := by
  simp [State.takeArrival]

theorem requiredNow_fixed {s : State} {i : SlotNo} (h : (s.slot i).cfg.participation = .fixed) :
    s.requiredNow i = (s.slot i).cfg.mask := by
  simp only [State.requiredNow, h]

theorem requiredNow_roster {s : State} {i : SlotNo} (h : (s.slot i).cfg.participation = .roster) :
    s.requiredNow i = s.mbr.roster := by
  simp only [State.requiredNow, h]

/-- Settles O18: the tests of an arrival attempt in their order, and the arrival that passes them. -/
theorem arriveIsTakenOrRefusedInOrder : Obligations.ArriveIsTakenOrRefusedInOrder := by
  refine ⟨fun slot value s hp => ?_, fun s i => ⟨requiredNow_fixed, requiredNow_roster⟩⟩
  obtain ⟨cmd, tsc, htime, hd, he⟩ := command_answers (c := .arrive slot value) rfl rfl rfl (by decide) hp
  refine ⟨_, he, fun h => ?_, fun i hi => ?_⟩
  · simp only [slotOf_none h]
    exact hd.refused .operand
  · simp only [slotOf_val hi]
    have htest : ∀ c, ((s.setCmd cmd).setTsc tsc).arrivalTest i = c → c ≠ .ok →
        Refused 3 c s ((((s.setCmd cmd).setTsc tsc).attempt i value .command).1.setLast
          (((s.setCmd cmd).setTsc tsc).attempt i value .command).2).settle := fun c h hc => by
      rw [attempt_refused h hc]
      exact hd.refused c
    split_ifs with hm hen hfault hhalt hmem hwait
    · exact htest .state (if_pos hm) (by decide)
    · exact htest .operand ((if_neg hm).trans (if_pos hen)) (by decide)
    · exact htest .state (((if_neg hm).trans (if_neg hen)).trans (if_pos hfault)) (by decide)
    · exact htest .halted ((((if_neg hm).trans (if_neg hen)).trans (if_neg hfault)).trans (if_pos hhalt)) (by decide)
    · have hno : ¬s.MemberOf i := by simpa using hmem
      exact htest .notMember
        (((((if_neg hm).trans (if_neg hen)).trans (if_neg hfault)).trans (if_neg hhalt)).trans (if_pos hno)) (by decide)
    all_goals
      have hyes : ¬¬s.MemberOf i := by simpa using hmem
      have hsofar : ((s.setCmd cmd).setTsc tsc).arrivalTest i = if (s.slot i).state = .waiting then .already else .ok :=
        ((((if_neg hm).trans (if_neg hen)).trans (if_neg hfault)).trans (if_neg hhalt)).trans (if_neg hyes)
    · exact htest .already (hsofar.trans (if_pos hwait)) (by decide)
    · rw [attempt_taken (hsofar.trans (if_neg hwait))]
      refine ⟨by simp [htime, Slot.dropArrival], .of_setSlot (by simp; rfl), .of_place (by simp), .of_place (by simp),
        hd.wrote .ok (frame_takeArrival _ i value .command) (by decide) (by decide)⟩

end Sys2Proof.Machine
end

section
/-! The commands of the slots, continued: WITHDRAW and CLEAR SLOT (R79, R80, R85, R144). -/

namespace Sys2Proof.Machine

/-! ### Withdrawals -/

/-- Disarming looks at the pin unit alone (R144). -/
theorem disarm_pin_congr {s t : State} (h : t.pin = s.pin) (k : Fin 4) : (t.disarm k).pin = (s.disarm k).pin := by
  have hin : ∀ k, t.input k = s.input k := fun k => by simp only [State.input, h]
  have hcfg : ∀ k, t.inputCfg k = s.inputCfg k := fun k => by simp only [State.inputCfg, h]
  unfold State.disarm State.LevelArmed State.InputActive
  rw [hin, hcfg]
  split
  · simp only [State.setInput, setPin_pin, h]
  · exact h

theorem disarmSource_pin_congr {s t : State} (h : t.pin = s.pin) (a : Option Arrival) :
    (t.disarmSource a).pin = (s.disarmSource a).pin := by
  unfold State.disarmSource
  split
  · exact disarm_pin_congr h _
  · exact h

@[simp] theorem removeArrival_rnd (s : State) (i : SlotNo) :
    (s.removeArrival i).rnd = { s.rnd with requests := removeEntry s.rnd.requests .arrive i } := by
  simp [State.removeArrival]

theorem removeArrival_pin (s : State) (i : SlotNo) : (s.removeArrival i).pin = (s.disarmSource (s.slot i).arrival).pin :=
  disarmSource_pin_congr (by rfl) _

theorem withdrawNow_slot (s : State) (i : SlotNo) (k : Kind) :
    (s.withdrawNow i k).slot i = { (s.slot i).dropArrival with state := .ready } := by
  rw [State.withdrawNow, slot_offerSlot, removeArrival_slot]

@[simp] theorem withdrawNow_rnd (s : State) (i : SlotNo) (k : Kind) :
    (s.withdrawNow i k).rnd = { s.rnd with requests := removeEntry s.rnd.requests .arrive i } := by
  simp [State.withdrawNow]

theorem withdrawNow_pin (s : State) (i : SlotNo) (k : Kind) :
    (s.withdrawNow i k).pin = (s.disarmSource (s.slot i).arrival).pin := by
  simp [State.withdrawNow, removeArrival_pin]

/-- What a withdrawal reports (R79, R81). -/
theorem withdrawNow_reporting (s : State) (i : SlotNo) (k : Kind) :
    Reporting (s.offerSlot i k ((s.slot i).epoch.setWidth 8) (s.slot i).lastSeen (s.slot i).arrivalValue) (s.withdrawNow i k) :=
  (Reporting.of_frame (frame_removeArrival s i) ⟨rfl, rfl, rfl, rfl⟩).offerSlot (by rw [removeArrival_slot]; rfl) _ _ _ _

theorem reporting_same {s : State} (cmd : Cmd) {tsc : Tsc} (h : tsc.time = s.tsc.time) :
    Reporting s ((s.setCmd cmd).setTsc tsc) :=
  ⟨rfl, rfl, rfl, h⟩

/-- Settles O19: the tests of WITHDRAW in their order, the deferral of a committed arrival, and the withdrawal. -/
theorem withdrawTakesEffectOrIsPending : Obligations.WithdrawTakesEffectOrIsPending := by
  intro slot s hp
  obtain ⟨cmd, tsc, htime, hd, he⟩ := command_answers (c := .withdraw slot) rfl rfl rfl (by decide) hp
  refine ⟨_, he, fun h => ?_, fun i hi => ?_⟩
  · simp only [slotOf_none h]
    exact hd.refused .operand
  · simp only [slotOf_val hi]
    unfold State.withdrawCommand
    dsimp only [slot_setTsc, slot_setCmd]
    split_ifs with hen hwait hpend hcom
    · exact hd.refused .operand
    · exact hd.refused .state
    · exact hd.refused .already
    · exact ⟨by simp, .of_setSlot (by simp; rfl), hd.wrote .pending (frame_setSlot _ i _) (by decide) (by decide)⟩
    · refine ⟨by simp [withdrawNow_slot], fun j hj => by simp [withdrawNow_other _ _ hj], ?_, .of_remove (by simp), ?_, ?_,
        hd.wrote .ok (frame_withdrawNow _ i .withdrawn) (by decide) (by decide)⟩
      · simp [hasEntry_removeEntry_same]
      · exact ((((reporting_same cmd htime).offerSlot rfl _ _ _ _).trans (withdrawNow_reporting _ i .withdrawn)).trans
          ((Reporting.setLast _ _).trans (.settle _))).reportsSlot
      · simp only [settle_pin, setLast_pin, withdrawNow_pin]
        exact disarmSource_pin_congr (s := s) (by rfl) _

/-! ### CLEAR SLOT -/

/-- Every input after the walk over the inputs: what its own turn makes of it. -/
theorem forInputs_input {f : Fin 4 → State → State} {g : InputConfig → Input → Input}
    (hcfg : ∀ k t, (f k t).pin.cfg = t.pin.cfg) (hsame : ∀ k t, (f k t).input k = g (t.inputCfg k) (t.input k))
    (hother : ∀ k j t, j ≠ k → (f k t).input j = t.input j) (s : State) :
    (forInputs f s).pin.cfg = s.pin.cfg ∧ ∀ k, (forInputs f s).input k = g (s.inputCfg k) (s.input k) := by
  refine forInputs_each f (fun t => t.pin.cfg = s.pin.cfg) (fun k t => t.input k = s.input k)
    (fun k t => t.input k = g (s.inputCfg k) (s.input k)) (fun k t ht => (hcfg k t).trans ht) (fun k t ht hk => ?_)
    (fun k j t hj _ hk => (hother j k t hj.symm).trans hk) (fun k j t hj _ hk => (hother j k t hj.symm).trans hk) s rfl
    fun _ => rfl
  rw [hsame, hk, State.inputCfg, ht]
  rfl

/-- What is left of an input's running state when it is disarmed (R144). -/
def Input.disarmed (x : Input) : Input := { x with armed := false }

theorem disarm_input_same (s : State) (k : Fin 4) :
    (s.disarm k).input k = if s.LevelArmed k ∧ s.InputActive k then (s.input k).disarmed else s.input k := by
  unfold State.disarm
  split
  · exact input_setInput_same s k _
  · rfl

theorem disarm_input_other (s : State) {k j : Fin 4} (h : j ≠ k) : (s.disarm k).input j = s.input j := by
  unfold State.disarm
  split
  · exact input_setInput_ne s k j _ h
  · rfl

/-- What a CLEAR SLOT on slot `i` makes of an input of configuration `c` (R144). -/
def clearedInput (i : SlotNo) (c : InputConfig) (x : Input) : Input :=
  if c.binding = .arrive ∧ low5 c.target = i ∧ c.detection.isLevel = true ∧ x.filtered = c.detection.active then x.disarmed
  else x

theorem disarmBound_input_same (i : SlotNo) (k : Fin 4) (s : State) :
    (State.disarmBound i k s).input k = clearedInput i (s.inputCfg k) (s.input k) := by
  unfold State.disarmBound clearedInput
  split
  · rename_i h
    rw [disarm_input_same]
    simp [State.LevelArmed, State.InputActive, h]
  · rename_i h
    rw [if_neg fun hc => h ⟨hc.1, hc.2.1⟩]

theorem disarmBound_input_other (i : SlotNo) (k j : Fin 4) (s : State) (h : j ≠ k) :
    (State.disarmBound i k s).input j = s.input j := by
  unfold State.disarmBound
  split
  · exact disarm_input_other s h
  · rfl

theorem disarm_outputs (s : State) (k : Fin 4) : (s.disarm k).pin.outputs = s.pin.outputs := by
  unfold State.disarm
  split <;> rfl

theorem disarmBound_pin (i : SlotNo) (k : Fin 4) (s : State) :
    (State.disarmBound i k s).pin.cfg = s.pin.cfg ∧ (State.disarmBound i k s).pin.outputs = s.pin.outputs := by
  unfold State.disarmBound
  split
  · exact ⟨disarm_pinCfg s k, disarm_outputs s k⟩
  · exact ⟨rfl, rfl⟩

theorem forInputs_disarmBound (i : SlotNo) (s : State) :
    let t := forInputs (State.disarmBound i) s
    t.slots = s.slots ∧ t.pin.cfg = s.pin.cfg ∧ t.pin.outputs = s.pin.outputs
      ∧ ∀ k, t.input k = clearedInput i (s.inputCfg k) (s.input k) := by
  obtain ⟨hcfg, hinput⟩ := forInputs_input (fun k t => (disarmBound_pin i k t).1) (disarmBound_input_same i)
    (disarmBound_input_other i) s
  exact ⟨(frame_forInputs _ (frame_disarmBound i) s).slots_eq rfl, hcfg,
    forInputs_keeps (fun t => t.pin.outputs = s.pin.outputs) _ (fun k t h => (disarmBound_pin i k t).2.trans h) s rfl, hinput⟩

/-- Settles O20: the tests of CLEAR SLOT in their order, and the return to READY. -/
theorem clearSlotReturnsAFaultToReady : Obligations.ClearSlotReturnsAFaultToReady := by
  intro slot s hp
  obtain ⟨cmd, tsc, htime, hd, he⟩ := command_answers (c := .clearSlot slot) rfl rfl rfl (by decide) hp
  refine ⟨_, he, fun h => ?_, fun i hi => ?_⟩
  · simp only [slotOf_none h]
    exact hd.refused .operand
  · simp only [slotOf_val hi]
    unfold State.clearCommand
    dsimp only [slot_setTsc, slot_setCmd]
    split_ifs with hen hfault
    · exact hd.refused .operand
    · exact hd.refused .state
    · dsimp only
      obtain ⟨hslots, hcfg, houtputs, hinputs⟩ := forInputs_disarmBound i
        (((s.setCmd cmd).setTsc tsc).setSlot i { s.slot i with state := .ready, sync := .unsynced, lastSeen := 0#32 })
      refine ⟨?_, fun j hj => ?_, ?_, ?_, fun k => ?_, hd.wrote .ok (frame_clearing _ i _) (by decide) (by decide)⟩
      · rw [slot_settle, slot_setLast, slot_eq_of_slots hslots, slot_setSlot_same]
      · rw [slot_settle, slot_setLast, slot_eq_of_slots hslots, slot_setSlot_ne _ _ _ _ hj]
        rfl
      · rw [settle_pin, setLast_pin, hcfg]
        rfl
      · rw [settle_pin, setLast_pin, houtputs]
        rfl
      · rw [input_settle, input_setLast, hinputs]
        rfl

end Sys2Proof.Machine
end

section
/-! The commands of the flag unit and the halt unit: SET FLAGS, CLEAR FLAGS, HALT and RESUME (R113, R114, R125, R126, R132). -/

namespace Sys2Proof.Machine

/-! ### Flag requests -/

theorem syncFlagsEntry_rnd (s : State) :
    s.syncFlagsEntry.rnd
      = if s.flg.Quiet then { s.rnd with requests := removeEntry s.rnd.requests .flags 0 }
        else { s.rnd with requests := placeEntry s.rnd.requests .flags 0 } := by
  unfold State.syncFlagsEntry
  split <;> rfl

/-- Once the flag unit's requests are `f` and the FLAGS entry follows them (R114). -/
structure FlagsAsked (f : Flg) (s t : State) : Prop where
  flg : t.flg = f
  placed : t.flg.setReq ||| t.flg.clearReq ≠ 0#32 → Placed .flags 0 s t
  removed : t.flg.setReq ||| t.flg.clearReq = 0#32 → hasEntry t.rnd.requests .flags 0 = false
  others : OtherEntries .flags 0 s t

theorem FlagsAsked.of_sync {f : Flg} {s t : State} (hflg : t.flg = f) (hrnd : t.rnd = ((s.setFlg f).syncFlagsEntry).rnd) :
    FlagsAsked f s t := by
  have hquiet : f.Quiet → t.rnd = { s.rnd with requests := removeEntry s.rnd.requests .flags 0 } := fun hq => by
    rw [hrnd, syncFlagsEntry_rnd]
    exact if_pos hq
  have hasked : ¬f.Quiet → t.rnd = { s.rnd with requests := placeEntry s.rnd.requests .flags 0 } := fun hq => by
    rw [hrnd, syncFlagsEntry_rnd]
    exact if_neg hq
  refine ⟨hflg, fun h => ?_, fun h => ?_, ?_⟩
  · rw [hflg] at h
    exact .of_place (by rw [hasked h])
  · rw [hflg] at h
    rw [hquiet h]
    exact hasEntry_removeEntry_same _ _ _
  · by_cases hq : f.Quiet
    · exact .of_remove (hquiet hq)
    · exact .of_place (hasked hq)

/-- A command that changes the flag unit's requests by `ask` (R113). -/
theorem command_asks {c : Instr} {opcode b₃ b₂ b₁ b₀ : Byte} {ask : Flg → Flg} {s : State}
    (hexec : exec c s = done (s.command c fun t =>
      if t.mbr.membership = .online then
        (if t.mbr.membership = .online then (t.setFlg (ask t.flg)).syncFlagsEntry else t, .ok)
      else (t, .state)))
    (hlead : leadBytes c = [opcode, b₃, b₂, b₁, b₀]) (hdata : dataBytes c = 0) (hw : 0x10 ≤ opcode.toNat)
    (hp : PortActive c s) :
    ∃ t, exec c s = .next t ∧ (s.mbr.membership ≠ .online → Refused 4 .state s t)
      ∧ (s.mbr.membership = .online → FlagsAsked (ask s.flg) s t ∧ Wrote 4 .ok [.flg, .rnd] s t) := by
  obtain ⟨cmd, tsc, htime, hd, he⟩ := command_answers hexec hlead hdata hw hp
  refine ⟨_, he, fun h => ?_, fun h => ?_⟩
  · have hoff : ¬((s.setCmd cmd).setTsc tsc).mbr.membership = .online := h
    simp only [if_neg hoff]
    exact hd.refused .state
  · have hon : ((s.setCmd cmd).setTsc tsc).mbr.membership = .online := h
    simp only [if_pos hon]
    have hframe : Frame [.flg, .rnd] ((s.setCmd cmd).setTsc tsc)
        (((s.setCmd cmd).setTsc tsc).setFlg (ask ((s.setCmd cmd).setTsc tsc).flg)).syncFlagsEntry :=
      (frame_setFlg _ _).then (frame_syncFlagsEntry _) (by simp) (by simp)
    refine ⟨.of_sync ?_ ?_, hd.wrote .ok hframe (by decide) (by decide)⟩
    · rw [settle_flg, setLast_flg, (frame_syncFlagsEntry _).flg_eq rfl]
      rfl
    · rw [settle_rnd, setLast_rnd, syncFlagsEntry_rnd, syncFlagsEntry_rnd]
      rfl

/-- Settles O21: both commands change the requests and let the FLAGS entry follow. -/
theorem flagCommandsMoveRequests : Obligations.FlagCommandsMoveRequests := by
  refine fun m s => ⟨fun hp => ?_, fun hp => ?_⟩
  · obtain ⟨t, ht, hrefused, htaken⟩ :=
      command_asks (c := .setFlags m) (ask := fun f => f.askSet m) rfl rfl rfl (by decide) hp
    refine ⟨t, ht, hrefused, fun h => ?_⟩
    obtain ⟨hasked, hwrote⟩ := htaken h
    exact ⟨hasked.flg, hasked.placed, hasked.removed, hasked.others, hwrote⟩
  · obtain ⟨t, ht, hrefused, htaken⟩ :=
      command_asks (c := .clearFlags m) (ask := fun f => f.askClear m) rfl rfl rfl (by decide) hp
    refine ⟨t, ht, hrefused, fun h => ?_⟩
    obtain ⟨hasked, hwrote⟩ := htaken h
    exact ⟨hasked.flg, hasked.placed, hasked.removed, hasked.others, hwrote⟩

/-! ### HALT and RESUME -/

/-- The request that a source leaves: the lower cause (R125). -/
theorem requestHalt_hlt (s : State) (cause : Half) :
    (s.requestHalt cause).hlt = { s.hlt with request := some (lowerCause s.hlt.request cause) } := by
  unfold State.requestHalt lowerCause
  cases s.hlt.request <;> rfl

@[simp] theorem requestHalt_rnd (s : State) (cause : Half) :
    (s.requestHalt cause).rnd = { s.rnd with requests := placeEntry s.rnd.requests .halt 0 } := rfl

theorem commandHalt_running {s : State} (h : s.hlt.condition = .running) (cause : Half) :
    s.commandHalt cause
      = (s.requestHalt cause).setHlt { (s.requestHalt cause).hlt with commandHold := true } := by
  simp only [State.commandHalt, h]

theorem commandHalt_halted {s : State} (h : s.hlt.condition = .halted) (cause : Half) :
    s.commandHalt cause
      = s.setHlt { s.hlt with commandHold := true, heldCause := some (lowerCause s.hlt.heldCause cause) } := by
  simp only [State.commandHalt, h]

/-- Settles O22: HALT by the station's condition, and RESUME. -/
theorem haltAndResumeCommandsMakeTheirRequests : Obligations.HaltAndResumeCommandsMakeTheirRequests := by
  refine ⟨fun cause s hp => ?halt, fun s hp => ?resume⟩
  case halt =>
    obtain ⟨cmd, tsc, htime, hd, he⟩ := command_answers (c := .halt cause) rfl rfl rfl (by decide) hp
    refine ⟨_, he, ?_⟩
    have hzero : (cause.toNat = 0) = (cause = 0#16) :=
      propext ⟨fun h => BitVec.eq_of_toNat_eq h, fun h => by rw [h]; rfl⟩
    by_cases hcause : cause = 0#16 ∨ 0x8000 ≤ cause.toNat
    · have hcode : cause.toNat = 0 ∨ 0x8000 ≤ cause.toNat := hzero ▸ hcause
      rw [if_pos hcause, if_pos hcode]
      exact hd.refused .operand
    have hcode : ¬(cause.toNat = 0 ∨ 0x8000 ≤ cause.toNat) := hzero ▸ hcause
    rw [if_neg hcause, if_neg hcode]
    by_cases hmem : s.mbr.membership ≠ .online
    · have hno : ((s.setCmd cmd).setTsc tsc).mbr.membership ≠ .online := hmem
      rw [if_pos hmem, if_pos hno]
      exact hd.refused .state
    have hyes : ¬((s.setCmd cmd).setTsc tsc).mbr.membership ≠ .online := hmem
    rw [if_neg hmem, if_neg hyes]
    have hw := hd.wrote .ok (frame_commandHalt ((s.setCmd cmd).setTsc tsc) cause) (by decide) (by decide)
    cases hcond : s.hlt.condition with
    | running =>
      rw [if_pos rfl]
      refine ⟨?_, .of_place ?_, .of_place ?_, hw⟩
      all_goals rw [commandHalt_running (s := (s.setCmd cmd).setTsc tsc) hcond]
      · rw [settle_hlt, setLast_hlt, setHlt_hlt, requestHalt_hlt, setTsc_hlt, setCmd_hlt]
        cases s.hlt.request <;> rfl
      · simp
      · simp
    | halted =>
      rw [if_neg (by simp)]
      rw [commandHalt_halted (s := (s.setCmd cmd).setTsc tsc) hcond]
      refine ⟨?_, hd.wrote .ok (frame_setHlt _ _) (by decide) (by decide)⟩
      rw [settle_hlt, setLast_hlt, setHlt_hlt, setTsc_hlt, setCmd_hlt]
      cases s.hlt.heldCause <;> rfl
  case resume =>
    obtain ⟨cmd, tsc, htime, hd, he⟩ := command_answers (c := .resume) rfl rfl rfl (by decide) hp
    refine ⟨_, he, fun h => ?_, fun h => ?_⟩
    · have hno : ¬(((s.setCmd cmd).setTsc tsc).mbr.membership = .online
          ∧ ((s.setCmd cmd).setTsc tsc).hlt.condition = .halted) := h
      simp only [if_neg hno]
      exact hd.refused .state
    · have hyes : ((s.setCmd cmd).setTsc tsc).mbr.membership = .online
          ∧ ((s.setCmd cmd).setTsc tsc).hlt.condition = .halted := h
      simp only [if_pos hyes]
      exact ⟨by simp [State.askResume], .of_place (by simp [State.askResume]), .of_place (by simp [State.askResume]),
        hd.wrote .ok (frame_askResume _) (by decide) (by decide)⟩

end Sys2Proof.Machine
end

section
/-! The formats of ch. 12 read back: words and their bytes, bit fields of a byte, the commands of the port and the three
configurations. -/

namespace Sys2Proof.Machine

/-! ### Words and their bytes -/

theorem half_parts (x : Half) : half (x.extractLsb' 8 8) (x.extractLsb' 0 8) = x := by
  rw [half, BitVec.extractLsb'_append_extractLsb'_eq_extractLsb' (by rfl)]
  simp

theorem word_parts (x : Word) :
    word (x.extractLsb' 24 8) (x.extractLsb' 16 8) (x.extractLsb' 8 8) (x.extractLsb' 0 8) = x := by
  rw [word, BitVec.extractLsb'_append_extractLsb'_eq_extractLsb' (by rfl),
    BitVec.extractLsb'_append_extractLsb'_eq_extractLsb' (by rfl),
    BitVec.extractLsb'_append_extractLsb'_eq_extractLsb' (by rfl)]
  simp

/-! ### The commands of the port -/

/-- A transfer on a byte boundary that decodes carries a whole command (R168). -/
theorem judge_whole {i : Instr} {opcode : Byte} {rest : List Byte} (hnames : namesCommand opcode = true)
    (hdecode : decodeCommand opcode rest = some i) : judge (opcode :: rest) 0 = .whole i := by
  simp [judge, hnames, hdecode]

/-- The bytes of a well-formed command decode to it. -/
theorem decode_encode {i : Instr} {opcode : Byte} {rest : List Byte} (hwf : i.wellFormed = true)
    (h : encodeCommand i = some (opcode :: rest)) : decodeCommand opcode rest = some i := by
  cases i
  all_goals
    simp only [encodeCommand, Option.some.injEq, List.cons.injEq, reduceCtorEq] at h
  all_goals
    obtain ⟨rfl, rfl⟩ := h
    simp [decodeCommand, halfBytes, wordBytes, half_parts, word_parts]
  all_goals
    simpa [Instr.wellFormed] using hwf

theorem namesCommand_encode {i : Instr} {opcode : Byte} {rest : List Byte}
    (h : encodeCommand i = some (opcode :: rest)) : namesCommand opcode = true := by
  cases i
  all_goals
    simp only [encodeCommand, Option.some.injEq, List.cons.injEq, reduceCtorEq] at h
  all_goals
    obtain ⟨rfl, _⟩ := h
    decide

/-- Settles O5: the row's own code names a command and its bytes decode to the row. -/
theorem portReadsBackEveryCommand : Obligations.PortReadsBackEveryCommand := fun _ _ _ hwf h =>
  ⟨namesCommand_encode h, decode_encode hwf h, judge_whole (namesCommand_encode h) (decode_encode hwf h)⟩

/-! ### Bit fields of a byte -/

theorem bits_eq (b : Byte) (n width : Nat) : bits b n width = b.toNat / 2 ^ n % 2 ^ width := by
  rw [bits, BitVec.extractLsb'_toNat, Nat.shiftRight_eq_div_pow]

theorem bit_eq (b : Byte) (n : Nat) : bit b n = decide (b.toNat / 2 ^ n % 2 = 1) := by
  rw [bit, BitVec.getLsbD, Nat.testBit_eq_decide_div_mod_eq]

/-- A bit of a packed byte, by the item that stands there. -/
theorem bit_byte {n k : Nat} {b : Bool} (hn : n < 256) (h : n / 2 ^ k % 2 = oneIf b) : bit (byte n) k = b := by
  rw [bit_eq, toNat_byte hn, h, decide_oneIf]

/-- A field of a packed byte, by the item that stands there. -/
theorem bits_byte {n k width v : Nat} (hn : n < 256) (h : n / 2 ^ k % 2 ^ width = v) : bits (byte n) k width = v := by
  rw [bits_eq, toNat_byte hn, h]

end Sys2Proof.Machine
end

section
/-! The three configurations read back (12.6). -/

namespace Sys2Proof.Machine

/-! ### Codes and their values -/

theorem stuckTimeOf_code (t : StuckTime) : stuckTimeOf t.code = some t := by cases t <;> rfl
theorem participationOf_code (p : Participation) : participationOf p.code = some p := by cases p <;> rfl
theorem policyOf_code (p : TimeoutPolicy) : policyOf p.code = some p := by cases p <;> rfl
theorem detectionOf_code (d : Detection) : detectionOf d.code = some d := by cases d <;> rfl
theorem bindingOf_code (b : Binding) : bindingOf b.code = some b := by cases b <;> rfl
theorem modeOf_code (m : Mode) : modeOf m.code = some m := by cases m <;> rfl

theorem StuckTime.code_lt (t : StuckTime) : t.code < 4 := by cases t <;> decide
theorem Participation.code_lt (p : Participation) : p.code < 2 := by cases p <;> decide
theorem TimeoutPolicy.code_lt (p : TimeoutPolicy) : p.code < 2 := by cases p <;> decide
theorem Detection.code_lt (d : Detection) : d.code < 5 := by cases d <;> decide
theorem Binding.code_lt (b : Binding) : b.code < 6 := by cases b <;> decide
theorem Mode.code_lt (m : Mode) : m.code < 7 := by cases m <;> decide

/-! ### Station configuration -/

theorem parse_stationConfigBytes {c : StationConfig} (h : c.valid = true) :
    parseStationConfig (stationConfigBytes c) = some c := by
  have ht := c.tStuck.code_lt
  have hv := h
  simp only [StationConfig.valid, Bool.and_eq_true, decide_eq_true_eq] at hv
  obtain ⟨⟨_, hretry⟩, hsleep⟩ := hv
  have hcode : bits (byte (16 * c.retry + c.tStuck.code)) 0 3 = c.tStuck.code := bits_byte (by omega) (by omega)
  have hlimit : bits (byte (16 * c.retry + c.tStuck.code)) 4 3 = c.retry := bits_byte (by omega) (by omega)
  have hauto : (byte c.autoSleep).toNat = c.autoSleep := toNat_byte (by omega)
  simp only [stationConfigBytes, parseStationConfig, hcode, hlimit, hauto, stuckTimeOf_code]
  exact if_pos h

/-! ### Slot configuration -/

theorem parse_slotConfigBytes {c : SlotConfig} (h : c.valid = true) : parseSlotConfig (slotConfigBytes c) = some c := by
  have hp := c.participation.code_lt
  have hq := c.policy.code_lt
  have he := oneIf_le_one c.enabled
  have hlp := oneIf_le_one c.logProgress
  have hlr := oneIf_le_one c.logRecords
  have hnb := oneIf_le_one c.notifyB
  have hna := oneIf_le_one c.notifyA
  have hretry : c.retry ≤ 3 := by
    have hv := h
    simp only [SlotConfig.valid, Bool.and_eq_true, decide_eq_true_eq] at hv
    exact hv.1
  have part : bits (byte (128 * oneIf c.enabled + 16 * c.participation.code + c.policy.code)) 4 2 = c.participation.code :=
    bits_byte (by omega) (by omega)
  have policy : bits (byte (128 * oneIf c.enabled + 16 * c.participation.code + c.policy.code)) 0 2 = c.policy.code :=
    bits_byte (by omega) (by omega)
  have enabled : bit (byte (128 * oneIf c.enabled + 16 * c.participation.code + c.policy.code)) 7 = c.enabled :=
    bit_byte (by omega) (by omega)
  obtain ⟨n, hn⟩ : ∃ n, n = 128 * oneIf c.logProgress + 64 * oneIf c.logRecords + 32 * oneIf c.notifyB
      + 16 * oneIf c.notifyA + c.retry := ⟨_, rfl⟩
  have limit : bits (byte n) 0 3 = c.retry := bits_byte (by omega) (by omega)
  have notifyA : bit (byte n) 4 = c.notifyA := bit_byte (by omega) (by omega)
  have notifyB : bit (byte n) 5 = c.notifyB := bit_byte (by omega) (by omega)
  have records : bit (byte n) 6 = c.logRecords := bit_byte (by omega) (by omega)
  have progress : bit (byte n) 7 = c.logProgress := bit_byte (by omega) (by omega)
  simp only [slotConfigBytes, ← hn, wordBytes, halfBytes, List.cons_append, List.nil_append, parseSlotConfig, part, policy,
    participationOf_code, policyOf_code, enabled, limit, notifyA, notifyB, records, progress, word_parts, half_parts]
  exact if_pos h

/-! ### Pin configuration -/

theorem parse_inputConfigBytes {c : InputConfig} (h : c.binding.usesTarget = true → c.target.toNat < 32) (rest : List Byte)
    (i : Nat) {bytes : List Byte} (hb : bytes.drop (5 * i) = inputConfigBytes c ++ rest) : parseInputAt bytes i = some c := by
  have hd := c.detection.code_lt
  have hk := c.binding.code_lt
  have hw := oneIf_le_one c.wake
  have hdb := oneIf_le_one c.debounce
  obtain ⟨n, hn⟩ : ∃ n, n = 32 * oneIf c.wake + 16 * oneIf c.debounce + c.detection.code := ⟨_, rfl⟩
  have detection : bits (byte n) 0 3 = c.detection.code := bits_byte (by omega) (by omega)
  have binding : bits (byte c.binding.code) 0 3 = c.binding.code := bits_byte (by omega) (by omega)
  have debounce : bit (byte n) 4 = c.debounce := bit_byte (by omega) (by omega)
  have wake : bit (byte n) 5 = c.wake := bit_byte (by omega) (by omega)
  have htarget : ¬(c.binding.usesTarget = true ∧ 32 ≤ c.target.toNat) := fun hc => absurd (h hc.1) (by omega)
  simp only [parseInputAt, hb, inputConfigBytes, ← hn, halfBytes, List.cons_append, List.nil_append, parseInput, detection,
    binding, detectionOf_code, bindingOf_code, debounce, wake, half_parts, if_neg htarget]

theorem parse_outputConfigBytes {c : OutputConfig} (h : c.mode.usesTarget = true → c.target.toNat < 32) (hwidth : c.width ≠ 0#8)
    (rest : List Byte) (o : Nat) {bytes : List Byte} (hb : bytes.drop (20 + 3 * o) = outputConfigBytes c ++ rest) :
    parseOutputAt bytes o = some c := by
  have hm := c.mode.code_lt
  have htarget : ¬(c.mode.usesTarget = true ∧ 32 ≤ c.target.toNat) := fun hc => absurd (h hc.1) (by omega)
  obtain ⟨polarity, mode, target, width⟩ := c
  dsimp only at hm
  have hbits : ∀ p < 2, bits (byte (128 * p + mode.code)) 0 3 = mode.code ∧ bit (byte (128 * p + mode.code)) 7 = decide (p = 1) :=
    fun p hp => ⟨bits_byte (by omega) (by omega), by rw [bit_eq, toNat_byte (by omega)]; congr 1; simp; omega⟩
  simp only [parseOutputAt, hb, outputConfigBytes, List.cons_append, List.nil_append, parseOutput]
  cases polarity with
  | activeHigh =>
    have := hbits 0 (by omega)
    simp only [Nat.mul_zero] at this
    simp only [this, modeOf_code, if_neg htarget, if_neg hwidth]
    rfl
  | activeLow =>
    have := hbits 1 (by omega)
    simp only [Nat.mul_one] at this
    simp only [this, modeOf_code, if_neg htarget, if_neg hwidth]
    rfl

theorem vector_four {α : Type} (v : Vector α 4) :
    #v[v[(0 : Fin 4)], v[(1 : Fin 4)], v[(2 : Fin 4)], v[(3 : Fin 4)]] = v := by
  ext i hi
  match i, hi with
  | 0, _ | 1, _ | 2, _ | 3, _ => rfl

theorem parse_pinConfigBytes {c : PinConfig}
    (hin : ∀ i : Fin 4, c.inputs[i].binding.usesTarget = true → c.inputs[i].target.toNat < 32)
    (hout : ∀ o : Fin 4, (c.outputs[o].mode.usesTarget = true → c.outputs[o].target.toNat < 32) ∧ c.outputs[o].width ≠ 0#8) :
    parsePinConfig (pinConfigBytes c) = some c := by
  have input : ∀ i : Fin 4, parseInputAt (pinConfigBytes c) i.val = some c.inputs[i] := fun i =>
    match i with
    | 0 => parse_inputConfigBytes (hin 0) _ 0 rfl
    | 1 => parse_inputConfigBytes (hin 1) _ 1 rfl
    | 2 => parse_inputConfigBytes (hin 2) _ 2 rfl
    | 3 => parse_inputConfigBytes (hin 3) _ 3 rfl
  have output : ∀ o : Fin 4, parseOutputAt (pinConfigBytes c) o.val = some c.outputs[o] := fun o =>
    match o with
    | 0 => parse_outputConfigBytes (hout 0).1 (hout 0).2 _ 0 rfl
    | 1 => parse_outputConfigBytes (hout 1).1 (hout 1).2 _ 1 rfl
    | 2 => parse_outputConfigBytes (hout 2).1 (hout 2).2 _ 2 rfl
    | 3 => parse_outputConfigBytes (hout 3).1 (hout 3).2 _ 3 rfl
  have hlen : (pinConfigBytes c).length = 33 := rfl
  have hdebounce : (pinConfigBytes c).getD 32 0#8 = c.debounce := rfl
  have hinputs : #v[c.inputs[(0 : Fin 4)], c.inputs[(1 : Fin 4)], c.inputs[(2 : Fin 4)], c.inputs[(3 : Fin 4)]] = c.inputs :=
    vector_four _
  have houtputs : #v[c.outputs[(0 : Fin 4)], c.outputs[(1 : Fin 4)], c.outputs[(2 : Fin 4)], c.outputs[(3 : Fin 4)]]
      = c.outputs := vector_four _
  rw [parsePinConfig, if_neg (by simp [hlen]), show parseInputAt (pinConfigBytes c) 0 = _ from input 0,
    show parseInputAt (pinConfigBytes c) 1 = _ from input 1, show parseInputAt (pinConfigBytes c) 2 = _ from input 2,
    show parseInputAt (pinConfigBytes c) 3 = _ from input 3, show parseOutputAt (pinConfigBytes c) 0 = _ from output 0,
    show parseOutputAt (pinConfigBytes c) 1 = _ from output 1, show parseOutputAt (pinConfigBytes c) 2 = _ from output 2,
    show parseOutputAt (pinConfigBytes c) 3 = _ from output 3]
  dsimp only
  rw [hinputs, houtputs, hdebounce]

/-- Settles O6: each layout's fields are read back one by one. -/
theorem configurationsReadBack : Obligations.ConfigurationsReadBack :=
  ⟨fun _ => parse_stationConfigBytes, fun _ => parse_slotConfigBytes, fun _ => parse_pinConfigBytes⟩

end Sys2Proof.Machine
end

section
/-! The commands that write a configuration (R67, R140, R173, R185). -/

namespace Sys2Proof.Machine

/-! ### WRITE STATION CONFIG -/

/-- The checks of R173 on the bytes of a station configuration. -/
abbrev StationBytesOk (b0 b1 b2 b3 b6 : Byte) : Prop :=
  4 ≤ b0.toNat ∧ 4 ≤ b1.toNat ∧ 8 ≤ b2.toNat ∧ b1.toNat < b2.toNat ∧ b3.toNat % 8 ≤ 3 ∧ b3.toNat / 16 % 8 ≤ 3 ∧ b6.toNat ≤ 15

theorem stuckTimeOf_ticks {n : Nat} (h : n ≤ 3) : ∃ t, stuckTimeOf n = some t ∧ t.ticks = 128000 * 2 ^ n :=
  match n, h with
  | 0, _ => ⟨.ms8, rfl, rfl⟩
  | 1, _ => ⟨.ms16, rfl, rfl⟩
  | 2, _ => ⟨.ms32, rfl, rfl⟩
  | 3, _ => ⟨.ms64, rfl, rfl⟩

theorem stuckTimeOf_none {n : Nat} (h : 3 < n) : stuckTimeOf n = none := by
  obtain ⟨k, rfl⟩ : ∃ k, n = k + 4 := ⟨n - 4, by omega⟩
  rfl

/-- The configuration that the bytes make, the stuck time aside. -/
def stationConfigOf (t : StuckTime) (b0 b1 b2 b3 b4 b5 b6 : Byte) : StationConfig :=
  { tLow := b0, tHigh := b1, tIdle := b2, tStuck := t, retry := b3.toNat / 16 % 8, rollPeriod := b4, filter := b5
    autoSleep := b6.toNat }

theorem parseStationConfig_eq (b0 b1 b2 b3 b4 b5 b6 : Byte) :
    parseStationConfig [b0, b1, b2, b3, b4, b5, b6]
      = match stuckTimeOf (b3.toNat % 8) with
        | none => none
        | some t =>
          if (stationConfigOf t b0 b1 b2 b3 b4 b5 b6).valid then some (stationConfigOf t b0 b1 b2 b3 b4 b5 b6) else none := by
  have hstuck : bits b3 0 3 = b3.toNat % 8 := by rw [bits_eq]; simp
  have hretry : bits b3 4 3 = b3.toNat / 16 % 8 := bits_eq b3 4 3
  simp only [parseStationConfig, hstuck, hretry]
  rfl

theorem stationConfigOf_valid (t : StuckTime) (b0 b1 b2 b3 b4 b5 b6 : Byte) :
    (stationConfigOf t b0 b1 b2 b3 b4 b5 b6).valid = true
      ↔ 4 ≤ b0.toNat ∧ 4 ≤ b1.toNat ∧ 8 ≤ b2.toNat ∧ b1.toNat < b2.toNat ∧ b3.toNat / 16 % 8 ≤ 3 ∧ b6.toNat ≤ 15 := by
  rw [StationConfig.valid]
  simp only [Bool.and_eq_true, decide_eq_true_eq, and_assoc]
  exact Iff.rfl

theorem parseStationConfig_refused {b0 b1 b2 b3 b6 : Byte} (b4 b5 : Byte) (h : ¬StationBytesOk b0 b1 b2 b3 b6) :
    parseStationConfig [b0, b1, b2, b3, b4, b5, b6] = none := by
  rw [parseStationConfig_eq]
  rcases Nat.lt_or_ge 3 (b3.toNat % 8) with hstuck | hstuck
  · rw [stuckTimeOf_none hstuck]
  · obtain ⟨t, ht, _⟩ := stuckTimeOf_ticks hstuck
    rw [ht]
    refine if_neg fun hv => h ?_
    obtain ⟨h0, h1, h2, h3, h4, h5⟩ := (stationConfigOf_valid t b0 b1 b2 b3 b4 b5 b6).mp hv
    exact ⟨h0, h1, h2, h3, hstuck, h4, h5⟩

theorem parseStationConfig_taken {b0 b1 b2 b3 b6 : Byte} (b4 b5 : Byte) (h : StationBytesOk b0 b1 b2 b3 b6) :
    ∃ t : StuckTime, t.ticks = 128000 * 2 ^ (b3.toNat % 8)
      ∧ parseStationConfig [b0, b1, b2, b3, b4, b5, b6] = some (stationConfigOf t b0 b1 b2 b3 b4 b5 b6) := by
  obtain ⟨h0, h1, h2, h3, hstuck, h4, h5⟩ := h
  obtain ⟨t, ht, hticks⟩ := stuckTimeOf_ticks hstuck
  refine ⟨t, hticks, ?_⟩
  rw [parseStationConfig_eq, ht]
  exact if_pos ((stationConfigOf_valid t b0 b1 b2 b3 b4 b5 b6).mpr ⟨h0, h1, h2, h3, h4, h5⟩)

/-- Settles O23: the refusals of WRITE STATION CONFIG in their order, and the fields that the bytes set. -/
theorem writeStationConfigSetsEveryField : Obligations.WriteStationConfigSetsEveryField := by
  intro bytes s hp
  obtain ⟨cmd, tsc, _, hd, he⟩ := command_answers (c := .writeStationConfig bytes) rfl
    (leadBytes_of_encode (lead := _ :: bytes) (by simp [encodeCommand, dataBytes]; rfl)) rfl (by decide) hp
  refine ⟨_, he, fun h => ?_, fun b0 b1 b2 b3 b4 b5 b6 hbytes => ?_⟩
  · rw [if_pos h]
    exact hd.refused .discarded
  · subst hbytes
    rw [if_neg (show ¬List.length _ ≠ 7 by simp)]
    have hsame : (((s.setCmd cmd).setTsc tsc).mbr.membership ≠ .offline ∨ ((s.setCmd cmd).setTsc tsc).lif.link = .resetting
        ∨ ((s.setCmd cmd).setTsc tsc).lif.link = .fault)
          ↔ s.mbr.membership ≠ .offline ∨ s.lif.link = .resetting ∨ s.lif.link = .fault := Iff.rfl
    by_cases hstate : s.mbr.membership ≠ .offline ∨ s.lif.link = .resetting ∨ s.lif.link = .fault
    · rw [if_pos hstate, if_pos (hsame.mpr hstate)]
      exact hd.refused .state
    rw [if_neg hstate, if_neg (hstate ∘ hsame.mp)]
    split_ifs with hok
    · obtain ⟨t, hticks, hparse⟩ := parseStationConfig_taken b4 b5 hok
      simp only [hparse]
      refine ⟨?_, ?_, ?_, ?_, ?_, ?_, ?_, ?_, hd.wrote .ok (frame_setCfg _ _) (by decide) (by decide)⟩
      all_goals simp only [settle_cfg, setLast_cfg, setCfg_cfg, stationConfigOf]
      exact hticks
    · simp only [parseStationConfig_refused b4 b5 hok]
      exact hd.refused .operand

/-! ### WRITE SLOT CONFIG -/

theorem participationOf_eq (n : Nat) :
    participationOf n = if n ≤ 1 then some (if n = 0 then .fixed else .roster) else none :=
  match n with
  | 0 | 1 => rfl
  | n + 2 => (if_neg (by omega)).symm

theorem policyOf_eq (n : Nat) :
    policyOf n = if n ≤ 1 then some (if n = 0 then .onlyLocal else .halt) else none :=
  match n with
  | 0 | 1 => rfl
  | n + 2 => (if_neg (by omega)).symm

/-- The configuration that the bytes of a slot configuration make. -/
def slotConfigOf (b0 b1 m3 m2 m1 m0 t1 t0 : Byte) : SlotConfig :=
  { enabled := b0.getLsbD 7, participation := if b0.toNat / 16 % 4 = 0 then .fixed else .roster
    mask := m3 ++ m2 ++ m1 ++ m0, timeout := t1 ++ t0, policy := if b0.toNat % 4 = 0 then .onlyLocal else .halt
    retry := b1.toNat % 8, notifyA := b1.getLsbD 4, notifyB := b1.getLsbD 5, logRecords := b1.getLsbD 6
    logProgress := b1.getLsbD 7 }

theorem parseSlotConfig_eq (b0 b1 m3 m2 m1 m0 t1 t0 : Byte) :
    parseSlotConfig [b0, b1, m3, m2, m1, m0, t1, t0]
      = if b0.toNat / 16 % 4 ≤ 1 ∧ b0.toNat % 4 ≤ 1 ∧ (slotConfigOf b0 b1 m3 m2 m1 m0 t1 t0).valid = true then
          some (slotConfigOf b0 b1 m3 m2 m1 m0 t1 t0)
        else none := by
  have hpart : bits b0 4 2 = b0.toNat / 16 % 4 := bits_eq b0 4 2
  have hpolicy : bits b0 0 2 = b0.toNat % 4 := by rw [bits_eq]; simp
  have hretry : bits b1 0 3 = b1.toNat % 8 := by rw [bits_eq]; simp
  simp only [parseSlotConfig, hpart, hpolicy, hretry, participationOf_eq, policyOf_eq]
  by_cases hp : b0.toNat / 16 % 4 ≤ 1
  · by_cases hq : b0.toNat % 4 ≤ 1
    · simp only [hp, hq, if_true, true_and]
      rfl
    · simp only [hp, hq, if_true, false_and, and_false, if_false]
  · simp only [hp, false_and, if_false]

theorem getLsbD_seven (b : Byte) : b.getLsbD 7 = true ↔ 128 ≤ b.toNat := by
  rw [BitVec.getLsbD, Nat.testBit_eq_decide_div_mod_eq, decide_eq_true_eq]
  have := b.isLt
  omega

theorem slotConfigOf_valid (b0 b1 m3 m2 m1 m0 t1 t0 : Byte) :
    (slotConfigOf b0 b1 m3 m2 m1 m0 t1 t0).valid = true
      ↔ b1.toNat % 8 ≤ 3 ∧ ¬(128 ≤ b0.toNat ∧ b0.toNat / 16 % 4 = 0 ∧ m3 ++ m2 ++ m1 ++ m0 = 0#32) := by
  have hfixed : (slotConfigOf b0 b1 m3 m2 m1 m0 t1 t0).participation = .fixed ↔ b0.toNat / 16 % 4 = 0 := by
    unfold slotConfigOf
    dsimp only
    split <;> simp [*]
  rw [SlotConfig.valid, Bool.and_eq_true, decide_eq_true_eq, Bool.not_eq_true', ← Bool.not_eq_true, Bool.and_eq_true,
    Bool.and_eq_true, beq_iff_eq, beq_iff_eq, hfixed, and_assoc]
  exact and_congr Iff.rfl (not_congr (and_congr (getLsbD_seven b0) Iff.rfl))

/-- Settles O24: the refusals of WRITE SLOT CONFIG in their order, and the slot as it is set up. -/
theorem writeSlotConfigSetsUpTheSlot : Obligations.WriteSlotConfigSetsUpTheSlot := by
  intro slot bytes s hp
  obtain ⟨cmd, tsc, _, hd, he⟩ := command_answers (c := .writeSlotConfig slot bytes) rfl
    (leadBytes_of_encode (lead := _ :: slot :: bytes) (by simp [encodeCommand, dataBytes]; rfl)) rfl (by decide) hp
  refine ⟨_, he, fun h => ?_, fun b0 b1 m3 m2 m1 m0 t1 t0 hbytes => ?_⟩
  · rw [if_pos h]
    exact hd.refused .discarded
  · subst hbytes
    rw [if_neg (show ¬List.length _ ≠ 8 by simp)]
    have hsame : ((s.setCmd cmd).setTsc tsc).mbr.membership ≠ .offline ↔ s.mbr.membership ≠ .offline := Iff.rfl
    by_cases hstate : s.mbr.membership ≠ .offline
    · rw [if_pos hstate, if_pos (hsame.mpr hstate)]
      exact hd.refused .state
    rw [if_neg hstate, if_neg (hstate ∘ hsame.mp)]
    have hvalid := slotConfigOf_valid b0 b1 m3 m2 m1 m0 t1 t0
    by_cases hbad : 32 ≤ slot.toNat ∨ 1 < b0.toNat / 16 % 4 ∨ 1 < b0.toNat % 4 ∨ 3 < b1.toNat % 8
        ∨ (128 ≤ b0.toNat ∧ b0.toNat / 16 % 4 = 0 ∧ m3 ++ m2 ++ m1 ++ m0 = 0#32)
    · rw [if_pos hbad]
      rcases Nat.lt_or_ge slot.toNat 32 with hslot | hslot
      · have hno : ¬(b0.toNat / 16 % 4 ≤ 1 ∧ b0.toNat % 4 ≤ 1 ∧ (slotConfigOf b0 b1 m3 m2 m1 m0 t1 t0).valid = true) := by
          rw [hvalid]
          rintro ⟨hp, hq, hr, hm⟩
          rcases hbad with h | h | h | h | h
          · omega
          · omega
          · omega
          · omega
          · exact hm h
        simp only [slotOf_val (i := ⟨slot.toNat, hslot⟩) rfl, parseSlotConfig_eq, if_neg hno]
        exact hd.refused .operand
      · simp only [slotOf_none hslot]
        exact hd.refused .operand
    · rw [if_neg hbad]
      intro i hi
      simp only [not_or] at hbad
      obtain ⟨_, hp, hq, hr, hm⟩ := hbad
      have hyes : b0.toNat / 16 % 4 ≤ 1 ∧ b0.toNat % 4 ≤ 1 ∧ (slotConfigOf b0 b1 m3 m2 m1 m0 t1 t0).valid = true :=
        ⟨by omega, by omega, hvalid.mpr ⟨by omega, hm⟩⟩
      simp only [slotOf_val hi, parseSlotConfig_eq, if_pos hyes]
      refine ⟨?_, ?_, .of_setSlot (by simp; rfl), hd.wrote .ok (frame_setSlot _ i _) (by decide) (by decide)⟩
      · rw [slot_settle, slot_setLast, slot_setSlot_same]
        rfl
      · rw [slot_settle, slot_setLast, slot_setSlot_same]
        rfl

end Sys2Proof.Machine
end

section
/-! WRITE PIN CONFIG (R140, R173, R185): the bytes of an input or an output, refused or written, and the pin unit set up. -/

namespace Sys2Proof.Machine

/-! ### The bytes of one input or output -/

theorem detectionOf_eq (n : Nat) : detectionOf n = [Detection.rising, .falling, .both, .high, .low][n]? :=
  match n with
  | 0 | 1 | 2 | 3 | 4 => rfl
  | _ + 5 => rfl

theorem bindingOf_eq (n : Nat) : bindingOf n = [Binding.off, .arrive, .flagSet, .flagClear, .flagFollow, .halt][n]? :=
  match n with
  | 0 | 1 | 2 | 3 | 4 | 5 => rfl
  | _ + 6 => rfl

theorem modeOf_eq (n : Nat) : modeOf n = [Mode.off, .pulse, .toggle, .waitLevel, .flag, .halted, .online][n]? :=
  match n with
  | 0 | 1 | 2 | 3 | 4 | 5 | 6 => rfl
  | _ + 7 => rfl

/-- The bindings that use the target are those of codes 1 to 4 (R185). -/
theorem bindingOf_usesTarget {n : Nat} {k : Binding} (h : bindingOf n = some k) : k.usesTarget = true ↔ 1 ≤ n ∧ n ≤ 4 := by
  match n, h with
  | 0, h | 1, h | 2, h | 3, h | 4, h | 5, h => cases h; decide
  | _ + 6, h => cases h

/-- The modes that use the target are those of codes 1 to 4 (R185). -/
theorem modeOf_usesTarget {n : Nat} {m : Mode} (h : modeOf n = some m) : m.usesTarget = true ↔ 1 ≤ n ∧ n ≤ 4 := by
  match n, h with
  | 0, h | 1, h | 2, h | 3, h | 4, h | 5, h | 6, h => cases h; decide
  | _ + 7, h => cases h

theorem low_three (b : Byte) : bits b 0 3 = b.toNat % 8 := by rw [bits_eq]; simp

theorem drop_five (bytes : List Byte) (n : Nat) (h : n + 5 ≤ bytes.length) :
    ∃ rest, bytes.drop n
      = bytes.getD n 0#8 :: bytes.getD (n + 1) 0#8 :: bytes.getD (n + 2) 0#8 :: bytes.getD (n + 3) 0#8
        :: bytes.getD (n + 4) 0#8 :: rest := by
  refine ⟨bytes.drop (n + 5), ?_⟩
  have step : ∀ k, k < bytes.length → bytes.drop k = bytes.getD k 0#8 :: bytes.drop (k + 1) := fun k hk => by
    rw [List.drop_eq_getElem_cons hk, List.getD_eq_getElem _ _ hk]
  rw [step n (by omega), step (n + 1) (by omega), step (n + 2) (by omega), step (n + 3) (by omega), step (n + 4) (by omega)]

/-- Bytes of an input that name no value, or use a target above 31, are refused. -/
theorem parseInputAt_refused {bytes : List Byte} (hlen : bytes.length = 33) {i : Fin 4} (h : InputRefused bytes i) :
    parseInputAt bytes i.val = none := by
  obtain ⟨rest, hdrop⟩ := drop_five bytes (5 * i.val) (by omega)
  simp only [InputRefused, Nat.add_zero] at h
  simp only [parseInputAt, hdrop, parseInput, low_three]
  cases hd : detectionOf ((bytes.getD (5 * i.val) 0#8).toNat % 8) with
  | none => rfl
  | some d =>
    cases hk : bindingOf ((bytes.getD (5 * i.val + 1) 0#8).toNat % 8) with
    | none => rfl
    | some k =>
      refine if_pos ?_
      rw [bindingOf_usesTarget hk]
      rw [detectionOf_eq, List.getElem?_eq_some_iff] at hd
      rw [bindingOf_eq, List.getElem?_eq_some_iff] at hk
      obtain ⟨hd, _⟩ := hd
      obtain ⟨hk, _⟩ := hk
      simp only [List.length_cons, List.length_nil] at hd hk
      omega

/-- Bytes of an input that are not refused write its configuration. -/
theorem parseInputAt_written {bytes : List Byte} (hlen : bytes.length = 33) {i : Fin 4} (h : ¬InputRefused bytes i) :
    ∃ c, parseInputAt bytes i.val = some c ∧ InputWritten bytes i c := by
  obtain ⟨rest, hdrop⟩ := drop_five bytes (5 * i.val) (by omega)
  simp only [InputRefused, Nat.add_zero, not_or, Nat.not_lt, not_and] at h
  obtain ⟨hcode, hbind, htarget⟩ := h
  simp only [parseInputAt, hdrop, parseInput, low_three]
  have hd : ∃ d, detectionOf ((bytes.getD (5 * i.val) 0#8).toNat % 8) = some d := by
    rw [detectionOf_eq]
    exact ⟨_, List.getElem?_eq_getElem (by simp only [List.length_cons, List.length_nil]; omega)⟩
  have hk : ∃ k, bindingOf ((bytes.getD (5 * i.val + 1) 0#8).toNat % 8) = some k := by
    rw [bindingOf_eq]
    exact ⟨_, List.getElem?_eq_getElem (by simp only [List.length_cons, List.length_nil]; omega)⟩
  obtain ⟨d, hd⟩ := hd
  obtain ⟨k, hk⟩ := hk
  have hno : ¬(k.usesTarget = true ∧ 32 ≤ (bytes.getD (5 * i.val + 2) 0#8).toNat) := by
    rw [bindingOf_usesTarget hk]
    omega
  simp only [hd, hk, if_neg hno]
  refine ⟨_, rfl, ?_, rfl, rfl, ?_, rfl, rfl⟩
  · rw [← hd, detectionOf_eq]
    rfl
  · rw [← hk, bindingOf_eq]

theorem drop_three (bytes : List Byte) (n : Nat) (h : n + 3 ≤ bytes.length) :
    ∃ rest, bytes.drop n = bytes.getD n 0#8 :: bytes.getD (n + 1) 0#8 :: bytes.getD (n + 2) 0#8 :: rest := by
  refine ⟨bytes.drop (n + 3), ?_⟩
  have step : ∀ k, k < bytes.length → bytes.drop k = bytes.getD k 0#8 :: bytes.drop (k + 1) := fun k hk => by
    rw [List.drop_eq_getElem_cons hk, List.getD_eq_getElem _ _ hk]
  rw [step n (by omega), step (n + 1) (by omega), step (n + 2) (by omega)]

/-- Bytes of an output that name no value, use a target above 31 or give width 0 are refused. -/
theorem parseOutputAt_refused {bytes : List Byte} (hlen : bytes.length = 33) {o : Fin 4} (h : OutputRefused bytes o) :
    parseOutputAt bytes o.val = none := by
  obtain ⟨rest, hdrop⟩ := drop_three bytes (20 + 3 * o.val) (by omega)
  simp only [OutputRefused, Nat.add_zero] at h
  simp only [parseOutputAt, hdrop, parseOutput, low_three]
  cases hm : modeOf ((bytes.getD (20 + 3 * o.val) 0#8).toNat % 8) with
  | none => rfl
  | some m =>
    have huses := modeOf_usesTarget hm
    rw [modeOf_eq, List.getElem?_eq_some_iff] at hm
    obtain ⟨hm, _⟩ := hm
    simp only [List.length_cons, List.length_nil] at hm
    dsimp only
    split
    · rfl
    · rename_i htarget
      rw [huses] at htarget
      exact if_pos (BitVec.eq_of_toNat_eq (show _ = 0 by omega))

/-- Bytes of an output that are not refused write its configuration. -/
theorem parseOutputAt_written {bytes : List Byte} (hlen : bytes.length = 33) {o : Fin 4} (h : ¬OutputRefused bytes o) :
    ∃ c, parseOutputAt bytes o.val = some c ∧ OutputWritten bytes o c := by
  obtain ⟨rest, hdrop⟩ := drop_three bytes (20 + 3 * o.val) (by omega)
  simp only [OutputRefused, Nat.add_zero, not_or, Nat.not_lt, not_and] at h
  obtain ⟨hcode, htarget, hwidth⟩ := h
  simp only [parseOutputAt, hdrop, parseOutput, low_three]
  have hm : ∃ m, modeOf ((bytes.getD (20 + 3 * o.val) 0#8).toNat % 8) = some m := by
    rw [modeOf_eq]
    exact ⟨_, List.getElem?_eq_getElem (by simp only [List.length_cons, List.length_nil]; omega)⟩
  obtain ⟨m, hm⟩ := hm
  have hno : ¬(m.usesTarget = true ∧ 32 ≤ (bytes.getD (20 + 3 * o.val + 1) 0#8).toNat) := by
    rw [modeOf_usesTarget hm]
    omega
  have hw : bytes.getD (20 + 3 * o.val + 2) 0#8 ≠ 0#8 := fun he => hwidth (by rw [he]; rfl)
  simp only [hm, if_neg hno, if_neg hw]
  refine ⟨_, rfl, ?_, ?_, rfl, rfl⟩
  · show (if bit (bytes.getD (20 + 3 * o.val) 0#8) 7 = true then Polarity.activeLow else .activeHigh) = .activeLow ↔ _
    dsimp only [Nat.add_zero]
    by_cases hb : (bytes.getD (20 + 3 * o.val) 0#8).getLsbD 7 = true
    · simp only [bit, hb, if_true]
    · simp only [bit, hb, if_false, reduceCtorEq, Bool.false_eq_true]
  · rw [← hm, modeOf_eq]
    rfl

/-! ### All of them -/

theorem parseAt_of_parsePinConfig {bytes : List Byte} {c : PinConfig} (h : parsePinConfig bytes = some c) :
    (∀ i : Fin 4, parseInputAt bytes i.val = some c.inputs[i]) ∧ ∀ o : Fin 4, parseOutputAt bytes o.val = some c.outputs[o] := by
  unfold parsePinConfig at h
  split at h
  · cases h
  · split at h
    · split at h
      · cases h
        constructor
        · intro i
          match i with
          | 0 | 1 | 2 | 3 => assumption
        · intro o
          match o with
          | 0 | 1 | 2 | 3 => assumption
      · cases h
    · cases h

theorem parsePinConfig_refused {bytes : List Byte} (hlen : bytes.length = 33)
    (h : (∃ i, InputRefused bytes i) ∨ ∃ o, OutputRefused bytes o) : parsePinConfig bytes = none := by
  cases hc : parsePinConfig bytes with
  | none => rfl
  | some c =>
    obtain ⟨hin, hout⟩ := parseAt_of_parsePinConfig hc
    rcases h with ⟨i, hi⟩ | ⟨o, ho⟩
    · have := hin i
      rw [parseInputAt_refused hlen hi] at this
      cases this
    · have := hout o
      rw [parseOutputAt_refused hlen ho] at this
      cases this

theorem parsePinConfig_written {bytes : List Byte} (hlen : bytes.length = 33) (hin : ∀ i, ¬InputRefused bytes i)
    (hout : ∀ o, ¬OutputRefused bytes o) :
    ∃ c, parsePinConfig bytes = some c ∧ (∀ i : Fin 4, InputWritten bytes i c.inputs[i])
      ∧ (∀ o : Fin 4, OutputWritten bytes o c.outputs[o]) ∧ c.debounce = bytes.getD 32 0#8 := by
  obtain ⟨i0, hi0, wi0⟩ := parseInputAt_written hlen (hin 0)
  obtain ⟨i1, hi1, wi1⟩ := parseInputAt_written hlen (hin 1)
  obtain ⟨i2, hi2, wi2⟩ := parseInputAt_written hlen (hin 2)
  obtain ⟨i3, hi3, wi3⟩ := parseInputAt_written hlen (hin 3)
  obtain ⟨u0, hu0, wu0⟩ := parseOutputAt_written hlen (hout 0)
  obtain ⟨u1, hu1, wu1⟩ := parseOutputAt_written hlen (hout 1)
  obtain ⟨u2, hu2, wu2⟩ := parseOutputAt_written hlen (hout 2)
  obtain ⟨u3, hu3, wu3⟩ := parseOutputAt_written hlen (hout 3)
  refine ⟨{ inputs := #v[i0, i1, i2, i3], outputs := #v[u0, u1, u2, u3], debounce := bytes.getD 32 0#8 }, ?_, fun i => ?_,
    fun o => ?_, rfl⟩
  · rw [parsePinConfig, if_neg (by simp [hlen]), show parseInputAt bytes 0 = _ from hi0, show parseInputAt bytes 1 = _ from hi1,
      show parseInputAt bytes 2 = _ from hi2, show parseInputAt bytes 3 = _ from hi3, show parseOutputAt bytes 0 = _ from hu0,
      show parseOutputAt bytes 1 = _ from hu1, show parseOutputAt bytes 2 = _ from hu2, show parseOutputAt bytes 3 = _ from hu3]
  · match i with
    | 0 => exact wi0
    | 1 => exact wi1
    | 2 => exact wi2
    | 3 => exact wi3
  · match o with
    | 0 => exact wu0
    | 1 => exact wu1
    | 2 => exact wu2
    | 3 => exact wu3

/-- Settles O25: the refusals of WRITE PIN CONFIG in their order, and the pin unit set up. -/
theorem writePinConfigArmsInputsAndStopsOutputs : Obligations.WritePinConfigArmsInputsAndStopsOutputs := by
  intro bytes s hp
  obtain ⟨cmd, tsc, _, hd, he⟩ := command_answers (c := .writePinConfig bytes) rfl
    (leadBytes_of_encode (lead := _ :: bytes) (by simp [encodeCommand, dataBytes]; rfl)) rfl (by decide) hp
  have hsame : ((s.setCmd cmd).setTsc tsc).mbr.membership ≠ .offline ↔ s.mbr.membership ≠ .offline := Iff.rfl
  refine ⟨_, he, fun h => ?_, fun hlen h => ?_, fun hlen h => ⟨fun hbad => ?_, fun hin hout => ?_⟩⟩
  · rw [if_pos h]
    exact hd.refused .discarded
  all_goals rw [hlen] at hd
  all_goals rw [if_neg (not_not.mpr hlen)]
  · rw [if_pos (hsame.mpr h)]
    exact hd.refused .state
  · rw [if_neg fun hn => hsame.mp hn h]
    simp only [parsePinConfig_refused hlen hbad]
    exact hd.refused .operand
  · rw [if_neg fun hn => hsame.mp hn h]
    obtain ⟨c, hc, winputs, woutputs, hdebounce⟩ := parsePinConfig_written hlen hin hout
    simp only [hc]
    refine ⟨fun i => ?_, fun o => ?_, ?_, fun i => ?_, fun o => ?_, hd.wrote .ok (frame_setPin _ _) (by decide) (by decide)⟩
    · rw [inputCfg_settle, inputCfg_setLast]
      exact winputs i
    · rw [outputCfg_settle, outputCfg_setLast]
      exact woutputs o
    · rw [settle_pin, setLast_pin]
      exact hdebounce
    · rw [input_settle, input_setLast]
      exact getElem_mapAll _ _ _ _
    · rw [output_settle, output_setLast]
      exact Vector.getElem_replicate _

end Sys2Proof.Machine
end

section
/-! Sleep entry and wake as what they make of each block (R149, R176, R178, R180), and SLEEP, AUTO_SLEEP_EXPIRY and
OSCILLATOR_STOP. -/

namespace Sys2Proof.Machine

/-! ### The end of a transfer -/

/-- The station once the transfer of `lead` and `n` bytes is over and nothing is done at its end. -/
def State.transferred (s : State) (lead : List Byte) (n : Nat) : State := s.transfer lead n 0 fun _ t => t

/-- What a transfer's end does, it does on the station as the transfer leaves it. -/
theorem transfer_eq {h : Handling} {lead : List Byte} {n : Nat} {s : State} (hp : PortOpen h lead n 0 s)
    (body : Handling → State → State) : s.transfer lead n 0 body = body h (s.transferred lead n) := by
  obtain ⟨x, hc, _, rfl, ha, _⟩ := openTransfer_open hp
  have hx : (s.openTransfer .low).cmd.transfer = some x := by rw [hc]
  simp only [State.transferred, State.transfer, hx, ha, if_true]

theorem transferred_asleep {lead : List Byte} {n : Nat} {s : State} (hp : PortOpen .asleep lead n 0 s) (hl : lead ≠ []) :
    Deselected s (s.transferred lead n) (List.replicate (lead.length + n - 1) 0#8) := by
  obtain ⟨t, ht, hd⟩ := transfer_asleep hp hl fun _ t => t
  rw [State.transferred, ht]
  exact hd

/-- The port has no part in timebase and sleep control while the station sleeps (R180). -/
theorem transferred_tsc {s : State} (h : s.tsc.power = .sleep) (lead : List Byte) (n : Nat) :
    (s.transferred lead n).tsc = s.tsc := by
  have hopen : (s.openTransfer .low).tsc = s.tsc := by
    unfold State.openTransfer
    split
    · rfl
    · rw [if_neg (by simp [h])]
      rfl
  unfold State.transferred State.transfer
  dsimp only
  split
  · rfl
  · split
    · rename_i x _ _
      have hclock := foldl_keeps (fun t => t.tsc = s.tsc) State.clockByte
        (fun t b ht => ((frame_clockByte t b).tsc_eq rfl).trans ht) ((lead ++ zeros n).drop x.sent.length) _ hopen
      exact ((frame_deselect _).tsc_eq rfl).trans hclock
    · rfl

/-! ### Settling -/

theorem settle_asleep {s : State} (h : s.tsc.power = .sleep) : s.settle = s := by
  unfold State.settle
  exact if_neg fun hc => by simp [h] at hc

theorem settle_tsc_of_zero {s : State} (h : s.tsc.autoSleep = 0) : s.settle.tsc = s.tsc := by
  rcases settle_tsc s with hs | hs
  · exact hs
  · rw [hs, ← h]

/-! ### Sleep entry -/

@[simp] theorem enterSleep_tsc (s : State) : s.enterSleep.tsc = { s.tsc with power := .sleep } :=
  (frame_forInputs (c := [.pin]) _ (fun i t => frame_setInput t i _) _).tsc_eq rfl

@[simp] theorem enterSleep_lif (s : State) :
    s.enterSleep.lif = { s.lif.quiet with
      startDetector := decide (s.OnBus ∧ s.lif.link = .idle), stbPin := s.lif.stb, datPin := s.lif.dat } :=
  forInputs_setInput_lif _ _

theorem enterSleep_pin (s : State) :
    s.enterSleep.pin.cfg = s.pin.cfg ∧ s.enterSleep.pin.outputs = s.pin.outputs
      ∧ ∀ k, s.enterSleep.input k = { s.input k with wakeArmed := (s.inputCfg k).wake } := by
  unfold State.enterSleep
  obtain ⟨hcfg, hinput⟩ := forInputs_input (f := fun i t => t.setInput i { t.input i with wakeArmed := (t.inputCfg i).wake })
    (g := fun c x => { x with wakeArmed := c.wake }) (fun _ _ => rfl) (fun k t => input_setInput_same t k _)
    (fun k j t h => input_setInput_ne t k j _ h)
    ((s.setTsc { s.tsc with power := .sleep }).setLif { s.lif.quiet with
      startDetector := decide (s.OnBus ∧ s.lif.link = .idle), stbPin := s.lif.stb, datPin := s.lif.dat })
  exact ⟨hcfg, forInputs_keeps (fun t => t.pin.outputs = s.pin.outputs) _ (fun _ _ h => h) _ rfl, hinput⟩

/-- Sleep has been entered, by the three blocks that entry touches, from a state `u` that differs from `s` in the port and the
auto-sleep timer alone. -/
theorem SleepEntered.of_enterSleep {s u t : State} (htsc : TscQuiet s u) (hlif : u.lif = s.lif) (hmbr : u.mbr = s.mbr)
    (hpin : u.pin = s.pin) (ht : t.tsc = u.enterSleep.tsc) (hl : t.lif = u.enterSleep.lif) (hp : t.pin = u.enterSleep.pin) :
    SleepEntered s t := by
  have hinput : ∀ k, u.input k = s.input k := fun k => by simp only [State.input, hpin]
  have hcfg : ∀ k, u.inputCfg k = s.inputCfg k := fun k => by simp only [State.inputCfg, hpin]
  obtain ⟨pcfg, poutputs, pinputs⟩ := enterSleep_pin u
  refine ⟨?_, ?_, ?_, ?_, ?_, fun k => ?_⟩
  · rw [ht, enterSleep_tsc]
    rcases htsc with h | h <;> rw [h]
  · rw [hl, enterSleep_lif, hlif]
    rfl
  · rw [hl, enterSleep_lif, decide_eq_true_iff, hlif, State.OnBus, hmbr]
  · rw [hp, pcfg, hpin]
  · rw [hp, poutputs, hpin]
  · rw [State.input, hp]
    exact (pinputs k).trans (by rw [hinput, hcfg])

/-! ### The sleep conditions -/

/-- The sleep conditions, one by one (R178). -/
theorem sleepOk_iff (s : State) :
    s.sleepOk = true ↔ (∀ i, (s.slot i).state ≠ .waiting) ∧ s.rnd.requests = [] ∧ (s.lif.link = .idle ∨ s.lif.link = .detached)
      ∧ s.ntf.pendA &&& s.ntf.maskA = 0#9 ∧ s.ntf.pendB &&& s.ntf.maskB = 0#9 ∧ s.cmd.transfer = none
      ∧ ∀ o : Fin 4, (s.output o).pulse = none := by
  simp [State.sleepOk, and_assoc]

/-- After the transfer of a command an outcome is recorded and nothing else of the port changes. -/
theorem Deselected.answered {s u v : State} {data : List Byte} (c : Code) (hd : Deselected s u data) (hv : v.cmd = u.cmd) :
    Answered c data s (v.setLast c).settle := by
  obtain ⟨hover, hsdo⟩ := hd.shifted
  refine ⟨⟨?_, ?_⟩, ?_⟩
  · simp [State.setLast, hv, hover]
  · simp [State.setLast, hv, hsdo]
  · simp [State.setLast]

/-- An effect after the transfer, the outcome's recording and the settling: what they touch together. -/
theorem Deselected.touched {touched : List Block} {s u v : State} {data : List Byte} (c : Code) (hd : Deselected s u data)
    (hv : Frame touched u v) : Frame (.cmd :: .tsc :: touched) s (v.setLast c).settle :=
  (hd.frame.then hv (by simp) (by simp)).comp ((frame_setLast v c).then (frame_settle _) (by simp) (by simp))

/-- Settles O28: SLEEP by the sleep conditions, these one by one, and the entries that no command asks for. -/
theorem sleepIsEnteredOnItsConditions : Obligations.SleepIsEnteredOnItsConditions := by
  refine ⟨fun s hp => ?command, sleepOk_iff, fun s => ⟨fun hrun hauto hok => ?expiry, fun hsleep hwake hreset => ?stop⟩⟩
  case command =>
    obtain ⟨cmd, tsc, _, hd, he⟩ := command_answers (c := .sleep) rfl rfl rfl (by decide) hp
    have hok : ((s.setCmd cmd).setTsc tsc).sleepOk = (s.setCmd { s.cmd with transfer := none }).sleepOk :=
      sleepOk_congr rfl rfl rfl rfl rfl (congrArg Option.isNone hd.shifted.1)
    refine ⟨_, he, fun h => ?_, fun h => ?_⟩
    · rw [hok, h]
      exact hd.refused .state
    · rw [hok, h, if_pos rfl]
      have hsettle : ((((s.setCmd cmd).setTsc tsc).enterSleep.setLast .ok).settle)
          = ((s.setCmd cmd).setTsc tsc).enterSleep.setLast .ok := settle_asleep (by simp)
      refine ⟨?_, hd.answered .ok ((frame_enterSleep _).cmd_eq rfl),
        (hd.touched .ok (frame_enterSleep _)).mono (by simp)⟩
      rw [hsettle]
      exact .of_enterSleep hd.quiet rfl rfl rfl rfl rfl rfl
  case expiry =>
    have he : exec .autoSleepExpiry s = done s.enterSleep := if_pos ⟨hrun, hauto, hok⟩
    refine ⟨_, he.trans (done_eq _), ?_, (frame_enterSleep s).settled rfl⟩
    rw [settle_asleep (by simp)]
    exact .of_enterSleep (Or.inl rfl) rfl rfl rfl rfl rfl rfl
  case stop =>
    have he : exec .oscillatorStop s = done (s.setTsc { s.tsc with oscillator := false }) := if_pos ⟨hsleep, hwake, hreset⟩
    refine ⟨_, he.trans (done_eq _), ?_, (frame_setTsc s _).settled rfl⟩
    have hpower : (s.setTsc { s.tsc with oscillator := false }).tsc.power = .sleep := hsleep
    rw [settle_asleep hpower]
    rfl

end Sys2Proof.Machine
end

section
/-! Wake and its sources (R149, R175, R176), and the asynchronous start (R182). -/

namespace Sys2Proof.Machine

/-! ### What a wake makes of each block -/

@[simp] theorem awake_tsc (s : State) :
    s.awake.tsc = { s.tsc with power := .active, oscillator := true, waking := false, autoSleep := 0 } :=
  (frame_forInputs (c := [.pin]) _ (fun i t => frame_resumeInput t i) _).tsc_eq rfl

theorem awake_pin (s : State) :
    s.awake.pin.cfg = s.pin.cfg ∧ s.awake.pin.outputs = s.pin.outputs
      ∧ ∀ k, s.awake.input k = { s.input k with timer := (s.input k).resumed, wakeArmed := false } := by
  obtain ⟨hcfg, hinput⟩ := forInputs_input (f := fun i t => t.resumeInput i)
    (g := fun _ x => { x with timer := x.resumed, wakeArmed := false }) (fun _ _ => rfl) (fun k t => input_setInput_same t k _)
    (fun k j t h => input_setInput_ne t k j _ h)
    ((s.setTsc { s.tsc with power := .active, oscillator := true, waking := false, autoSleep := 0 }).setLif s.lif.resume)
  exact ⟨hcfg, forInputs_keeps (fun t => t.pin.outputs = s.pin.outputs) _ (fun _ _ h => h) _ rfl, hinput⟩

/-- The station is awake, by the three blocks that a wake touches, from a state `u` that differs from `s` in the port alone. -/
theorem Awake.of_awake {s u t : State} (htsc : u.tsc = s.tsc) (hlif : u.lif = s.lif) (hpin : u.pin = s.pin)
    (ht : t.tsc = u.awake.tsc) (hl : t.lif = u.awake.lif) (hp : t.pin = u.awake.pin) : Awake s t := by
  have hinput : ∀ k, u.input k = s.input k := fun k => by simp only [State.input, hpin]
  obtain ⟨pcfg, poutputs, pinputs⟩ := awake_pin u
  refine ⟨?_, ?_, ?_, ?_, fun k => ?_⟩
  · rw [ht, awake_tsc, htsc]
  · rw [hl, awake_lif, hlif]
    rfl
  · rw [hp, pcfg, hpin]
  · rw [hp, poutputs, hpin]
  · rw [State.input, hp]
    exact (pinputs k).trans (by rw [hinput]; rfl)

/-! ### The three ways of a wake source (R176, R180) -/

theorem startWake_active {s : State} (h : s.tsc.power = .active) : s.startWake = s := if_pos h

theorem startWake_waking {s : State} (h : s.tsc.waking = true) : s.startWake = s := by
  by_cases hp : s.tsc.power = .active
  · exact startWake_active hp
  · rw [State.startWake, if_neg hp, if_pos h]

theorem startWake_running {s : State} (hp : s.tsc.power = .sleep) (hw : s.tsc.waking = false) (ho : s.tsc.oscillator = true) :
    s.startWake = s.awake := by
  rw [State.startWake, if_neg (by simp [hp]), if_neg (by simp [hw]), if_pos ho]

theorem startWake_stopped {s : State} (hp : s.tsc.power = .sleep) (hw : s.tsc.waking = false) (ho : s.tsc.oscillator = false) :
    s.startWake = s.setTsc { s.tsc with waking := true } := by
  rw [State.startWake, if_neg (by simp [hp]), if_neg (by simp [hw]), if_neg (by simp [ho])]

/-- A wake that is under way, or begins with the oscillator stopped. -/
theorem startWake_begun {s : State} (hp : s.tsc.power = .sleep) (h : s.tsc.waking = true ∨ s.tsc.oscillator = false) :
    s.startWake = s.setTsc { s.tsc with waking := true } := by
  cases hw : s.tsc.waking with
  | true =>
    rw [startWake_waking hw, ← hw]
    rfl
  | false => exact startWake_stopped hp hw (h.resolve_left (by simp [hw]))

/-! ### WAKE -/

theorem exec_wake (s : State) : exec .wake s = done (s.transfer [0x61#8] 0 0 wakeTaken) := rfl

/-- A WAKE that finds nothing to wake. -/
theorem wake_wrote {s u : State} (hd : Deselected s u (List.replicate 0 0#8))
    (h : u.tsc.power = .active ∨ u.tsc.waking = true) : Wrote 0 .ok [] s (u.startWake.setLast .ok).settle := by
  have hu : u.startWake = u := h.elim startWake_active startWake_waking
  rw [hu]
  exact hd.wrote .ok (Frame.refl [] u) (by simp) (by simp)

theorem TscQuiet.power {s t : State} (h : TscQuiet s t) : t.tsc.power = s.tsc.power := by rcases h with h | h <;> rw [h]
theorem TscQuiet.waking {s t : State} (h : TscQuiet s t) : t.tsc.waking = s.tsc.waking := by rcases h with h | h <;> rw [h]

/-- WAKE in ACTIVE, and in SLEEP by whether a wake is under way and the oscillator runs (R175). -/
theorem wake_answers (s : State) :
    (PortActive .wake s → ∃ t, exec .wake s = .next t ∧ Wrote 0 .ok [] s t)
    ∧ (PortAsleep .wake s → s.tsc.power = .sleep → s.tsc.waking = false → ∃ t, exec .wake s = .next t ∧ Answered .ok [] s t
        ∧ Frame [.tsc, .lif, .pin, .cmd] s t
        ∧ (s.tsc.oscillator = true → Awake s t)
        ∧ (s.tsc.oscillator = false → t.tsc = { s.tsc with waking := true } ∧ t.lif = s.lif ∧ t.pin = s.pin))
    ∧ (PortAsleep .wake s → s.tsc.power = .active ∨ s.tsc.waking = true → ∃ t, exec .wake s = .next t ∧ Wrote 0 .ok [] s t) := by
  rw [exec_wake]
  refine ⟨fun ⟨hrun, hp⟩ => ?_, fun hp hsleep hwake => ?_, fun hp h => ?_⟩
  · obtain ⟨u, hu, hd⟩ := transfer_write (show PortOpen .active [0x61#8] 0 0 s from hp) (by decide) wakeTaken
    rw [hu]
    exact ⟨_, done_eq _, wake_wrote hd (.inl (hd.quiet.power.trans hrun.1))⟩
  · have hopen : PortOpen .asleep [0x61#8] 0 0 s := hp
    have hd := transferred_asleep hopen (by simp)
    have htsc := transferred_tsc hsleep [0x61#8] 0
    rw [transfer_eq hopen]
    refine ⟨_, done_eq _, ?_⟩
    generalize s.transferred [0x61#8] 0 = u at hd htsc ⊢
    have hframe := frame_startWake u
    change Answered .ok [] s (u.startWake.setLast .ok).settle ∧ _
    refine ⟨hd.answered .ok (hframe.cmd_eq rfl), (hd.touched .ok hframe).mono (by simp), fun ho => ?_, fun ho => ?_⟩
    · have hu := startWake_running (htsc ▸ hsleep) (htsc ▸ hwake) (htsc ▸ ho)
      change Awake s (u.startWake.setLast .ok).settle
      rw [hu]
      refine .of_awake htsc (hd.frame.lif_eq rfl) (hd.frame.pin_eq rfl) ?_ (by simp) (by simp)
      rw [settle_tsc_of_zero (by simp)]
      rfl
    · have hu := startWake_stopped (htsc ▸ hsleep) (htsc ▸ hwake) (htsc ▸ ho)
      change (u.startWake.setLast .ok).settle.tsc = _ ∧ (u.startWake.setLast .ok).settle.lif = _
        ∧ (u.startWake.setLast .ok).settle.pin = _
      rw [hu, settle_asleep (by simpa using htsc ▸ hsleep)]
      exact ⟨by simp [htsc], by simpa using hd.frame.lif_eq rfl, by simpa using hd.frame.pin_eq rfl⟩
  · have hopen : PortOpen .asleep [0x61#8] 0 0 s := hp
    have hd := transferred_asleep hopen (by simp)
    rw [transfer_eq hopen]
    exact ⟨_, done_eq _, wake_wrote hd (h.imp hd.quiet.power.trans hd.quiet.waking.trans)⟩

end Sys2Proof.Machine
end

section
/-! Raw edges of the inputs (R141, R149) and the wake sources; the asynchronous start (R182). -/

namespace Sys2Proof.Machine

/-! ### A pin moves -/

theorem movePin_same {s : State} {i : Fin 4} {l : Level} (h : (s.input i).pin = l) : s.movePin i l = s := if_pos h

theorem movePin_running {s : State} {i : Fin 4} {l : Level} (h : (s.input i).pin ≠ l) (hrun : s.Running) :
    s.movePin i l = s.setInput i { s.input i with
      pin := l, timer := if l = (s.input i).filtered then none else some 0 } := by
  unfold State.movePin
  dsimp only
  rw [if_neg h, if_pos hrun]

theorem movePin_held {s : State} {i : Fin 4} {l : Level} (h : (s.input i).pin ≠ l) (hrun : ¬s.Running) :
    s.movePin i l = s.setInput i { s.input i with pin := l } := by
  unfold State.movePin
  dsimp only
  rw [if_neg h, if_neg hrun]

theorem not_running_of_asleep {s : State} (h : s.tsc.power = .sleep) : ¬s.Running := fun hr => by
  rw [hr.1] at h
  cases h

/-! ### A raw edge that wakes -/

/-- What a raw edge at an input whose wake detector is armed makes of the station (R149, R176). -/
structure Woken (i : Fin 4) (l : Level) (s t : State) : Prop where
  pin : (t.input i).pin = l
  filtered : (t.input i).filtered = (s.input i).filtered
  armed : (t.input i).armed = (s.input i).armed
  begun : s.tsc.waking = true ∨ s.tsc.oscillator = false →
    t.tsc = { s.tsc with waking := true } ∧ (∀ j, j ≠ i → t.input j = s.input j) ∧ Frame [.tsc, .pin] s t
  awake : s.tsc.waking = false ∧ s.tsc.oscillator = true →
    t.tsc = { s.tsc with power := .active, oscillator := true, waking := false, autoSleep := 0 }
      ∧ Frame [.tsc, .lif, .pin] s t

theorem rawEdge_woken {s : State} {i : Fin 4} {l : Level} (hsleep : s.tsc.power = .sleep) (hreset : s.tsc.inReset = false)
    (harmed : (s.input i).wakeArmed = true) (hpin : (s.input i).pin ≠ l) : Woken i l s (s.rawEdge i l).settle := by
  have hmoved := movePin_held hpin (not_running_of_asleep hsleep)
  have hedge : s.rawEdge i l = (s.setInput i { s.input i with pin := l }).startWake := by
    rw [← hmoved]
    exact if_pos ⟨harmed, hpin, hreset⟩
  rw [hedge]
  have hu : (s.setInput i { s.input i with pin := l }).input i = { s.input i with pin := l } := input_setInput_same s i _
  by_cases h : s.tsc.waking = false ∧ s.tsc.oscillator = true
  · have hw := startWake_running (s := s.setInput i { s.input i with pin := l }) hsleep h.1 h.2
    have hinput := (awake_pin (s.setInput i { s.input i with pin := l })).2.2 i
    rw [hu] at hinput
    rw [hw]
    refine ⟨?_, ?_, ?_, fun hn => ?_, fun _ => ⟨?_, ?_⟩⟩
    · rw [input_settle, hinput]
    · rw [input_settle, hinput]
    · rw [input_settle, hinput]
    · exact absurd hn (by simp [h])
    · rw [settle_tsc_of_zero (by simp), awake_tsc]
      rfl
    · exact ((frame_setInput s i _).then (frame_awake _) (by simp) (by simp)).settled rfl
  · have hb : s.tsc.waking = true ∨ s.tsc.oscillator = false := by
      cases hw : s.tsc.waking <;> simp_all
    have hw := startWake_begun (s := s.setInput i { s.input i with pin := l }) hsleep hb
    have hsettle := settle_asleep (s := (s.setInput i { s.input i with pin := l }).setTsc { s.tsc with waking := true }) hsleep
    rw [hw]
    refine ⟨?_, ?_, ?_, fun _ => ⟨?_, fun j hj => ?_, ?_⟩, fun hn => absurd hn h⟩
    · rw [input_settle, input_setTsc, hu]
    · rw [input_settle, input_setTsc, hu]
    · rw [input_settle, input_setTsc, hu]
    · exact congrArg State.tsc hsettle
    · rw [input_settle, input_setTsc, input_setInput_ne _ _ _ _ hj]
    · exact ((frame_setInput s i _).then (frame_setTsc _ _) (by simp) (by simp)).settled rfl

theorem otherLevel_ne (l : Level) : l ≠ otherLevel l := by cases l <;> decide

/-- Settles O29: WAKE, the end of wake step 1 and the raw edge that starts a wake. -/
theorem wakeSourcesWakeTheStation : Obligations.WakeSourcesWakeTheStation := by
  refine ⟨wake_answers, fun s hsleep hreset => ⟨fun hwake => ?runs, fun i harmed => ?edge⟩⟩
  case runs =>
    have he : exec .oscillatorRuns s = done s.awake := if_pos ⟨hsleep, hwake, hreset⟩
    refine ⟨_, he.trans (done_eq _), .of_awake rfl rfl rfl (settle_tsc_of_zero (by simp)) (by simp) (by simp), ?_⟩
    exact (frame_awake s).settled rfl
  case edge =>
    have he : exec (.wakeInputEdge i) s = done (s.rawEdge i (otherLevel (s.input i).pin)) := if_pos ⟨hsleep, hreset, harmed⟩
    have hw := rawEdge_woken hsleep hreset harmed (otherLevel_ne _)
    refine ⟨_, he.trans (done_eq _), ?_, hw.filtered, hw.armed, hw.begun, fun h => ?_⟩
    · rw [hw.pin]
      exact (otherLevel_ne _).symm
    · obtain ⟨htsc, hframe⟩ := hw.awake h
      exact ⟨by rw [htsc], hframe⟩

/-! ### The asynchronous start -/

/-- The round as an asynchronous start begins it (R182). -/
theorem beginHead_fresh (s : State) :
    (s.beginHead .fresh).samples = [] ∧ (s.beginHead .fresh).check = 0xFF#8
      ∧ (s.beginHead .fresh).head = s.rnd.requests.head?
      ∧ (s.rnd.requests = [] → (s.beginHead .fresh).driveNow = .released) := by
  unfold State.beginHead
  split
  · rename_i h
    exact ⟨rfl, rfl, by simp [h, Round.open], fun _ => rfl⟩
  · rename_i h
    exact ⟨rfl, rfl, by simp [h, Round.open], fun hn => by simp [h] at hn⟩

/-- Settles O30: the round that an asynchronous start begins, and the wake that it starts. -/
theorem asyncStartHoldsTheStretch : Obligations.AsyncStartHoldsTheStretch := by
  intro s hsleep hreset hdetector hbus hlink
  have he : exec .asyncStart s = done s.asyncRound.startWake := if_pos ⟨hsleep, hreset, hdetector, hbus, hlink⟩
  obtain ⟨hsamples, hcheck, hhead, hdrive⟩ := beginHead_fresh s
  have hrnd : s.asyncRound.startWake.settle.rnd = { s.rnd with round := some (s.beginHead .fresh) } := by
    rw [settle_rnd, (frame_startWake s.asyncRound).rnd_eq rfl]
    rfl
  have hframe : Frame [.tsc, .lif, .pin, .rnd] s s.asyncRound.startWake.settle :=
    ((frame_asyncRound s).then (frame_startWake _) (by simp) (by simp)).settled rfl
  have hround : ∃ r, s.asyncRound.startWake.settle.rnd.round = some r ∧ r.samples = [] ∧ r.check = 0xFF#8
      ∧ r.head = s.rnd.requests.head? ∧ (s.rnd.requests = [] → r.driveNow = .released) :=
    ⟨s.beginHead .fresh, by rw [hrnd], hsamples, hcheck, hhead, hdrive⟩
  have hrequests : s.asyncRound.startWake.settle.rnd.requests = s.rnd.requests := by rw [hrnd]
  refine ⟨_, he.trans (done_eq _), ?_⟩
  by_cases h : s.tsc.oscillator = true ∧ s.tsc.waking = false
  · have hw := startWake_running (s := s.asyncRound) hsleep h.2 h.1
    have hlif : s.asyncRound.startWake.settle.lif = s.asyncRound.lif.resume := by rw [settle_lif, hw, awake_lif]
    have hpower : s.asyncRound.startWake.settle.tsc.power = .active := by
      rw [hw, settle_tsc_of_zero (by simp), awake_tsc]
    exact ⟨by rw [hlif]; rfl, by rw [hlif]; rfl, by rw [hlif]; rfl, by rw [hlif]; rfl, by rw [hlif]; rfl, by rw [hlif]; rfl,
      hrequests, hround, fun hn => absurd hn (by simp [h]), fun _ => ⟨hpower, by rw [hlif]; rfl⟩, hframe⟩
  · have hb : s.tsc.waking = true ∨ s.tsc.oscillator = false := by
      cases hw : s.tsc.waking <;> simp_all
    have hw := startWake_begun (s := s.asyncRound) hsleep hb
    have hsettle := settle_asleep (s := s.asyncRound.setTsc { s.tsc with waking := true }) hsleep
    have hlif : s.asyncRound.startWake.settle.lif = s.asyncRound.lif := by rw [settle_lif, hw]; rfl
    have htsc : s.asyncRound.startWake.settle.tsc = { s.tsc with waking := true } := by
      rw [hw]
      exact congrArg State.tsc hsettle
    have hpin : s.asyncRound.startWake.settle.pin = s.pin := by rw [settle_pin, hw]; rfl
    exact ⟨by rw [hlif]; rfl, by rw [hlif]; rfl, by rw [hlif]; rfl, by rw [hlif]; rfl, by rw [hlif]; rfl, by rw [hlif]; rfl,
      hrequests, hround, fun _ => ⟨htsc, hpin⟩, fun hn => absurd hn h, hframe⟩

end Sys2Proof.Machine
end

section
/-! The station resets (R47, R174, R183, R184). -/

namespace Sys2Proof.Machine

/-! ### The strapped number -/

/-- The bit that a strap's level stands for (log 1). -/
def strapBit (l : Level) : Nat := match l with | .low => 0 | .high => 1

theorem strapBit_le (l : Level) : strapBit l ≤ 1 := by cases l <;> decide

theorem decide_strapBit (l : Level) : decide (strapBit l = 1) = (l == .high) := by cases l <;> rfl

theorem strapNumber_val (p : Straps) :
    (strapNumber p).val
      = 16 * strapBit p.id4 + 8 * strapBit p.id3 + 4 * strapBit p.id2 + 2 * strapBit p.id1 + strapBit p.id0 := by
  have h4 := strapBit_le p.id4
  have h3 := strapBit_le p.id3
  have h2 := strapBit_le p.id2
  have h1 := strapBit_le p.id1
  have h0 := strapBit_le p.id0
  refine Nat.mod_eq_of_lt ?_
  change 16 * strapBit p.id4 + 8 * strapBit p.id3 + 4 * strapBit p.id2 + 2 * strapBit p.id1 + strapBit p.id0 < 32
  omega

/-- ID4 is the most significant bit of the number (R47). -/
theorem strapNumber_testBit (p : Straps) (k : Nat) :
    (strapNumber p).val.testBit k
      = (k == 4 && p.id4 == .high || k == 3 && p.id3 == .high || k == 2 && p.id2 == .high || k == 1 && p.id1 == .high
          || k == 0 && p.id0 == .high) := by
  have h4 := strapBit_le p.id4
  have h3 := strapBit_le p.id3
  have h2 := strapBit_le p.id2
  have h1 := strapBit_le p.id1
  have h0 := strapBit_le p.id0
  rw [strapNumber_val]
  match k with
  | 0 =>
    rw [Nat.testBit_eq_decide_div_mod_eq, ← decide_strapBit p.id0]
    simp; omega
  | 1 =>
    rw [Nat.testBit_eq_decide_div_mod_eq, ← decide_strapBit p.id1]
    simp; omega
  | 2 =>
    rw [Nat.testBit_eq_decide_div_mod_eq, ← decide_strapBit p.id2]
    simp; omega
  | 3 =>
    rw [Nat.testBit_eq_decide_div_mod_eq, ← decide_strapBit p.id3]
    simp; omega
  | 4 =>
    rw [Nat.testBit_eq_decide_div_mod_eq, ← decide_strapBit p.id4]
    simp; omega
  | k + 5 =>
    have hpow : 32 ≤ 2 ^ (k + 5) := by
      rw [Nat.pow_add]
      exact Nat.le_mul_of_pos_left _ (Nat.two_pow_pos k)
    rw [Nat.testBit_lt_two_pow (by omega)]
    simp

/-! ### The transfer that a reset cuts -/

/-- Of the byte on SDO the bits clocked stand, and the others are 1 (R174). -/
theorem getLsbD_splice (a : Byte) (k : Nat) {j : Nat} (h : j < 8) :
    (splice a 0xFF#8 k).getLsbD (7 - j) = if j < k then a.getLsbD (7 - j) else true := by
  have hones : ∀ n, (0xFF#8).getLsbD n = decide (n < 8) := fun n => by
    rcases Nat.lt_or_ge n 8 with hn | hn
    · rw [decide_eq_true hn]
      match n, hn with
      | 0, _ | 1, _ | 2, _ | 3, _ | 4, _ | 5, _ | 6, _ | 7, _ => rfl
    · rw [BitVec.getLsbD_of_ge _ _ hn, decide_eq_false (by omega)]
  have h7 : decide (7 - j < 8) = true := decide_eq_true (by omega)
  simp only [splice, BitVec.getLsbD_or, BitVec.getLsbD_and, BitVec.getLsbD_not, BitVec.getLsbD_ushiftRight, hones, h7,
    Bool.true_and]
  split
  · have hk : decide (k + (7 - j) < 8) = false := decide_eq_false (by omega)
    simp [hk]
  · have hk : decide (k + (7 - j) < 8) = true := decide_eq_true (by omega)
    simp [hk]

theorem CutTransfer.of_map {s t : State} (h : t.cmd.transfer = s.cmd.transfer.map Transfer.cut) : CutTransfer s t := by
  refine ⟨fun hn => by rw [h, hn]; rfl, fun x hx => ⟨x.cut, by rw [h, hx]; rfl, rfl, rfl, rfl, rfl, rfl, rfl, fun k hk => ?_⟩⟩
  have hbit : x.cut.out.getLsbD (7 - k) = if k < x.clocked then x.out.getLsbD (7 - k) else true := getLsbD_splice _ _ hk
  exact ⟨fun hlt => by rw [hbit, if_pos hlt], fun hge => by rw [hbit, if_neg (by omega)]⟩

/-! ### The internal reset begins -/

theorem startReset_tsc (s : State) (cause : ResetCause) :
    (s.startReset cause).tsc = { s.tsc with cause := cause, inReset := true, oscillator := true, waking := false } := rfl

/-- The reset has begun, by the blocks that its start touches, from a state `u` that differs from `s` in the port, RESETN and
the auto-sleep timer alone. -/
theorem ResetBegun.of_startReset {cause : ResetCause} {s u t : State} (hframe : Frame [.tsc, .lif, .pin, .cmd] s t)
    (hu : u.tsc = { s.tsc with resetnLow := u.tsc.resetnLow, autoSleep := u.tsc.autoSleep }) (hpin : u.pin = s.pin)
    (hlast : t.cmd.last = s.cmd.last)
    (ht : t.tsc = { (u.startReset cause).tsc with autoSleep := t.tsc.autoSleep }) (hl : t.lif = (u.startReset cause).lif)
    (hp : t.pin = (u.startReset cause).pin) : ResetBegun cause s t := by
  have hreset : t.tsc.inReset = true := by rw [ht]; rfl
  refine ⟨?_, by rw [hl]; rfl, by rw [hl]; rfl, fun o => ⟨?_, ?_⟩, ?_, ?_, ?_, by rw [hp, ← hpin]; rfl, hlast, hframe⟩
  · rw [ht, startReset_tsc, hu]
  · rw [State.outputActive, if_pos hreset]
  · rw [State.outputPin, if_pos hreset]
  · simp [State.naLow, hreset]
  · simp [State.nbLow, hreset]
  · exact statusByte_inReset hreset

theorem settle_tsc_auto (s : State) : s.settle.tsc = { s.tsc with autoSleep := s.settle.tsc.autoSleep } := by
  rcases settle_tsc s with h | h <;> rw [h]

theorem settle_of_zero {s : State} (h : s.tsc.autoSleep = 0) : s.settle = s := by
  unfold State.settle
  split
  · rw [← h]
    rfl
  · rfl

/-- The state that the end of the internal reset leaves, the port, the bus, the board's levels and the queue kept (R184). -/
def State.resetEnded (s : State) (p : Straps) : State :=
  { State.afterReset s.tsc.cause (strapNumber p) s.pinLevels with
    cmd := s.cmd.afterReset, bus := s.bus, spi := s.spi, pending := s.pending }

/-- Settles O27: the three resets begin, and the end of the internal reset. -/
theorem stationResetsBeginAndEnd : Obligations.StationResetsBeginAndEnd := by
  refine ⟨fun s => ⟨⟨_, done_eq _, ?powerOn, .of_map (by rw [settle_cmd]; rfl)⟩, ?resetn, fun hp => ?soft⟩, fun p s hreset => ?ended⟩
  case powerOn =>
    exact .of_startReset (u := s) ((frame_startReset s .powerOn).settled rfl) rfl rfl (by rw [settle_cmd]; rfl)
      (settle_tsc_auto _) (settle_lif _) (settle_pin _)
  case resetn =>
    by_cases h : s.tsc.inReset = true ∧ s.tsc.cause = .powerOn
    · have he : exec .resetn s = done (s.setTsc { s.tsc with resetnLow := true }) := if_pos h
      refine ⟨_, he.trans (done_eq _), ?_, fun hn => absurd h hn, fun _ => ⟨(frame_setTsc s _).settled rfl, ?_⟩⟩
      · rw [settle_tsc_auto]
        rfl
      · rw [settle_tsc_auto]
        rfl
    · have he : exec .resetn s = done ((s.setTsc { s.tsc with resetnLow := true }).startReset .pin) := if_neg h
      refine ⟨_, he.trans (done_eq _), ?_, fun _ => ⟨?_, .of_map (by rw [settle_cmd]; rfl)⟩, fun hh => absurd hh h⟩
      · rw [settle_tsc_auto]
        rfl
      · exact .of_startReset (u := s.setTsc { s.tsc with resetnLow := true })
          (((frame_setTsc s _).then (frame_startReset _ .pin) (by simp) (by simp)).settled rfl) rfl rfl
          (by rw [settle_cmd]; rfl) (settle_tsc_auto _) (settle_lif _) (settle_pin _)
  case soft =>
    obtain ⟨cmd, tsc, _, hd, he⟩ := command_answers (c := .softReset) rfl rfl rfl (by decide) hp
    refine ⟨_, he, .of_startReset (u := (s.setCmd cmd).setTsc tsc) ((hd.touched _ (frame_startReset _ .soft)).mono (by simp))
      ?_ rfl ?_ (settle_tsc_auto _) (settle_lif _) (settle_pin _), ?_⟩
    · rcases hd.quiet with hq | hq
      · exact (show tsc = s.tsc from hq) ▸ rfl
      · exact (show tsc = { s.tsc with autoSleep := 0 } from hq) ▸ rfl
    · rw [settle_cmd]
      exact hd.last
    · rw [settle_cmd]
      exact congrArg (Option.map Transfer.cut) hd.shifted.1
  case ended =>
    have he : exec (.internalResetEnd p) s = done (s.resetEnded p) := if_pos hreset
    refine ⟨_, strapNumber p, he.trans (done_eq _), strapNumber_testBit p, ?_⟩
    rw [settle_of_zero rfl]
    have hframe : Frame [.cmd, .bus, .spi, .pending]
        (State.afterReset s.tsc.cause (strapNumber p) (mapAll Input.pin s.pin.inputs)) (s.resetEnded p) := fun b hb => by
      cases b with
      | cmd | bus | spi | pending => exact absurd hb (by simp)
      | _ => rfl
    exact ⟨hframe, rfl, .of_map rfl, rfl, rfl, rfl⟩

end Sys2Proof.Machine
end

section
/-! The events of the lines: round start, line trouble, positions, closing and idle (ch. 1). -/

namespace Sys2Proof.Machine

theorem OnlyDisarms.settle {s t : State} (h : OnlyDisarms s t) : OnlyDisarms s t.settle :=
  h.trans (.of_pin (settle_pin t))

/-! ### Round start and line trouble -/

/-- Settles O35: START_ISSUED pulls DAT, ROUND_START enters the round with nothing sampled. -/
theorem startsBeginARound : Obligations.StartsBeginARound := by
  refine ⟨fun s hrun hbus hlink hreq hidle hdat => ?issued, fun s hrun hbus hlink => ?start⟩
  case issued =>
    have he : exec .startIssued s = done (s.setLif { s.lif with datDrive := .low }) :=
      if_pos ⟨hrun, hbus, hlink, hreq, hidle, hdat⟩
    exact ⟨_, he.trans (done_eq _), by simp, (frame_setLif s _).only (by rfl)⟩
  case start =>
    have he : exec .roundStart s = done _ := if_pos ⟨hrun, hbus, hlink⟩
    have hframe : Frame [.lif, .rnd] s _ := (frame_setLif s { (s.lif.seeStb .high).seeDat .low with
      link := .round, begun := false, idleTimer := 0, tLow := none, tHigh := some Config.filterTicks }).then
        (frame_setRnd _ { s.rnd with round := some .fresh }) (by simp) (by simp)
    refine ⟨_, he.trans (done_eq _), ?_, ?_, ?_, ?_, ?_, ?_, ?_, ?_, ⟨.fresh, ?_, rfl, rfl, rfl, rfl⟩, hframe.only (by rfl)⟩
    all_goals simp [Config.filterTicks]

@[simp] theorem seek_link (x : Lif) : x.seek.link = .seeking := rfl
@[simp] theorem seek_stbDrive (x : Lif) : x.seek.stbDrive = .released := rfl
@[simp] theorem seek_datDrive (x : Lif) : x.seek.datDrive = .released := rfl
@[simp] theorem seek_idleTimer (x : Lif) : x.seek.idleTimer = 0 := rfl

theorem abandon_round (s : State) (framing : Bool) : (s.abandon framing).rnd.round = none := by
  cases h : s.rnd.round with
  | none =>
    unfold State.abandon
    rw [h]
    exact h
  | some r =>
    unfold State.abandon
    rw [h]
    have hl := (listed_resolveLatches (s.setRnd { s.rnd with round := none }) r).round
    cases framing
    · exact hl
    · exact (congrArg Rnd.round ((frame_framingRecord _ r).rnd_eq rfl)).trans hl

/-- Settles O36: SEEKING after unframed activity, a DAT fall in closing and a framing violation. -/
theorem lineTroubleLeadsToSeeking : Obligations.LineTroubleLeadsToSeeking := by
  refine fun s hrun => ⟨fun hlink => ?unframed, fun hlink hbegun => ?fall, fun hlink => ?framing⟩
  case unframed =>
    have he : exec .unframedActivity s = done (s.setLif (s.lif.seeStb .low).seek) := if_pos ⟨hrun, hlink⟩
    exact ⟨_, he.trans (done_eq _), by simp, by simp, by simp, by simp, (frame_setLif s _).only (by rfl)⟩
  case fall =>
    have he : exec .datFallInClosing s = done (s.setLif (s.lif.seeDat .low).seek) := if_pos ⟨hrun, hlink, hbegun⟩
    exact ⟨_, he.trans (done_eq _), by simp, by simp, by simp, by simp, (frame_setLif s _).only (by rfl)⟩
  case framing =>
    have he : exec .framingViolation s = done ((s.setLif s.lif.seekFromEdge).abandon true) := if_pos ⟨hrun, hlink⟩
    have hframe := (frame_setLif s s.lif.seekFromEdge).then (c := [.lif, .rnd, .slots, .pin, .log, .ntf, .hlt])
      (frame_abandon _ true) (by simp) (by simp)
    have hmild := (mild_setLif s s.lif.seekFromEdge).trans (mild_abandon _ true)
    refine ⟨_, he.trans (done_eq _), ?_, ?_, ?_, ?_, ?_, ?_, ?_, hmild.disarms.settle, hframe.only (by rfl)⟩
    · simp [Lif.seekFromEdge]
    · simp [Lif.seekFromEdge]
    · simp [Lif.seekFromEdge]
    · simp [abandon_round]
    · simp [Lif.seekFromEdge]
      rfl
    · simp
    · exact (settle_flg _).trans (hframe.flg_eq rfl)

/-- A round without a committed arrival resolves nothing (R78). -/
theorem resolveLatches_uncommitted {s : State} {r : Round}
    (h : ∀ n, r.named = some (.arrive, n) → (s.slot n).committed = false) : s.resolveLatches r = s := by
  unfold State.resolveLatches
  split
  · rename_i n hn
    exact if_neg fun hc => by simp [h n hn] at hc
  · rfl

theorem framingRecord_named {s : State} {r : Round} {c : Class} {n : Fin 32} (h : r.named = some (c, n)) :
    s.framingRecord r
      = (s.offer .framing n (BitVec.ofNat 8 c.code) 0#32 (BitVec.ofNat 16 r.samples.length)).raise .bus := by
  unfold State.framingRecord
  rw [h]
  rfl

theorem framingRecord_unnamed {s : State} {r : Round} (h : r.named = none) :
    s.framingRecord r = (s.offer .framing 0 0xFF#8 0#32 (BitVec.ofNat 16 r.samples.length)).raise .bus := by
  unfold State.framingRecord
  rw [h]
  rfl

/-- Settles O37: the fields of the FRAMING record, offered once the round's commitment is resolved, and of the DROPPED one. -/
theorem droppedAndFramingRecordFields : Obligations.DroppedAndFramingRecordFields := by
  refine ⟨fun s r hrun hlink hround => ?framing, fun s c n limit => ?dropped⟩
  case framing =>
    let v := (s.setLif s.lif.seekFromEdge).setRnd { s.rnd with round := none }
    have he : exec .framingViolation s = done ((v.resolveLatches r).framingRecord r) := by
      refine (if_pos ⟨hrun, hlink⟩).trans (congrArg done ?_)
      unfold State.abandon
      rw [setLif_rnd, hround]
      rfl
    have hv : Frame [.lif, .rnd] s v := (frame_setLif s _).then (frame_setRnd _ _) (by simp) (by simp)
    have hm : Mild v (v.resolveLatches r) := mild_resolveLatches v r
    have htsc : (v.resolveLatches r).tsc = v.tsc := (frame_resolveLatches v r).tsc_eq rfl
    refine ⟨v.resolveLatches r, _, he.trans (done_eq _), hm.cfg.trans (hv.cfg_eq rfl), htsc.trans (hv.tsc_eq rfl),
      hv.log_eq rfl ▸ hm.records, fun hc => ?_, fun c n hn => ?_, fun hn => ?_⟩
    · rw [resolveLatches_uncommitted (s := v) hc]
      exact ⟨hv.log_eq rfl, hv.ntf_eq rfl⟩
    · rw [framingRecord_named hn]
      exact (Reporting.settle _).reports
    · rw [framingRecord_unnamed hn]
      exact (Reporting.settle _).reports
  case dropped =>
    exact ((Reporting.of_frame (frame_remove s c n) ⟨rfl, rfl, rfl, rfl⟩).offer _ _ _ _ _).log

/-! ### Positions -/

/-- Judging a sampled position changes the dissent conditions alone (R39). -/
theorem judge_eq (r : Round) : r.judge = { r with dissent := r.judge.dissent } := by
  unfold Round.judge
  repeat' split
  all_goals rfl

@[simp] theorem judge_samples (r : Round) : r.judge.samples = r.samples := by rw [judge_eq]
@[simp] theorem judge_drives (r : Round) : r.judge.drives = r.drives := by rw [judge_eq]
@[simp] theorem judge_lost (r : Round) : r.judge.lost = r.lost := by rw [judge_eq]
@[simp] theorem judge_field (r : Round) : r.judge.field = r.field := by rw [judge_eq]
@[simp] theorem judge_identity (r : Round) : r.judge.identity = r.identity := by rw [judge_eq]; rfl
@[simp] theorem judge_setB (r : Round) : r.judge.setB = r.setB := by rw [judge_eq]; rfl
@[simp] theorem judge_chk (r : Round) : r.judge.chk = r.chk := by rw [judge_eq]; rfl

/-- Each dissent condition is found as its field ends, and at no other position (R39). -/
theorem judge_dissent (r : Round) : r.judge.dissent = { r.dissent with
    cls := if r.samples.length = 8 then (namedRound r.identity).isNone else r.dissent.cls
    skew := if r.samples.length = 12 ∧ r.named.map Prod.fst = some .arrive then r.field.isContend && r.lost
      else r.dissent.skew
    exclusion := if r.samples.length = 76 then r.required.elim r.dissent.exclusion (fun m => r.setB &&& m != 0#32)
      else r.dissent.exclusion
    check := if r.samples.length = 100 then r.chk != r.check else r.dissent.check } := by
  unfold Round.judge Round.position
  split
  · rename_i h
    simp [h]
  · split
    · rename_i h
      split
      · rename_i hn
        simp [h, hn]
      · rename_i hn
        have : ¬(r.named.map Prod.fst = some .arrive) := by
          intro hc
          obtain ⟨⟨c, n⟩, hcn, rfl⟩ := Option.map_eq_some_iff.mp hc
          exact hn n hcn
        simp [h, this]
    · split
      · rename_i h
        split <;> simp [*]
      · split <;> simp [*]

/-- An identity names a round: its class is one of the six, its selector 0 where the class has none (R27). -/
theorem namedRound_isNone (k : Nat) :
    (namedRound k).isNone = false ↔ k / 32 ≤ 5 ∧ (k / 32 = 2 ∨ k / 32 = 3 ∨ k % 32 = 0) := by
  unfold namedRound
  rcases Nat.lt_or_ge (k / 32) 6 with h | h
  · interval_cases hk : k / 32 <;> simp [classOf, Class.hasSelector]
  · have : classOf (k / 32) = none := by
      obtain ⟨m, hm⟩ := Nat.exists_eq_add_of_le' h
      rw [hm]
      rfl
    simp [this]
    omega

theorem isContend_iff (f : FieldDrive) : f.isContend = true ↔ ∃ width e, f = .contend width e := by
  cases f <;> simp [FieldDrive.isContend]

/-- A sample enters a position after its identity is known: the named round stays. -/
theorem named_of_length {r q : Round} (hl : 8 ≤ r.samples.length) {l : Level} (h : q.samples = r.samples ++ [l]) :
    q.named = r.named := by
  have hid : q.identity = r.identity := by
    unfold Round.identity sampledNumber
    rw [h, List.drop_zero, List.drop_zero, List.take_append_of_le_length hl]
  unfold Round.named
  rw [hid, h, List.length_append, if_pos (by omega), if_pos hl]

/-- Settles O40: what a sample makes of the round, and the dissent that it finds. -/
theorem positionsAreSampledAndJudged : Obligations.PositionsAreSampledAndJudged := by
  refine ⟨fun dat s r hrun hlink hbegun hstb hround hpos => ?sampled,
    fun dat s t r r' hrun hlink hbegun hstb hround hpos he hr' => ?judged⟩
  case sampled =>
    have he : exec (.positionSampled dat) s
        = done ((s.setRnd { s.rnd with round := some (r.sample s.lif.datDrive dat).judge }).setLif
            { (s.lif.seeStb .high).seeDat dat with begun := false, tLow := none, tHigh := some Config.filterTicks }) := by
      simp only [exec_positionSampled, execPositionSampled, hround]
      exact if_pos ⟨⟨hrun, hbegun, hstb⟩, hlink, hpos⟩
    refine ⟨_, (r.sample s.lif.datDrive dat).judge, he.trans (done_eq _), by simp, by simp [Round.sample],
      by simp [Round.sample], ?_, by simp [Round.sample], by simp [Round.sample], by simp [hlink], by simp,
      by simp [Config.filterTicks], by simp, by simp, by simp [hstb], by simp, ?_⟩
    · rw [judge_dissent]
      simp [Round.sample]
    · exact ((frame_setRnd s _).then (c := [.lif, .rnd]) (frame_setLif _ _) (by simp) (by simp)).only (by rfl)
  case judged =>
    have hrnd := positionSampled_rnd ⟨hrun, hbegun, hstb⟩ hlink hround hpos he
    obtain rfl : (r.sample s.lif.datDrive dat).judge = r' := by simpa [hrnd] using hr'
    have hlen : (r.sample s.lif.datDrive dat).samples.length = r.samples.length + 1 := by simp [Round.sample]
    have hnamed : r.samples.length = 11 → (r.sample s.lif.datDrive dat).named = r.named := fun h =>
      named_of_length (by omega) rfl
    refine ⟨fun h => ?cls, fun h => ?check, fun n h hn => ?skew, fun c n h hn hc => ?skewElse, fun m h hm => ?exclusion,
      fun h hm => ?exclusionElse, fun h => ?_, fun h => ?_, fun h => ?_, fun h => ?_⟩
    case cls =>
      rw [judge_dissent, judge_identity, ← namedRound_isNone]
      simp [hlen, h]
    case check =>
      rw [judge_dissent, judge_chk, judge_check]
      simp [hlen, h]
    case skew =>
      rw [judge_dissent, judge_lost, ← isContend_iff]
      simp only [hlen, h, hnamed h, hn, Nat.reduceAdd, Option.map_some, and_self, if_true, Bool.and_eq_true]
      rfl
    case skewElse =>
      rw [judge_dissent]
      simp [hlen, h, hnamed h, hn, hc]
      rfl
    case exclusion =>
      have : (r.sample s.lif.datDrive dat).required = some m := hm
      rw [judge_dissent, judge_setB]
      simp [hlen, h, this]
    case exclusionElse =>
      have : (r.sample s.lif.datDrive dat).required = none := hm
      rw [judge_dissent]
      simp [hlen, h, this]
      rfl
    all_goals
      rw [judge_dissent]
      simp [hlen, h]
      rfl

/-! ### Releases -/

/-- Settles O42: the release of STB, the end of closing and the idle bus. -/
theorem stbIsReleasedAndTheBusFramed : Obligations.StbIsReleasedAndTheBusFramed := by
  refine ⟨fun s hrun hbegun => ⟨fun hdrive hlink => ?tlow, fun hdrive hlink => ⟨?high, ?low⟩⟩,
    fun s hrun hstb hdat => ⟨fun hlink => ?idle, fun hlink => ?fault⟩⟩
  case tlow =>
    have he : exec .tlowExpired s = done _ := if_pos ⟨hrun, hbegun, hdrive, hlink⟩
    exact ⟨_, he.trans (done_eq _), by simp, (frame_setLif s _).only (by rfl)⟩
  case high =>
    have he : exec (.closingEnd .high) s = done _ := if_pos ⟨⟨hrun, hbegun, hdrive⟩, hlink⟩
    exact ⟨_, he.trans (done_eq _), by simp, by simp [Config.filterTicks], by simp [Lif.quiet, Lif.release], by simp [Lif.quiet, Lif.release],
      (frame_setLif s _).only (by rfl)⟩
  case low =>
    have he : exec (.closingEnd .low) s = done _ := if_pos ⟨⟨hrun, hbegun, hdrive⟩, hlink⟩
    exact ⟨_, he.trans (done_eq _), by simp, by simp, by simp, (frame_setLif s _).only (by rfl)⟩
  case idle =>
    have he : exec .busIdle s = done (s.setLif { (s.lif.seeStb .high).seeDat .high with
        link := .idle, idleTimer := max s.lif.idleTimer s.cfg.tIdle.toNat }) := by
      refine (if_pos ⟨hrun, hstb, hdat⟩).trans ?_
      rcases hlink with hlink | hlink <;> rw [hlink]
    exact ⟨_, he.trans (done_eq _), by simp, by simp, (frame_setLif s _).only (by rfl)⟩
  case fault =>
    have he : exec .busIdle s = done (s.setLif { (s.lif.seeStb .high).seeDat .high with
        link := .detached, idleTimer := 0 }) := by
      refine (if_pos ⟨hrun, hstb, hdat⟩).trans ?_
      rw [hlink]
    exact ⟨_, he.trans (done_eq _), by simp, (frame_setLif s _).only (by rfl)⟩

end Sys2Proof.Machine
end

section
/-! Expiries of the roll timer and of the slots' timeouts (R56, R81, R82); an arrival that is withdrawn or times out. -/

namespace Sys2Proof.Machine

/-! ### Halt sources -/

theorem haltSource_made {s : State} (h : s.mbr.membership = .online ∧ s.hlt.condition = .running) (cause : Half) :
    s.haltSource cause = s.requestHalt cause := if_pos h

theorem haltSource_none {s : State} (h : ¬(s.mbr.membership = .online ∧ s.hlt.condition = .running)) (cause : Half) :
    s.haltSource cause = s := if_neg h

/-! ### An arrival is gone -/

/-- The station as the arrival of slot `n` is about to go: it differs from `s` in the line interface, in that slot and its
entry, in the round in progress and in the log alone. -/
structure ArrivalGoing (n : SlotNo) (s v : State) : Prop where
  frame : Frame [.lif, .slots, .rnd, .log, .ntf] s v
  others : OtherSlots n s v
  arrival : (v.slot n).arrival = (s.slot n).arrival
  cfg : (v.slot n).cfg = (s.slot n).cfg
  entries : ∀ c' n', (c', n') ≠ (.arrive, n) → findEntry v.rnd.requests c' n' = findEntry s.rnd.requests c' n'

theorem ArrivalGoing.refl (n : SlotNo) (s : State) : ArrivalGoing n s s :=
  ⟨.refl _ s, fun _ _ => rfl, rfl, rfl, fun _ _ _ => rfl⟩

theorem ArrivalGone.of_withdrawNow {n : SlotNo} {timeout : Prop} {s v : State} (h : ArrivalGoing n s v) (k : Kind)
    (ht : ¬(timeout ∧ (s.slot n).cfg.policy = .halt ∧ s.mbr.membership = .online ∧ s.hlt.condition = .running)) :
    ArrivalGone n timeout s (v.withdrawNow n k).settle := by
  have hent : ∀ c' n', (c', n') ≠ (.arrive, n) →
      findEntry (v.withdrawNow n k).settle.rnd.requests c' n' = findEntry s.rnd.requests c' n' := fun c' n' hne => by
    rw [settle_rnd, withdrawNow_rnd, ← h.entries c' n' hne]
    exact findEntry_removeEntry_ne _ _ _ _ _ hne
  have hframe := h.frame.then (c := [.lif, .slots, .rnd, .pin, .log, .ntf, .hlt]) (frame_withdrawNow v n k) (by simp) (by simp)
  have hhlt : (v.withdrawNow n k).settle.hlt = s.hlt :=
    (settle_hlt _).trans (((frame_withdrawNow v n k).hlt_eq rfl).trans (h.frame.hlt_eq rfl))
  refine ⟨fun j hj => ?_, ?_, ?_, fun c' n' h₁ _ => hent c' n' h₁, fun hc => absurd hc ht,
    fun _ => ⟨hhlt, hent .halt 0 (by simp)⟩, hframe.only (by rfl)⟩
  · rw [slot_settle, withdrawNow_other v k hj, h.others j hj]
  · rw [settle_rnd, withdrawNow_rnd]
    exact hasEntry_removeEntry_same _ _ _
  · rw [settle_pin, withdrawNow_pin, h.arrival]
    exact disarmSource_pin_congr (h.frame.pin_eq rfl) _

/-- What a timeout leaves, where its policy makes a halt request (R81). -/
theorem ArrivalGone.of_haltingTimeout {n : SlotNo} {s v : State} (h : ArrivalGoing n s v)
    (hsource : s.mbr.membership = .online ∧ s.hlt.condition = .running) {timeout : Prop}
    (ht : timeout ∧ (s.slot n).cfg.policy = .halt) :
    ArrivalGone n timeout s ((v.withdrawNow n .timeout).requestHalt (timeoutCause n)).settle := by
  have hhlt : (v.withdrawNow n .timeout).hlt = s.hlt := ((frame_withdrawNow v n _).hlt_eq rfl).trans (h.frame.hlt_eq rfl)
  have hcode : (timeoutCause n).toNat = 0x8000 + n.val := Nat.mod_eq_of_lt (by omega)
  have hrnd : ((v.withdrawNow n .timeout).requestHalt (timeoutCause n)).settle.rnd.requests
      = placeEntry (removeEntry v.rnd.requests .arrive n) .halt 0 := by simp
  have hframe := (h.frame.then (c := [.lif, .slots, .rnd, .pin, .log, .ntf, .hlt]) (frame_withdrawNow v n .timeout) (by simp)
    (by simp)).then (c := [.lif, .slots, .rnd, .pin, .log, .ntf, .hlt]) (frame_requestHalt _ (timeoutCause n)) (by simp)
    (by simp)
  refine ⟨fun j hj => ?_, ?_, ?_, fun c' n' h₁ h₂ => ?_, fun _ => ⟨?_, ?_⟩,
    fun hn => absurd ⟨ht.1, ht.2, hsource⟩ hn, hframe.only (by rfl)⟩
  · rw [slot_settle, slot_eq_of_slots ((frame_requestHalt _ _).slots_eq rfl), withdrawNow_other v _ hj, h.others j hj]
  · rw [hrnd, hasEntry_isSome, findEntry_placeEntry_ne _ _ _ _ _ (by simp), findEntry_removeEntry_same]
    rfl
  · rw [settle_pin, (frame_requestHalt _ _).pin_eq rfl, withdrawNow_pin, h.arrival]
    exact disarmSource_pin_congr (h.frame.pin_eq rfl) _
  · rw [hrnd, findEntry_placeEntry_ne _ _ _ _ _ h₂, findEntry_removeEntry_ne _ _ _ _ _ h₁, h.entries c' n' h₁]
  · rw [settle_hlt, requestHalt_hlt, hhlt]
    cases s.hlt.request with
    | none => rfl
    | some c =>
      simp only [lowerCause, hcode]
      rfl
  · rw [hrnd]
    exact hasEntry_placeEntry_same _ _ _

theorem ArrivalGone.of_timeoutNow {n : SlotNo} {timeout : Prop} {s v : State} (h : ArrivalGoing n s v) (ht : timeout) :
    ArrivalGone n timeout s (v.timeoutNow n).settle := by
  have hmbr : (v.withdrawNow n .timeout).mbr = s.mbr := ((frame_withdrawNow v n _).mbr_eq rfl).trans (h.frame.mbr_eq rfl)
  have hhlt : (v.withdrawNow n .timeout).hlt = s.hlt := ((frame_withdrawNow v n _).hlt_eq rfl).trans (h.frame.hlt_eq rfl)
  unfold State.timeoutNow
  dsimp only
  cases hp : (v.slot n).cfg.policy with
  | onlyLocal =>
    refine .of_withdrawNow h _ fun hc => ?_
    rw [h.cfg, hc.2.1] at hp
    cases hp
  | halt =>
    rw [h.cfg] at hp
    by_cases hs : s.mbr.membership = .online ∧ s.hlt.condition = .running
    · have := haltSource_made (s := v.withdrawNow n .timeout) (by rwa [hmbr, hhlt]) (timeoutCause n)
      simp only [this]
      exact .of_haltingTimeout h hs ⟨ht, hp⟩
    · have := haltSource_none (s := v.withdrawNow n .timeout) (by rwa [hmbr, hhlt]) (timeoutCause n)
      simp only [this]
      exact .of_withdrawNow h _ fun hc => hs hc.2.2

/-- A timeout reports and leaves the slot as a withdrawal does; its halt request comes after (R81). -/
theorem timeoutNow_frame (s : State) (n : SlotNo) : Frame [.hlt, .rnd] (s.withdrawNow n .timeout) (s.timeoutNow n) := by
  unfold State.timeoutNow
  dsimp only
  split
  · exact (frame_haltSource _ _).mono (by simp)
  · exact .refl _ _

/-! ### The expiries -/

/-- Settles O31: the roll timer's expiry, and a slot's timeout, committed or not. -/
theorem rollTimerAndTimeoutExpire : Obligations.RollTimerAndTimeoutExpire := by
  refine ⟨fun s hrun hm hperiod => ?roll, fun i s hrun hwait htime => ?timeout⟩
  case roll =>
    have he : exec .rollTimerExpiry s = done ((s.setMbr { s.mbr with rollTimer := 0 }).place .roll 0) :=
      if_pos ⟨hrun, hm, hperiod⟩
    exact ⟨_, he.trans (done_eq _), by simp, .of_place (by simp), .of_place (by simp),
      ((frame_setMbr s _).then (c := [.mbr, .rnd]) (frame_place _ .roll 0) (by simp) (by simp)).only (by rfl)⟩
  case timeout =>
    cases hcom : (s.slot i).committed with
    | true =>
      have he : exec (.timeout i) s = done (s.setSlot i { s.slot i with
          timeoutPending := true, timer := max (s.slot i).timer (s.slot i).timeoutMicros }) :=
        (if_pos ⟨hrun, hwait, htime⟩).trans (if_pos hcom)
      refine ⟨_, he.trans (done_eq _), .of_setSlot (by simp; rfl), fun _ => ⟨?_, (frame_setSlot s i _).only (by rfl)⟩,
        fun h => absurd h (by simp)⟩
      rw [slot_settle, slot_setSlot_same]
    | false =>
      have he : exec (.timeout i) s = done (s.timeoutNow i) :=
        (if_pos ⟨hrun, hwait, htime⟩).trans (if_neg (by simp [hcom]))
      have hgone : ArrivalGone i True s (s.timeoutNow i).settle := .of_timeoutNow (.refl i s) trivial
      have hafter := timeoutNow_frame s i
      refine ⟨_, he.trans (done_eq _), hgone.1, fun h => absurd h (by simp), fun _ => ⟨?_, ?_, ?_, hgone,
        (frame_timeoutNow s i).only (by rfl)⟩⟩
      · rw [slot_settle, slot_eq_of_slots (hafter.slots_eq rfl), withdrawNow_slot]
      · exact (((withdrawNow_reporting s i .timeout).trans (.of_frame hafter ⟨rfl, rfl, rfl, rfl⟩)).trans
          (.settle _)).reportsSlot
      · rw [settle_rnd]
        exact (listed_timeoutNow s i).round

end Sys2Proof.Machine
end

section
/-! Ticks of a running station, and what comes due of the pins at them (R141, R151, R177). Raw and accepted changes of the
inputs, and what the outputs show (ch. 8). -/

namespace Sys2Proof.Machine

/-! ### A tick of a running station -/

/-- With no command waiting a running station counts, and the queue takes what comes due. -/
theorem step_running {s : State} (hp : s.pending = []) (hrun : s.Running) :
    step s = .next (s.tickBegun.countTick.1.setPending
      (s.tickBegun.countTick.1.due s.lif s.tickBegun.countTick.2)).settle := by
  have hpend : s.tickBegun.pending = [] := ((frame_tickBegun s).pending_eq rfl).trans hp
  have hlif : s.tickBegun.lif = s.lif := (frame_tickBegun s).lif_eq rfl
  have htick : s.tick = s.tickBegun.runTick := by
    rcases tick_cases s with ⟨_, h⟩ | ⟨h, _⟩ | ⟨h, _⟩
    · exact h
    · exact absurd hrun (not_running_of_asleep h)
    · rw [hrun.2] at h
      cases h
  have hstep : step s = .next s.tick := by
    unfold step
    rw [hp]
  rw [hstep, htick, State.runTick, hpend, hlif, List.nil_append]

theorem tickBegun_input (s : State) (i : Fin 4) : s.tickBegun.input i = s.input i :=
  congrArg (fun x => x.inputs[i]) ((frame_tickBegun s).pin_eq rfl)

theorem tickBegun_output (s : State) (o : Fin 4) : s.tickBegun.output o = s.output o :=
  congrArg (fun x => x.outputs[o]) ((frame_tickBegun s).pin_eq rfl)

theorem countTick_input (s : State) (i : Fin 4) : s.tickBegun.countTick.1.input i = (s.input i).count := by
  rw [(countTick_counted _).inputs i, tickBegun_input]

theorem countTick_output (s : State) (o : Fin 4) : s.tickBegun.countTick.1.output o = (s.output o).count := by
  rw [(countTick_counted _).outputs o, tickBegun_output]

theorem countTick_pinCfg (s : State) : s.tickBegun.countTick.1.pin.cfg = s.pin.cfg :=
  (countTick_counted _).pinCfg.trans (congrArg Pin.cfg ((frame_tickBegun s).pin_eq rfl))

/-! ### Events of the pins among those due -/

/-- The event comes of a timer of the pins. -/
def ofPins : Instr → Bool
  | .inputAccepted _ | .pulseEnd _ => true
  | _ => false

theorem mem_dueIf {c : Bool} {i x : Instr} : x ∈ dueIf c i ↔ c = true ∧ x = i := by
  unfold dueIf
  split <;> simp_all

theorem not_mem_dueIf {x i : Instr} (hx : ofPins x = true) (hi : ofPins i = false) (c : Bool) : x ∉ dueIf c i := fun h => by
  rw [(mem_dueIf.mp h).2, hi] at hx
  cases hx

theorem not_mem_of_ofPins {x i : Instr} (hx : ofPins x = true) (hi : ofPins i = false) : x ∉ [i] := fun h => by
  rw [List.mem_singleton.mp h, hi] at hx
  cases hx

theorem not_mem_resetDue {c : Instr} (hc : ofPins c = true) (x : Lif) (s : State) : c ∉ s.resetDue x := by
  simp only [State.resetDue, List.mem_append, not_or]
  exact ⟨⟨⟨⟨not_mem_dueIf hc rfl _, not_mem_dueIf hc rfl _⟩, not_mem_dueIf hc rfl _⟩, not_mem_dueIf hc rfl _⟩,
    not_mem_dueIf hc rfl _⟩

theorem not_mem_stuckDue {c : Instr} (hc : ofPins c = true) (s : State) : c ∉ s.stuckDue := by
  unfold State.stuckDue
  dsimp only
  split
  · split
    · exact not_mem_of_ofPins hc rfl
    · exact not_mem_of_ofPins hc rfl
    · exact not_mem_of_ofPins hc rfl
    · exact List.not_mem_nil
  · exact List.not_mem_nil

theorem roundEndRow_ofPins (r : Round) (dis : Level) : ofPins (roundEndRow r dis) = false := by
  unfold roundEndRow
  split
  · rfl
  · split <;> rfl

theorem not_mem_edgesDue {c : Instr} (hc : ofPins c = true) (x : Lif) (s : State) : c ∉ s.edgesDue x := by
  unfold State.edgesDue
  split
  · unfold State.idleDue
    dsimp only
    split
    · exact not_mem_of_ofPins hc rfl
    · exact not_mem_dueIf hc rfl _
  · unfold State.roundDue
    dsimp only
    split
    · exact not_mem_of_ofPins hc rfl
    · split
      · split
        · split
          · exact not_mem_of_ofPins hc rfl
          · exact not_mem_of_ofPins hc (roundEndRow_ofPins _ _)
        · exact List.not_mem_nil
      · exact not_mem_dueIf hc rfl _
  · unfold State.closingDue
    dsimp only
    split
    · exact not_mem_dueIf hc rfl _
    · split
      · exact not_mem_of_ofPins hc rfl
      · exact not_mem_dueIf hc rfl _
  · exact List.not_mem_nil

theorem not_mem_linesDue {c : Instr} (hc : ofPins c = true) (x : Lif) (s : State) : c ∉ s.linesDue x := by
  have hlow : c ∉ s.tLowDue := by
    unfold State.tLowDue
    split
    · exact not_mem_dueIf hc rfl _
    · exact List.not_mem_nil
  have hidle : c ∉ s.busIdleDue := by
    simp only [State.busIdleDue, List.mem_append, not_or]
    exact ⟨not_mem_dueIf hc rfl _, not_mem_dueIf hc rfl _⟩
  simp only [State.linesDue, List.mem_append, not_or]
  exact ⟨⟨⟨⟨not_mem_resetDue hc x s, not_mem_stuckDue hc s⟩, not_mem_edgesDue hc x s⟩, hlow⟩, hidle⟩

theorem not_mem_microDue {c : Instr} (hc : ofPins c = true) (s : State) : c ∉ s.rollDue ++ s.timeoutsDue := by
  simp only [State.timeoutsDue, List.mem_append, not_or, List.mem_flatMap, not_exists, not_and]
  exact ⟨not_mem_dueIf hc rfl _, fun i _ => not_mem_dueIf hc rfl _⟩

/-- An event of the pins is due exactly as the pin unit's own timers say. -/
theorem mem_due_ofPins {c : Instr} (hc : ofPins c = true) (x : Lif) (micro : Bool) (s : State) :
    c ∈ s.due x micro ↔ c ∈ s.pulsesDue ∨ c ∈ s.inputsDue := by
  have hauto : c ∉ s.autoSleepDue := not_mem_dueIf hc rfl _
  have hmicro := not_mem_microDue hc s
  rw [List.mem_append, not_or] at hmicro
  cases micro <;> simp [State.due, State.expiriesDue, not_mem_linesDue hc, hauto, hmicro]

theorem mem_inputsDue (s : State) (i : Fin 4) :
    .inputAccepted i ∈ s.inputsDue ↔ ∃ n, (s.input i).timer = some n ∧ (s.input i).pin ≠ (s.input i).filtered
      ∧ s.acceptTicks i ≤ n := by
  simp only [State.inputsDue, List.mem_flatMap, List.mem_finRange, true_and]
  constructor
  · rintro ⟨j, hj⟩
    split at hj
    · rename_i n hn
      obtain ⟨hc, he⟩ := mem_dueIf.mp hj
      obtain rfl : i = j := Instr.inputAccepted.inj he
      simp only [Bool.and_eq_true, bne_iff_ne, decide_eq_true_eq] at hc
      exact ⟨n, hn, hc⟩
    · cases hj
  · rintro ⟨n, hn, hc⟩
    refine ⟨i, ?_⟩
    rw [hn]
    exact mem_dueIf.mpr ⟨by simpa using hc, rfl⟩

theorem mem_pulsesDue (s : State) (o : Fin 4) :
    .pulseEnd o ∈ s.pulsesDue ↔ ∃ n, (s.output o).pulse = some n ∧ 16 * (s.outputCfg o).width.toNat ≤ n := by
  simp only [State.pulsesDue, List.mem_flatMap, List.mem_finRange, true_and]
  constructor
  · rintro ⟨j, hj⟩
    split at hj
    · rename_i n hn
      obtain ⟨hc, he⟩ := mem_dueIf.mp hj
      obtain rfl : o = j := Instr.pulseEnd.inj he
      exact ⟨n, hn, of_decide_eq_true hc⟩
    · cases hj
  · rintro ⟨n, hn, hc⟩
    refine ⟨o, ?_⟩
    rw [hn]
    exact mem_dueIf.mpr ⟨decide_eq_true hc, rfl⟩

theorem inputAccepted_not_mem_pulsesDue (s : State) (i : Fin 4) : .inputAccepted i ∉ s.pulsesDue := by
  simp only [State.pulsesDue, List.mem_flatMap, not_exists, not_and]
  intro o _ h
  split at h
  · exact Instr.noConfusion (mem_dueIf.mp h).2
  · cases h

theorem pulseEnd_not_mem_inputsDue (s : State) (o : Fin 4) : .pulseEnd o ∉ s.inputsDue := by
  simp only [State.inputsDue, List.mem_flatMap, not_exists, not_and]
  intro i _ h
  split at h
  · exact Instr.noConfusion (mem_dueIf.mp h).2
  · cases h

/-! ### Outputs -/

/-- Settles O34: the end of a pulse, when it comes due, and what an output shows in each mode. -/
theorem outputsPulseAndFollowTheirMode : Obligations.OutputsPulseAndFollowTheirMode := by
  refine ⟨fun o s hrun hpulse => ?ends, fun o n s hp hrun hpulse => ?due, fun o s hreset => ?shows⟩
  case ends =>
    have hsome : (s.output o).pulse.isSome = true := Option.isSome_iff_ne_none.mpr hpulse
    have he : exec (.pulseEnd o) s = done (s.setOutput o { active := false, pulse := none }) := if_pos ⟨hrun, hsome⟩
    refine ⟨_, he.trans (done_eq _), ?_, fun j hj => ?_, by simp, by simp, (frame_setOutput s o _).only (by rfl)⟩
    · rw [output_settle, output_setOutput_same]
    · rw [output_settle, output_setOutput_ne _ _ _ _ hj]
  case due =>
    have hout : s.tickBegun.countTick.1.output o = (s.output o).count := countTick_output s o
    have hwidth : s.tickBegun.countTick.1.outputCfg o = s.outputCfg o :=
      congrArg (fun x => x.outputs[o]) (countTick_pinCfg s)
    refine ⟨_, step_running hp hrun, ?_, ?_⟩
    · rw [output_settle]
      exact (congrArg Output.pulse hout).trans (by simp [Output.count, hpulse, bump])
    · rw [settle_pending, setPending_pending, mem_due_ofPins rfl, mem_pulsesDue, hout, hwidth]
      simp [pulseEnd_not_mem_inputsDue, Output.count, hpulse, bump]
  case shows =>
    refine ⟨fun h => ?_, fun h => ?_, fun h => ?_, fun h => ?_, fun h => ?_, fun h => ?_, ?_⟩
    · rcases h with h | h <;> simp [State.outputActive, hreset, h]
    · simp [State.outputActive, hreset, h]
    · simp [State.outputActive, hreset, h]
    · simp [State.outputActive, hreset, h]
    · simp [State.outputActive, hreset, h]
    · simp [State.outputActive, hreset, h]
    · unfold State.outputPin
      cases s.outputActive o <;> cases (s.outputCfg o).polarity <;> simp [hreset]

/-! ### Inputs -/

/-- An accepted change leaves the pin unit as it was, but that a level-armed input whose attempt is refused is disarmed
(R144). -/
theorem actOnBinding_pin (s : State) (i : Fin 4) (l : Level) :
    (s.actOnBinding i l).pin = s.pin
      ∨ (l = (s.inputCfg i).detection.active ∧ (s.actOnBinding i l).pin = (s.disarm i).pin) := by
  unfold State.actOnBinding
  dsimp only
  split
  · exact .inl rfl
  · unfold State.inputArrive
    dsimp only
    split
    · split
      · rename_i h
        rcases levelAttempt_cases s i with ⟨_, he⟩ | ⟨_, he⟩
        · rw [he]
          exact .inl ((frame_takeArrival s _ _ _).pin_eq rfl)
        · rw [he]
          exact .inr ⟨h.1, rfl⟩
      · exact .inl rfl
    · split
      · exact .inl ((frame_attempt s _ _ _).pin_eq rfl)
      · exact .inl rfl
  · exact .inl ((Frame.ite (frame_requestSet s _) (.refl _ s)).pin_eq rfl)
  · exact .inl ((Frame.ite (frame_requestClear s _) (.refl _ s)).pin_eq rfl)
  · exact .inl ((Frame.ite (frame_requestSet s _) (frame_requestClear s _)).pin_eq rfl)
  · refine .inl ((Frame.ite (Frame.ite (frame_inputHalt s i) ((frame_inputUnhalt s i).mono (by simp)))
      (Frame.ite (frame_haltSource s _) (.refl [.hlt, .rnd] s))).pin_eq rfl)

/-- What the acceptance makes of the input itself, before its binding acts (R141, R144). -/
def Input.accepted (c : InputConfig) (x : Input) : Input :=
  { x with filtered := x.pin, timer := none, armed := x.armed || x.pin != c.detection.active }

theorem acceptLevel_input (s : State) (i : Fin 4) : (s.acceptLevel i).input i = (s.input i).accepted (s.inputCfg i) :=
  input_setInput_same s i _

/-- The inputs after an accepted change of input `i`. -/
theorem accepted_inputs (s : State) (i : Fin 4) :
    let v := (s.acceptLevel i).actOnBinding i (s.input i).pin
    (v.input i = (s.input i).accepted (s.inputCfg i)
        ∨ ((s.input i).pin = (s.inputCfg i).detection.active ∧ v.input i = ((s.input i).accepted (s.inputCfg i)).disarmed))
      ∧ ∀ j, j ≠ i → v.input j = s.input j := by
  intro v
  have hother : ∀ j, j ≠ i → (s.acceptLevel i).input j = s.input j := fun j hj => input_setInput_ne _ _ _ _ hj
  have hpin := actOnBinding_pin (s.acceptLevel i) i (s.input i).pin
  have hcfg : (s.acceptLevel i).inputCfg i = s.inputCfg i := rfl
  rcases hpin with h | ⟨hl, h⟩
  · have hv : ∀ j, v.input j = (s.acceptLevel i).input j := fun j => congrArg (fun x => x.inputs[j]) h
    exact ⟨.inl ((hv i).trans (acceptLevel_input s i)), fun j hj => (hv j).trans (hother j hj)⟩
  · have hv : ∀ j, v.input j = ((s.acceptLevel i).disarm i).input j := fun j => congrArg (fun x => x.inputs[j]) h
    refine ⟨?_, fun j hj => (hv j).trans ((disarm_input_other _ hj).trans (hother j hj))⟩
    rw [hv, disarm_input_same]
    split
    · exact .inr ⟨hl, congrArg Input.disarmed (acceptLevel_input s i)⟩
    · exact .inl (acceptLevel_input s i)

theorem inputChange_running {s : State} (hrun : s.Running) (i : Fin 4) (l : Level) :
    exec (.inputChange i l) s = done (s.movePin i l) := by
  show execInputChange i l s = _
  unfold execInputChange
  rw [hrun.1]

theorem inputChange_asleep {s : State} (h : s.tsc.power = .sleep) (i : Fin 4) (l : Level) :
    exec (.inputChange i l) s = done (s.rawEdge i l) := by
  show execInputChange i l s = _
  unfold execInputChange
  rw [h]

/-- A raw edge that wakes nothing moves the pin alone (R149). -/
theorem rawEdge_quiet {s : State} {i : Fin 4} {l : Level}
    (h : ¬((s.input i).wakeArmed = true ∧ (s.input i).pin ≠ l ∧ s.tsc.inReset = false)) : s.rawEdge i l = s.movePin i l :=
  if_neg h

/-- The pin has the new level; what the filter holds and whether it is armed stay (R141). -/
theorem movePin_held_items (s : State) (i : Fin 4) (l : Level) :
    ((s.movePin i l).input i).pin = l ∧ ((s.movePin i l).input i).filtered = (s.input i).filtered
      ∧ ((s.movePin i l).input i).armed = (s.input i).armed := by
  by_cases hpin : (s.input i).pin = l
  · rw [movePin_same hpin]
    exact ⟨hpin, rfl, rfl⟩
  · by_cases hrun : s.Running
    · rw [movePin_running hpin hrun, input_setInput_same]
      exact ⟨rfl, rfl, rfl⟩
    · rw [movePin_held hpin hrun, input_setInput_same]
      exact ⟨rfl, rfl, rfl⟩

theorem movePin_other (s : State) {i j : Fin 4} (l : Level) (h : j ≠ i) : (s.movePin i l).input j = s.input j := by
  by_cases hpin : (s.input i).pin = l
  · rw [movePin_same hpin]
  · by_cases hrun : s.Running
    · rw [movePin_running hpin hrun, input_setInput_ne _ _ _ _ h]
    · rw [movePin_held hpin hrun, input_setInput_ne _ _ _ _ h]

theorem frame_settle_asleep {s : State} {c : List Block} {u : State} (hsleep : u.tsc.power = .sleep) (h : Frame c s u) :
    Frame c s u.settle := by
  rw [settle_asleep hsleep]
  exact h

/-- Settles O32: a raw change of a pin, its acceptance, and when the acceptance comes due. -/
theorem inputsAreFiltered : Obligations.InputsAreFiltered := by
  refine ⟨fun i l s => ?change, fun i s hrun hpin => ?accepted, fun i s hp hrun => ?due⟩
  case change =>
    cases hpower : s.tsc.power with
    | active =>
      have he : exec (.inputChange i l) s = done (s.movePin i l) := by
        show execInputChange i l s = _
        unfold execInputChange
        rw [hpower]
      obtain ⟨h₁, h₂, h₃⟩ := movePin_held_items s i l
      refine ⟨_, he.trans (done_eq _), by rw [input_settle, h₁], by rw [input_settle, h₂], by rw [input_settle, h₃],
        fun hrun hne => ⟨?_, fun j hj => ?_, (frame_movePin s i l).only (by rfl)⟩, fun hrun heq => ?_,
        fun h => absurd h (by simp), fun h => absurd h (by simp), fun h => absurd h (by simp)⟩
      · rw [input_settle, movePin_running hne hrun, input_setInput_same]
      · rw [input_settle, movePin_other s l hj]
      · rw [movePin_same heq]
        exact (Frame.refl [] s).only (by rfl)
    | sleep =>
      have hnot : ¬s.Running := not_running_of_asleep hpower
      by_cases hwake : (s.input i).wakeArmed = true ∧ (s.input i).pin ≠ l ∧ s.tsc.inReset = false
      · have hw := rawEdge_woken hpower hwake.2.2 hwake.1 hwake.2.1
        exact ⟨_, (inputChange_asleep hpower i l).trans (done_eq _), hw.pin, hw.filtered, hw.armed,
          fun h => absurd h hnot, fun h => absurd h hnot, fun _ h => absurd hwake.1 (by simp [h]),
          fun _ h => absurd h hwake.2.1, fun _ _ _ _ => ⟨hw.begun, hw.awake⟩⟩
      · have he := (inputChange_asleep hpower i l).trans (done_eq _)
        rw [rawEdge_quiet hwake] at he
        obtain ⟨h₁, h₂, h₃⟩ := movePin_held_items s i l
        have hsleep : (s.movePin i l).tsc.power = .sleep := by rw [(frame_movePin s i l).tsc_eq rfl, hpower]
        refine ⟨_, he, by rw [input_settle, h₁], by rw [input_settle, h₂], by rw [input_settle, h₃],
          fun h => absurd h hnot, fun h => absurd h hnot, fun _ _ => ⟨fun j hj => ?_, ?_⟩, fun _ heq => ?_,
          fun _ hr ha hne => absurd ⟨ha, hne, hr⟩ hwake⟩
        · rw [input_settle, movePin_other s l hj]
        · exact frame_settle_asleep hsleep (frame_movePin s i l)
        · rw [movePin_same heq]
          exact frame_settle_asleep hpower (.refl _ s)
  case accepted =>
    have he : exec (.inputAccepted i) s = done ((s.acceptLevel i).actOnBinding i (s.input i).pin) := if_pos ⟨hrun, hpin⟩
    obtain ⟨hsame, hother⟩ := accepted_inputs s i
    have hframe := (frame_acceptLevel s i).then (c := [.pin, .slots, .rnd, .flg, .hlt])
      (frame_actOnBinding _ i (s.input i).pin) (by simp) (by simp)
    refine ⟨_, he.trans (done_eq _), ?_, ?_, ?_, fun hne => ?_, fun j hj => ?_, fun hoff => ?_, hframe.only (by rfl)⟩
    · rw [input_settle]
      rcases hsame with h | ⟨_, h⟩ <;> rw [h] <;> rfl
    · rw [input_settle]
      rcases hsame with h | ⟨_, h⟩ <;> rw [h] <;> rfl
    · rw [input_settle]
      rcases hsame with h | ⟨_, h⟩ <;> rw [h] <;> rfl
    · rw [input_settle]
      rcases hsame with h | ⟨heq, _⟩
      · rw [h]
        simp [Input.accepted, hne]
      · exact absurd heq hne
    · rw [input_settle, hother j hj]
    · have : (s.acceptLevel i).actOnBinding i (s.input i).pin = s.acceptLevel i := by
        have hcfg : ((s.acceptLevel i).inputCfg i).binding = .off := hoff
        simp only [State.actOnBinding, hcfg]
      rw [this]
      exact (frame_acceptLevel s i).only (by rfl)
  case due =>
    have hin : s.tickBegun.countTick.1.input i = (s.input i).count := countTick_input s i
    have hacc : s.tickBegun.countTick.1.acceptTicks i
        = if (s.inputCfg i).debounce then 16 * (32 * (s.pin.cfg.debounce.toNat + 1)) else 2 := by
      have hc : s.tickBegun.countTick.1.inputCfg i = s.inputCfg i := congrArg (fun x => x.inputs[i]) (countTick_pinCfg s)
      simp only [State.acceptTicks, hc, countTick_pinCfg, Config.ticksPerMicro, Config.filterTicks]
      split
      · omega
      · rfl
    refine ⟨_, step_running hp hrun, ?_⟩
    rw [settle_pending, setPending_pending, mem_due_ofPins rfl, mem_inputsDue, hin, hacc]
    simp [inputAccepted_not_mem_pulsesDue, Input.count, bump]

end Sys2Proof.Machine
end

section
/-! What an accepted change of an input asks for, by its binding (R142 to R148). -/

namespace Sys2Proof.Machine

/-! ### The table of detection modes -/

theorem detection_table (d : Detection) (l : Level) :
    (d.active = .high ↔ d = .rising ∨ d = .both ∨ d = .high)
      ∧ (d.isLevel = true ↔ d = .high ∨ d = .low)
      ∧ (d.isEdge l = true ↔ d = .rising ∧ l = .high ∨ d = .falling ∧ l = .low ∨ d = .both) := by
  cases d <;> cases l <;> decide

theorem asks_iff (c : InputConfig) (l : Level) :
    c.asks l = true ↔ if c.detection.isLevel = true then l = c.detection.active else c.detection.isEdge l = true := by
  unfold InputConfig.asks
  split <;> simp

/-! ### Arrivals -/

/-- What an input bound to ARRIVE makes of the station: nothing, its own disarming, or an arrival on its target. -/
theorem inputArrive_cases (s : State) (i : Fin 4) (l : Level) :
    s.inputArrive i l = s ∨ s.inputArrive i l = s.disarm i
      ∨ s.inputArrive i l = s.takeArrival (low5 (s.inputCfg i).target) (s.inputCfg i).value (.input i) := by
  unfold State.inputArrive
  dsimp only
  split
  · split
    · rcases levelAttempt_cases s i with ⟨_, he⟩ | ⟨_, he⟩
      · exact .inr (.inr he)
      · exact .inr (.inl he)
    · exact .inl rfl
  · split
    · rcases attempt_cases s (low5 (s.inputCfg i).target) (s.inputCfg i).value (.input i) with ⟨_, he⟩ | ⟨_, he⟩
      · exact .inr (.inr (congrArg Prod.fst he))
      · exact .inl (congrArg Prod.fst he)
    · exact .inl rfl

theorem inputArrive_level {s : State} {i : Fin 4} {l : Level} (hlevel : (s.inputCfg i).detection.isLevel = true)
    (hactive : l = (s.inputCfg i).detection.active) (harmed : (s.input i).armed = true) :
    s.inputArrive i l = s.levelAttempt i := (if_pos hlevel).trans (if_pos ⟨hactive, harmed⟩)

theorem inputArrive_levelElse {s : State} {i : Fin 4} {l : Level} (hlevel : (s.inputCfg i).detection.isLevel = true)
    (h : ¬(l = (s.inputCfg i).detection.active ∧ (s.input i).armed = true)) : s.inputArrive i l = s :=
  (if_pos hlevel).trans (if_neg h)

theorem inputArrive_edge {s : State} {i : Fin 4} {l : Level} (hlevel : (s.inputCfg i).detection.isLevel = false)
    (hedge : (s.inputCfg i).detection.isEdge l = true) :
    s.inputArrive i l = (s.attempt (low5 (s.inputCfg i).target) (s.inputCfg i).value (.input i)).1 :=
  (if_neg (by simp [hlevel])).trans (if_pos hedge)

theorem inputArrive_edgeElse {s : State} {i : Fin 4} {l : Level} (hlevel : (s.inputCfg i).detection.isLevel = false)
    (hedge : (s.inputCfg i).detection.isEdge l = false) : s.inputArrive i l = s :=
  (if_neg (by simp [hlevel])).trans (if_neg (by simp [hedge]))

/-- An arrival has been taken on slot `n` from input `i` (R74, R143). -/
structure Arrived (n : SlotNo) (i : Fin 4) (s t : State) : Prop where
  arrival : (t.slot n).arrival = some { value := (s.inputCfg i).value, source := .input i, time := s.tsc.time }
  waiting : (t.slot n).state = .waiting
  entry : hasEntry t.rnd.requests .arrive n = true
  input : t.input i = (s.input i).accepted (s.inputCfg i)

theorem Arrived.of_take (s : State) (n : SlotNo) (i : Fin 4) :
    Arrived n i s ((s.acceptLevel i).takeArrival n (s.inputCfg i).value (.input i)).settle := by
  refine ⟨?_, ?_, ?_, ?_⟩
  · rw [slot_settle, takeArrival_slot]
    rfl
  · rw [slot_settle, takeArrival_slot]
  · rw [settle_rnd, takeArrival_rnd]
    exact hasEntry_placeEntry_same _ _ _
  · rw [input_settle]
    exact (congrArg (fun x => x.inputs[i]) ((frame_takeArrival (s.acceptLevel i) n _ _).pin_eq rfl)).trans
      (acceptLevel_input s i)

/-- A level-armed input is disarmed as the attempt that its change into the active level makes is refused (R144). -/
theorem accepted_disarm {s : State} {i : Fin 4} (hbinding : (s.inputCfg i).binding = .arrive)
    (hlevel : (s.inputCfg i).detection.isLevel = true) (hactive : (s.input i).pin = (s.inputCfg i).detection.active) :
    ((s.acceptLevel i).disarm i).input i = ((s.input i).accepted (s.inputCfg i)).disarmed := by
  have hin : (s.acceptLevel i).InputActive i := (congrArg Input.filtered (acceptLevel_input s i)).trans hactive
  rw [disarm_input_same, if_pos ⟨⟨hbinding, hlevel⟩, hin⟩, acceptLevel_input]

/-! ### Owners and their entries -/

/-- The meaning of the row: the acceptance, then the binding's act. -/
theorem inputAccepted_next {i : Fin 4} {s t : State} (hrun : s.Running) (hpin : (s.input i).pin ≠ (s.input i).filtered)
    (h : exec (.inputAccepted i) s = .next t) : t = ((s.acceptLevel i).actOnBinding i (s.input i).pin).settle :=
  done_eq_next.mp ((if_pos ⟨hrun, hpin⟩).symm.trans h)

theorem askSet_not_quiet (f : Flg) (n : Fin 32) : ¬(f.askSet (only n)).Quiet := fun h => by
  have hbit := congrArg (BitVec.getLsbD · n.val) h
  simp [Flg.askSet, only] at hbit

theorem askClear_not_quiet (f : Flg) (n : Fin 32) : ¬(f.askClear (only n)).Quiet := fun h => by
  have hbit := congrArg (BitVec.getLsbD · n.val) h
  simp [Flg.askClear, only] at hbit

/-- A request of one flag bit at an ONLINE station, made on a state that differs from `s` in the pin unit alone (R113). -/
theorem flagsAsked_request {s a : State} (hframe : Frame [.pin] s a) {f : Flg} (hask : ¬f.Quiet) :
    Placed .flags 0 s ((a.setFlg f).syncFlagsEntry).settle ∧ ((a.setFlg f).syncFlagsEntry).settle.flg = f := by
  have hrnd : ((a.setFlg f).syncFlagsEntry).settle.rnd = { s.rnd with requests := placeEntry s.rnd.requests .flags 0 } := by
    rw [settle_rnd, syncFlagsEntry_rnd]
    exact (if_neg hask).trans (by rw [setFlg_rnd, hframe.rnd_eq rfl])
  exact ⟨.of_place (by rw [hrnd]), by rw [settle_flg, (frame_syncFlagsEntry _).flg_eq rfl, setFlg_flg]⟩

theorem actOnBinding_arrive {s : State} {i : Fin 4} (h : (s.inputCfg i).binding = .arrive) (l : Level) :
    s.actOnBinding i l = s.inputArrive i l := by
  simp only [State.actOnBinding, h]

theorem actOnBinding_flagSet {s : State} {i : Fin 4} (h : (s.inputCfg i).binding = .flagSet) (l : Level) :
    s.actOnBinding i l
      = if (s.inputCfg i).asks l then s.requestSet (only (low5 (s.inputCfg i).target)) else s := by
  simp only [State.actOnBinding, h]

theorem actOnBinding_flagClear {s : State} {i : Fin 4} (h : (s.inputCfg i).binding = .flagClear) (l : Level) :
    s.actOnBinding i l
      = if (s.inputCfg i).asks l then s.requestClear (only (low5 (s.inputCfg i).target)) else s := by
  simp only [State.actOnBinding, h]

theorem actOnBinding_flagFollow {s : State} {i : Fin 4} (h : (s.inputCfg i).binding = .flagFollow) (l : Level) :
    s.actOnBinding i l
      = if l = (s.inputCfg i).detection.active then s.requestSet (only (low5 (s.inputCfg i).target))
        else s.requestClear (only (low5 (s.inputCfg i).target)) := by
  simp only [State.actOnBinding, h]

theorem actOnBinding_halt {s : State} {i : Fin 4} (h : (s.inputCfg i).binding = .halt) (l : Level) :
    s.actOnBinding i l
      = if (s.inputCfg i).detection.isLevel then
          if l = (s.inputCfg i).detection.active then s.inputHalt i else s.inputUnhalt i
        else if (s.inputCfg i).detection.isEdge l then s.haltSource (inputCause i) else s := by
  simp only [State.actOnBinding, h]

theorem requestSet_online {s : State} (h : s.mbr.membership = .online) (m : Set32) :
    s.requestSet m = (s.setFlg (s.flg.askSet m)).syncFlagsEntry := if_pos h

theorem requestSet_offline {s : State} (h : s.mbr.membership ≠ .online) (m : Set32) : s.requestSet m = s := if_neg h

theorem requestClear_online {s : State} (h : s.mbr.membership = .online) (m : Set32) :
    s.requestClear m = (s.setFlg (s.flg.askClear m)).syncFlagsEntry := if_pos h

theorem requestClear_offline {s : State} (h : s.mbr.membership ≠ .online) (m : Set32) : s.requestClear m = s := if_neg h

/-- A state that differs from `s` in the pin unit alone has its flags, slots, halt unit and list. -/
theorem settled_of_pin {s a : State} (h : Frame [.pin] s a) :
    a.settle.slots = s.slots ∧ a.settle.rnd = s.rnd ∧ a.settle.flg = s.flg ∧ a.settle.hlt = s.hlt :=
  ⟨(settle_slots a).trans (h.slots_eq rfl), (settle_rnd a).trans (h.rnd_eq rfl), (settle_flg a).trans (h.flg_eq rfl),
    (settle_hlt a).trans (h.hlt_eq rfl)⟩

theorem OtherEntries.refl (c : Class) (n : Fin 32) {s t : State} (h : t.rnd = s.rnd) : OtherEntries c n s t :=
  ⟨by rw [h], fun _ _ _ => by rw [h]⟩

/-- What a request of one flag bit does to the list and to the blocks, on a state that differs from `s` in the pin unit
alone. -/
theorem flagRequest_others {s a : State} (hframe : Frame [.pin] s a) {u : State}
    (h : u = a ∨ ∃ f, u = (a.setFlg f).syncFlagsEntry) :
    OtherEntries .flags 0 s u.settle ∧ Only [.pin, .flg, .rnd] s u.settle := by
  rcases h with rfl | ⟨f, rfl⟩
  · exact ⟨.refl _ _ (settled_of_pin hframe).2.1, (hframe.mono (by simp)).only (by rfl)⟩
  · have hrnd := syncFlagsEntry_rnd (a.setFlg f)
    have hframe' := (hframe.then (c := [.pin, .flg, .rnd]) (frame_setFlg a f) (by simp) (by simp)).then
      (c := [.pin, .flg, .rnd]) (frame_syncFlagsEntry _) (by simp) (by simp)
    refine ⟨?_, hframe'.only (by rfl)⟩
    rw [setFlg_rnd, hframe.rnd_eq rfl] at hrnd
    split at hrnd
    · exact .of_remove (by rw [settle_rnd, hrnd])
    · exact .of_place (by rw [settle_rnd, hrnd])

theorem flagRequest_cases (s : State) (m : Set32) :
    (s.requestSet m = s ∨ ∃ f, s.requestSet m = (s.setFlg f).syncFlagsEntry)
      ∧ (s.requestClear m = s ∨ ∃ f, s.requestClear m = (s.setFlg f).syncFlagsEntry) := by
  by_cases h : s.mbr.membership = .online
  · exact ⟨.inr ⟨_, requestSet_online h m⟩, .inr ⟨_, requestClear_online h m⟩⟩
  · exact ⟨.inl (requestSet_offline h m), .inl (requestClear_offline h m)⟩

/-- A flag-bound input asks for nothing, or for a set or a clear request of its bit. -/
theorem actOnBinding_flags {s : State} {i : Fin 4} {l : Level}
    (h : (s.inputCfg i).binding = .flagSet ∨ (s.inputCfg i).binding = .flagClear ∨ (s.inputCfg i).binding = .flagFollow) :
    s.actOnBinding i l = s ∨ ∃ f, s.actOnBinding i l = (s.setFlg f).syncFlagsEntry := by
  obtain ⟨hset, hclear⟩ := flagRequest_cases s (only (low5 (s.inputCfg i).target))
  rcases h with h | h | h
  · rw [actOnBinding_flagSet h]
    split
    · exact hset
    · exact .inl rfl
  · rw [actOnBinding_flagClear h]
    split
    · exact hclear
    · exact .inl rfl
  · rw [actOnBinding_flagFollow h]
    split
    · exact hset
    · exact hclear

/-! ### Halt sources of inputs -/

theorem inputHalt_online {s : State} (h : s.mbr.membership = .online) (i : Fin 4) :
    s.inputHalt i = (s.haltSource (inputCause i)).setHlt { (s.haltSource (inputCause i)).hlt with
      inputHold := (s.haltSource (inputCause i)).hlt.inputHold ||| inputBit i } := if_pos h

theorem inputHalt_offline {s : State} (h : s.mbr.membership ≠ .online) (i : Fin 4) : s.inputHalt i = s := if_neg h

theorem actOnBinding_haltActive {s : State} {i : Fin 4} {l : Level} (h : (s.inputCfg i).binding = .halt)
    (hlevel : (s.inputCfg i).detection.isLevel = true) (hl : l = (s.inputCfg i).detection.active) :
    s.actOnBinding i l = s.inputHalt i := (actOnBinding_halt h l).trans ((if_pos hlevel).trans (if_pos hl))

theorem actOnBinding_haltInactive {s : State} {i : Fin 4} {l : Level} (h : (s.inputCfg i).binding = .halt)
    (hlevel : (s.inputCfg i).detection.isLevel = true) (hl : l ≠ (s.inputCfg i).detection.active) :
    s.actOnBinding i l = s.inputUnhalt i := (actOnBinding_halt h l).trans ((if_pos hlevel).trans (if_neg hl))

theorem actOnBinding_haltEdge {s : State} {i : Fin 4} {l : Level} (h : (s.inputCfg i).binding = .halt)
    (hlevel : (s.inputCfg i).detection.isLevel = false) :
    s.actOnBinding i l = if (s.inputCfg i).detection.isEdge l then s.haltSource (inputCause i) else s :=
  (actOnBinding_halt h l).trans (if_neg (by simp [hlevel]))

/-- The list after what a halt-bound input asks for: the HALT entry placed, or the list as it was. -/
theorem actOnBinding_halt_rnd {s : State} {i : Fin 4} (h : (s.inputCfg i).binding = .halt) (l : Level) :
    (s.actOnBinding i l).rnd = s.rnd
      ∨ (s.actOnBinding i l).rnd = { s.rnd with requests := placeEntry s.rnd.requests .halt 0 } := by
  have hsource : (s.haltSource (inputCause i)).rnd = s.rnd
      ∨ (s.haltSource (inputCause i)).rnd = { s.rnd with requests := placeEntry s.rnd.requests .halt 0 } := by
    by_cases hs : s.mbr.membership = .online ∧ s.hlt.condition = .running
    · rw [haltSource_made hs]
      exact .inr (requestHalt_rnd s _)
    · rw [haltSource_none hs]
      exact .inl rfl
  rw [actOnBinding_halt h]
  split
  · split
    · by_cases hon : s.mbr.membership = .online
      · rw [inputHalt_online hon]
        exact hsource
      · rw [inputHalt_offline hon]
        exact .inl rfl
    · exact .inl rfl
  · split
    · exact hsource
    · exact .inl rfl

theorem frame_actOnBinding_halt {s : State} {i : Fin 4} (h : (s.inputCfg i).binding = .halt) (l : Level) :
    Frame [.hlt, .rnd] s (s.actOnBinding i l) := by
  rw [actOnBinding_halt h]
  exact .ite (.ite (frame_inputHalt s i) ((frame_inputUnhalt s i).mono (by simp)))
    (.ite (frame_haltSource s _) (.refl _ s))

/-! ### The statement -/

/-- Settles O33: the table of modes, and what each binding asks for at an accepted change. -/
theorem acceptedInputActsOnItsBinding : Obligations.AcceptedInputActsOnItsBinding := by
  refine ⟨detection_table, fun i s t hrun hpin h => ?_⟩
  obtain rfl := inputAccepted_next hrun hpin h
  have ha : Frame [.pin] s (s.acceptLevel i) := frame_acceptLevel s i
  obtain ⟨haslots, harnd, haflg, hahlt⟩ := settled_of_pin ha
  have hin : (s.acceptLevel i).input i = (s.input i).accepted (s.inputCfg i) := acceptLevel_input s i
  intro c l n asks cause request
  refine ⟨fun hb hlev hact harm => ⟨fun hok => ?levelTaken, fun hno => ?levelRefused⟩, fun hb hlev hor => ?levelElse,
    fun hb hlev hedge => ⟨fun hok => ?edgeTaken, fun hno => ?edgeRefused⟩, fun hb hlev hedge => ?edgeElse,
    fun hb hasks hon => ?flagSet, fun hb hasks hon => ?flagClear, fun hb hon => ?flagFollow, fun hb hasks => ?flagSilent,
    fun hb hoff => ?flagOffline,
    fun hb hlev => ⟨fun hl hon hcond => ?holdMade, fun hl hon hcond => ?holdHalted, fun hl hoff => ?holdOffline,
      fun hl => ?unhold⟩,
    fun hb hlev => ⟨fun hedge hon hcond => ?haltEdge, fun hor => ?haltSilent⟩, fun hb => ?arriveOthers,
    fun hb => ?flagOthers, fun hb => ?haltOthers⟩
  case levelTaken =>
    have hv : (s.acceptLevel i).levelAttempt i = (s.acceptLevel i).takeArrival n c.value (.input i) := by
      rcases levelAttempt_cases (s.acceptLevel i) i with ⟨_, he⟩ | ⟨hn, _⟩
      · exact he
      · exact absurd hok hn
    have harm' : ((s.acceptLevel i).input i).armed = true := by simp [hin, Input.accepted, harm]
    have hr := Arrived.of_take s n i
    rw [actOnBinding_arrive (s := s.acceptLevel i) hb, inputArrive_level (s := s.acceptLevel i) hlev hact harm', hv]
    exact ⟨hr.arrival, hr.waiting, by rw [hr.input]; simp [Input.accepted, harm], hr.entry⟩
  case levelRefused =>
    have hv : (s.acceptLevel i).levelAttempt i = (s.acceptLevel i).disarm i := by
      rcases levelAttempt_cases (s.acceptLevel i) i with ⟨hn, _⟩ | ⟨_, he⟩
      · exact absurd hn hno
      · exact he
    have harm' : ((s.acceptLevel i).input i).armed = true := by simp [hin, Input.accepted, harm]
    rw [actOnBinding_arrive (s := s.acceptLevel i) hb, inputArrive_level (s := s.acceptLevel i) hlev hact harm', hv]
    obtain ⟨h₁, h₂, _, _⟩ := settled_of_pin (ha.then (frame_disarm _ i) (by simp) (by simp))
    exact ⟨h₁, h₂, by rw [input_settle, accepted_disarm hb hlev hact]; rfl⟩
  case levelElse =>
    have hv : (s.acceptLevel i).inputArrive i l = s.acceptLevel i := by
      refine inputArrive_levelElse (s := s.acceptLevel i) hlev fun hc => ?_
      rw [hin] at hc
      rcases hor with hne | hun
      · exact hne hc.1
      · have hl : (s.input i).pin = (s.inputCfg i).detection.active := hc.1
        simp [Input.accepted, hun, hl] at hc
    rw [actOnBinding_arrive (s := s.acceptLevel i) hb, hv]
    exact ⟨haslots, harnd⟩
  case edgeTaken =>
    have hv := attempt_taken (s := s.acceptLevel i) (i := n) hok c.value (.input i)
    have hr := Arrived.of_take s n i
    rw [actOnBinding_arrive (s := s.acceptLevel i) hb, inputArrive_edge (s := s.acceptLevel i) hlev hedge]
    exact ⟨(congrArg (fun u => (u.1.settle.slot n).arrival) hv).trans hr.arrival,
      (congrArg (fun u => (u.1.settle.slot n).state) hv).trans hr.waiting,
      (congrArg (fun u => hasEntry u.1.settle.rnd.requests .arrive n) hv).trans hr.entry⟩
  case edgeRefused =>
    have hv := attempt_refused (s := s.acceptLevel i) (i := n) rfl hno c.value (.input i)
    rw [actOnBinding_arrive (s := s.acceptLevel i) hb, inputArrive_edge (s := s.acceptLevel i) hlev hedge]
    exact ⟨(congrArg (fun u => u.1.settle.slots) hv).trans haslots, (congrArg (fun u => u.1.settle.rnd) hv).trans harnd⟩
  case edgeElse =>
    rw [actOnBinding_arrive (s := s.acceptLevel i) hb, inputArrive_edgeElse (s := s.acceptLevel i) hlev hedge]
    exact ⟨haslots, harnd⟩
  case flagSet =>
    rw [(actOnBinding_flagSet (s := s.acceptLevel i) hb _).trans ((if_pos ((asks_iff c l).mpr hasks)).trans
      (requestSet_online (s := s.acceptLevel i) hon _))]
    exact flagsAsked_request ha (askSet_not_quiet _ n)
  case flagClear =>
    rw [(actOnBinding_flagClear (s := s.acceptLevel i) hb _).trans ((if_pos ((asks_iff c l).mpr hasks)).trans
      (requestClear_online (s := s.acceptLevel i) hon _))]
    exact flagsAsked_request ha (askClear_not_quiet _ n)
  case flagFollow =>
    by_cases hl : l = c.detection.active
    · rw [(actOnBinding_flagFollow (s := s.acceptLevel i) hb _).trans ((if_pos hl).trans
        (requestSet_online (s := s.acceptLevel i) hon _)), if_pos hl]
      exact flagsAsked_request ha (askSet_not_quiet _ n)
    · rw [(actOnBinding_flagFollow (s := s.acceptLevel i) hb _).trans ((if_neg hl).trans
        (requestClear_online (s := s.acceptLevel i) hon _)), if_neg hl]
      exact flagsAsked_request ha (askClear_not_quiet _ n)
  case flagSilent =>
    have hno : ¬c.asks l = true := fun hc => hasks ((asks_iff c l).mp hc)
    rcases hb with hb | hb
    · rw [(actOnBinding_flagSet (s := s.acceptLevel i) hb _).trans (if_neg hno)]
      exact ⟨haflg, harnd⟩
    · rw [(actOnBinding_flagClear (s := s.acceptLevel i) hb _).trans (if_neg hno)]
      exact ⟨haflg, harnd⟩
  case flagOffline =>
    have hset := requestSet_offline (s := s.acceptLevel i) hoff (only n)
    have hclear := requestClear_offline (s := s.acceptLevel i) hoff (only n)
    have hv : (s.acceptLevel i).actOnBinding i l = s.acceptLevel i := by
      rcases hb with hb | hb | hb
      · rw [actOnBinding_flagSet (s := s.acceptLevel i) hb]
        exact (congrArg (ite _ · _) hset).trans (ite_self _)
      · rw [actOnBinding_flagClear (s := s.acceptLevel i) hb]
        exact (congrArg (ite _ · _) hclear).trans (ite_self _)
      · rw [actOnBinding_flagFollow (s := s.acceptLevel i) hb]
        exact (congrArg₂ (ite _) hset hclear).trans (ite_self _)
    rw [hv]
    exact ⟨haflg, harnd⟩
  case holdMade =>
    rw [actOnBinding_haltActive (s := s.acceptLevel i) hb hlev hl, inputHalt_online (s := s.acceptLevel i) hon,
      haltSource_made (s := s.acceptLevel i) ⟨hon, hcond⟩]
    refine ⟨.of_place (by simp [ha.rnd_eq rfl]), ?_⟩
    rw [settle_hlt, setHlt_hlt, requestHalt_hlt, ha.hlt_eq rfl]
    cases hreq : s.hlt.request with
    | none => simp only [request, hreq, lowerCause]; rfl
    | some old => simp only [request, hreq, lowerCause]; rfl
  case holdHalted =>
    have hno : ¬((s.acceptLevel i).mbr.membership = .online ∧ (s.acceptLevel i).hlt.condition = .running) := fun hc => by
      have : s.hlt.condition = .running := hc.2
      rw [hcond] at this
      cases this
    rw [actOnBinding_haltActive (s := s.acceptLevel i) hb hlev hl, inputHalt_online (s := s.acceptLevel i) hon,
      haltSource_none hno]
    exact ⟨by simp [ha.rnd_eq rfl], by rw [settle_hlt, setHlt_hlt, ha.hlt_eq rfl]; rfl⟩
  case holdOffline =>
    rw [actOnBinding_haltActive (s := s.acceptLevel i) hb hlev hl, inputHalt_offline (s := s.acceptLevel i) hoff]
    exact ⟨hahlt, harnd⟩
  case unhold =>
    rw [actOnBinding_haltInactive (s := s.acceptLevel i) hb hlev hl]
    exact ⟨by rw [settle_rnd, (frame_inputUnhalt _ i).rnd_eq rfl, ha.rnd_eq rfl], by rw [settle_hlt]; rfl⟩
  case haltEdge =>
    rw [(actOnBinding_haltEdge (s := s.acceptLevel i) hb hlev).trans (if_pos hedge),
      haltSource_made (s := s.acceptLevel i) ⟨hon, hcond⟩]
    refine ⟨.of_place (by simp [ha.rnd_eq rfl]), ?_⟩
    rw [settle_hlt, requestHalt_hlt, ha.hlt_eq rfl]
    cases hreq : s.hlt.request with
    | none => simp only [request, hreq, lowerCause]; rfl
    | some old => simp only [request, hreq, lowerCause]; rfl
  case haltSilent =>
    have hv : (s.acceptLevel i).actOnBinding i l = s.acceptLevel i := by
      rw [actOnBinding_haltEdge (s := s.acceptLevel i) hb hlev]
      split
      · rename_i hedge
        refine haltSource_none (fun hc => ?_) _
        rcases hor with hne | hoff | hhalted
        · exact Bool.noConfusion (hedge.symm.trans hne)
        · exact hoff hc.1
        · have : s.hlt.condition = .running := hc.2
          rw [hhalted] at this
          cases this
      · rfl
    rw [hv]
    exact ⟨hahlt, harnd⟩
  case arriveOthers =>
    have hact := actOnBinding_arrive (s := s.acceptLevel i) hb l
    rw [hact]
    have hframe := (ha.then (c := [.pin, .slots, .rnd]) (frame_inputArrive (s.acceptLevel i) i l) (by simp) (by simp))
    rcases inputArrive_cases (s.acceptLevel i) i l with hv | hv | hv
    · refine ⟨fun j _ => slot_eq_of_slots (by rw [hv]; exact haslots) j, .refl _ _ (by rw [hv]; exact harnd),
        hframe.only (by rfl)⟩
    · obtain ⟨h₁, h₂, _, _⟩ := settled_of_pin (ha.then (frame_disarm (s.acceptLevel i) i) (by simp) (by simp))
      refine ⟨fun j _ => slot_eq_of_slots (by rw [hv]; exact h₁) j, .refl _ _ (by rw [hv]; exact h₂), hframe.only (by rfl)⟩
    · refine ⟨.of_setSlot (by rw [hv, settle_slots]; rfl), .of_place ?_, hframe.only (by rfl)⟩
      rw [hv, settle_rnd, takeArrival_rnd, ha.rnd_eq rfl]
      rfl
  case flagOthers =>
    exact flagRequest_others ha (actOnBinding_flags (s := s.acceptLevel i) hb)
  case haltOthers =>
    have hframe := ha.then (c := [.pin, .hlt, .rnd]) (frame_actOnBinding_halt (s := s.acceptLevel i) hb l) (by simp) (by simp)
    refine ⟨?_, hframe.only (by rfl)⟩
    rcases actOnBinding_halt_rnd (s := s.acceptLevel i) hb l with hv | hv
    · exact .refl _ _ (by rw [settle_rnd, hv, ha.rnd_eq rfl])
    · exact .of_place (by rw [settle_rnd, hv, ha.rnd_eq rfl])

end Sys2Proof.Machine
end

section
/-! The end of a round: what every class has in common (R13, R22, R40), and the FLAGS and HALT rounds (R116, R129). -/

namespace Sys2Proof.Machine

/-! ### Round ends -/

theorem frame_endRound_lines (s : State) (dis : Level) : Frame [.lif, .rnd] s (s.endRound dis) :=
  (frame_setRnd s _).then (frame_setLif _ _) (by simp) (by simp)

@[simp] theorem endRound_rnd (s : State) (dis : Level) : (s.endRound dis).rnd = { s.rnd with round := none } := rfl
@[simp] theorem endRound_slots (s : State) (dis : Level) : (s.endRound dis).slots = s.slots := rfl
@[simp] theorem slot_endRound (s : State) (dis : Level) (i : SlotNo) : (s.endRound dis).slot i = s.slot i := rfl
@[simp] theorem endRound_flg (s : State) (dis : Level) : (s.endRound dis).flg = s.flg := rfl
@[simp] theorem endRound_hlt (s : State) (dis : Level) : (s.endRound dis).hlt = s.hlt := rfl
@[simp] theorem endRound_pin (s : State) (dis : Level) : (s.endRound dis).pin = s.pin := rfl
@[simp] theorem endRound_log (s : State) (dis : Level) : (s.endRound dis).log = s.log := rfl
@[simp] theorem endRound_ntf (s : State) (dis : Level) : (s.endRound dis).ntf = s.ntf := rfl
@[simp] theorem endRound_tsc (s : State) (dis : Level) : (s.endRound dis).tsc = s.tsc := rfl
@[simp] theorem endRound_cfg (s : State) (dis : Level) : (s.endRound dis).cfg = s.cfg := rfl

theorem endRound_reporting (s : State) (dis : Level) : Reporting s (s.endRound dis) :=
  .of_frame (frame_endRound_lines s dis) ⟨rfl, rfl, rfl, rfl⟩

/-- A state with the lines as the round end left them and no round in progress is in the closing high phase. -/
theorem Closing.of_lif {s t : State} {dis : Level} (hlif : t.lif = (s.endRound dis).lif) (hround : t.rnd.round = none) :
    Closing t := by
  refine ⟨hround, ?_, ?_, ?_, ?_⟩
  all_goals rw [hlif]; simp [State.endRound, Config.filterTicks]

theorem AtRoundEnd.ending {s : State} {r : Round} (h : AtRoundEnd s r) : s.endingRound = some r := by
  obtain ⟨hrun, hlink, hbegun, hdrive, hround, hpos⟩ := h
  unfold State.endingRound
  rw [hround]
  exact if_pos ⟨⟨hrun, hbegun, hdrive⟩, hlink, hpos⟩

/-- An accepted round has the effects of its class on the state after the round end (R40). -/
theorem Accepts.next {s : State} {r : Round} {c : Class} {n : Fin 32} (h : Accepts s r c n)
    (effects : Round → Fin 32 → State → State) :
    s.accept c effects = .next (effects r n (s.endRound .high)).settle := by
  obtain ⟨hend, hnamed, hdissent⟩ := h
  have hacc : s.acceptedRound c = some (r, n) := by
    unfold State.acceptedRound
    rw [hend.ending]
    dsimp only
    rw [hnamed]
    exact if_pos ⟨rfl, hdissent⟩
  unfold State.accept
  rw [hacc]
  exact done_eq _

/-! ### FLAGS -/

theorem changeWord_same {s : State} {new : Word} (h : new = s.flg.word) (cause : Byte) :
    s.changeWord new cause = s.setFlg { s.flg with word := new, sync := .synced } := if_pos h

theorem changeWord_changed {s : State} {new : Word} (h : new ≠ s.flg.word) (cause : Byte) :
    s.changeWord new cause = ((s.setFlg { s.flg with word := new, sync := .synced }).offer .flags s.mbr.number cause new
      (BitVec.ofNat 16 (card (s.flg.word ^^^ new)))).raise .flags := if_neg h

/-- The flag unit after an accepted FLAGS round, before the word changes (R116). -/
def State.flagsApplied (s : State) (r : Round) : State :=
  let f := { s.flg with setReq := s.flg.setReq &&& ~~~r.latchS, clearReq := s.flg.clearReq &&& ~~~r.latchC }
  if f.Quiet then (s.setFlg f).remove .flags 0 else (s.setFlg f).zeroVoids .flags 0

theorem flagsApplied_flg (s : State) (r : Round) : (s.flagsApplied r).flg
    = { s.flg with setReq := s.flg.setReq &&& ~~~r.latchS, clearReq := s.flg.clearReq &&& ~~~r.latchC } := by
  unfold State.flagsApplied
  dsimp only
  split <;> simp

theorem frame_flagsApplied (s : State) (r : Round) : Frame [.flg, .rnd] s (s.flagsApplied r) :=
  .ite ((frame_setFlg s _).then (frame_remove _ .flags 0) (by simp) (by simp))
    ((frame_setFlg s _).then (frame_zeroVoids _ .flags 0) (by simp) (by simp))

theorem flagsApplied_round (s : State) (r : Round) : (s.flagsApplied r).rnd.round = s.rnd.round := by
  unfold State.flagsApplied
  dsimp only
  split <;> simp

theorem flagsApplied_quiet {s : State} {r : Round} (h : (s.flagsApplied r).flg.Quiet) :
    hasEntry (s.flagsApplied r).rnd.requests .flags 0 = false := by
  rw [flagsApplied_flg] at h
  have he : (s.flagsApplied r).rnd.requests = removeEntry s.rnd.requests .flags 0 :=
    congrArg (fun t : State => t.rnd.requests) (if_pos h)
  rw [he]
  exact hasEntry_removeEntry_same _ _ _

theorem flagsApplied_asking {s : State} {r : Round} (h : ¬(s.flagsApplied r).flg.Quiet) :
    ∀ e, findEntry (s.flagsApplied r).rnd.requests .flags 0 = some e → e.voids = 0 := fun e hfind => by
  rw [flagsApplied_flg] at h
  have he : (s.flagsApplied r).rnd.requests = setVoids s.rnd.requests .flags 0 0 :=
    congrArg (fun t : State => t.rnd.requests) (if_neg h)
  rw [he, findEntry_setVoids_same] at hfind
  obtain ⟨e', _, rfl⟩ := Option.map_eq_some_iff.mp hfind
  rfl

theorem applyFlags_eq (s : State) (r : Round) : s.applyFlags r.setA r.setB r.latchS r.latchC
    = (s.flagsApplied r).changeWord (wordAfter s.flg.word r.setA r.setB) causeRound := rfl

/-- Settles O50: the word and the requests after a FLAGS round, and the record of a changed word. -/
theorem flagsRoundChangesTheWord : Obligations.FlagsRoundChangesTheWord := by
  intro s r n h
  have he : exec .flagsRound s = _ := h.next flagsEffects
  by_cases hm : Member s
  · let a := (s.endRound .high).flagsApplied r
    let w := wordAfter s.flg.word r.setA r.setB
    have hv : flagsEffects r n (s.endRound .high) = a.changeWord w causeRound := if_pos hm
    rw [hv] at he
    have ha : Frame [.lif, .rnd, .flg] s a := (frame_endRound_lines s .high).then (frame_flagsApplied _ r) (by simp) (by simp)
    have hframe : Frame [.lif, .rnd, .flg, .log, .ntf] s (a.changeWord w causeRound) :=
      ha.then (frame_changeWord a w causeRound) (by simp) (by simp)
    have haflg : a.flg = { s.flg with setReq := s.flg.setReq &&& ~~~r.latchS, clearReq := s.flg.clearReq &&& ~~~r.latchC } :=
      flagsApplied_flg _ _
    have hflg : (a.changeWord w causeRound).settle.flg
        = { word := w, sync := .synced, setReq := s.flg.setReq &&& ~~~r.latchS
            clearReq := s.flg.clearReq &&& ~~~r.latchC } := by
      rw [settle_flg, changeWord_flg, haflg]
    have hrnd : (a.changeWord w causeRound).settle.rnd = a.rnd := by
      rw [settle_rnd, (frame_changeWord a w causeRound).rnd_eq rfl]
    have hlif : (a.changeWord w causeRound).settle.lif = (s.endRound .high).lif := by
      rw [settle_lif, (frame_changeWord a w causeRound).lif_eq rfl]
      exact (frame_flagsApplied _ r).lif_eq rfl
    have hrep : Reporting s a := (endRound_reporting s .high).trans (.of_frame (frame_flagsApplied _ r) ⟨rfl, rfl, rfl, rfl⟩)
    refine ⟨_, he, .of_lif hlif (by rw [hrnd]; exact flagsApplied_round _ _), fun _ => ⟨hflg, fun hq => ?_, fun hq => ?_,
      fun hw => ?_, fun hw => ?_⟩, fun hn => absurd hm hn, hframe.only (by rfl)⟩
    · rw [hrnd]
      refine flagsApplied_quiet ?_
      rw [hflg] at hq
      rw [flagsApplied_flg]
      exact hq
    · rw [hrnd]
      refine flagsApplied_asking ?_
      rw [hflg] at hq
      rw [flagsApplied_flg]
      exact hq
    · rw [hflg] at hw
      rw [changeWord_same (by rw [haflg]; exact hw), settle_log, settle_ntf]
      exact ⟨hrep.log, hrep.ntf⟩
    · rw [hflg] at hw ⊢
      rw [changeWord_changed (by rw [haflg]; exact hw)]
      have hnum : a.mbr.number = s.mbr.number := by rw [ha.mbr_eq rfl]
      rw [hnum, haflg]
      exact ((((hrep.trans (.of_frame (frame_setFlg a _) ⟨rfl, rfl, rfl, rfl⟩)).offer _ _ _ _ _).raise _).trans
        (.settle _)).reports
  · have hv : flagsEffects r n (s.endRound .high) = s.endRound .high := if_neg hm
    rw [hv] at he
    exact ⟨_, he, .of_lif (settle_lif _) (by rw [settle_rnd]; rfl), fun h => absurd h hm,
      fun _ => (frame_endRound_lines s .high).only (by rfl), ((frame_endRound_lines s .high).mono (by simp)).only (by rfl)⟩

end Sys2Proof.Machine
end

section
/-! The HALT round (R129, R137): a halt abort slot by slot (R86), its records and its entries. -/

namespace Sys2Proof.Machine

/-! ### ARRIVE entries through a walk over the slots -/

/-- A walk that takes away the ARRIVE entry of each slot that meets `p`, and of no other. -/
theorem forSlots_entry {f : SlotNo → State → State} (p : Slot → Prop) [DecidablePred p] (hother : ∀ i j t, j ≠ i → (f i t).slot j = t.slot j)
    (hentry : ∀ i t, findEntry (f i t).rnd.requests .arrive i
      = if p (t.slot i) then none else findEntry t.rnd.requests .arrive i)
    (hkeep : ∀ i j t, j ≠ i → findEntry (f i t).rnd.requests .arrive j = findEntry t.rnd.requests .arrive j)
    (s : State) (i : SlotNo) :
    findEntry (forSlots f s).rnd.requests .arrive i
      = if p (s.slot i) then none else findEntry s.rnd.requests .arrive i := by
  have h := forSlots_each f (fun _ => True)
    (fun j t => t.slot j = s.slot j ∧ findEntry t.rnd.requests .arrive j = findEntry s.rnd.requests .arrive j)
    (fun j t => findEntry t.rnd.requests .arrive j
      = if p (s.slot j) then none else findEntry s.rnd.requests .arrive j)
    (fun _ _ _ => trivial) (fun j t _ hj => by rw [hentry, hj.1, hj.2])
    (fun j k t hne _ hj => ⟨by rw [hother k j t hne.symm, hj.1], by rw [hkeep k j t hne.symm, hj.2]⟩)
    (fun j k t hne _ hj => by rw [hkeep k j t hne.symm, hj]) s trivial (fun _ => ⟨rfl, rfl⟩)
  exact h.2 i

/-- A walk in whose every turn nothing happens, as no slot meets its condition. -/
theorem forSlots_idle {f : SlotNo → State → State} {P : State → Prop} (hP : ∀ i t, P t → P (f i t)) {α : Type}
    (item : State → α) (hitem : ∀ i t, P t → item (f i t) = item t) (s : State) (h : P s) :
    item (forSlots f s) = item s :=
  (forSlots_keeps (fun t => P t ∧ item t = item s) f
    (fun i t ht => ⟨hP i t ht.1, (hitem i t ht.1).trans ht.2⟩) s ⟨h, rfl⟩).2

/-! ### Halt abort -/

theorem abortNow_rnd (s : State) (i : SlotNo) (reason : Byte) :
    (s.abortNow i reason).rnd = { s.rnd with requests := removeEntry s.rnd.requests .arrive i } := by
  simp only [State.abortNow, offerSlot_rnd, removeArrival_rnd]

theorem haltAbortSlot_rnd (i : SlotNo) (s : State) : (State.haltAbortSlot i s).rnd
    = if (s.slot i).state = .waiting then { s.rnd with requests := removeEntry s.rnd.requests .arrive i } else s.rnd := by
  have h : (if (s.slot i).state = .waiting then s.abortNow i reasonHalt else s).rnd
      = if (s.slot i).state = .waiting then { s.rnd with requests := removeEntry s.rnd.requests .arrive i } else s.rnd := by
    split
    · exact abortNow_rnd s i reasonHalt
    · rfl
  unfold State.haltAbortSlot
  dsimp only
  generalize (if (s.slot i).state = .waiting then s.abortNow i reasonHalt else s) = u at h ⊢
  split
  · rw [setSlot_rnd, h]
  · exact h

theorem haltAbort_entry (s : State) (i : SlotNo) : findEntry s.haltAbort.rnd.requests .arrive i
    = if (s.slot i).state = .waiting then none else findEntry s.rnd.requests .arrive i := by
  unfold State.haltAbort
  refine forSlots_entry (f := State.haltAbortSlot) (fun x => x.state = .waiting)
    (fun _ _ t hj => haltAbortSlot_other t hj) (fun j t => ?_) (fun j k t hne => ?_) s i
  · rw [haltAbortSlot_rnd]
    by_cases hw : (t.slot j).state = .waiting
    · simp [hw, findEntry_removeEntry_same]
    · simp [hw]
  · rw [haltAbortSlot_rnd]
    split
    · exact findEntry_removeEntry_ne _ _ _ _ _ (fun he => hne (Prod.mk.inj he).2)
    · rfl

/-- Where no slot is WAITING a halt abort records nothing (R86). -/
theorem haltAbort_quiet {s : State} (h : ∀ i, (s.slot i).state ≠ .waiting) :
    s.haltAbort.log = s.log ∧ s.haltAbort.ntf = s.ntf := by
  have hstep : ∀ i t, (∀ j, (t.slot j).state ≠ .waiting) →
      State.haltAbortSlot i t = t ∨ ∃ x, State.haltAbortSlot i t = t.setSlot i x := fun i t ht => by
    unfold State.haltAbortSlot
    rw [if_neg (ht i)]
    dsimp only
    split
    · exact .inr ⟨_, rfl⟩
    · exact .inl rfl
  have hkeep : ∀ i t, (∀ j, (t.slot j).state ≠ .waiting) → ∀ j, ((State.haltAbortSlot i t).slot j).state ≠ .waiting :=
    fun i t ht j => by
      by_cases hj : j = i
      · rw [hj, haltAbortSlot_slot]
        exact haltAborted_not_waiting _
      · rw [haltAbortSlot_other t hj]
        exact ht j
  refine ⟨forSlots_idle hkeep State.log (fun i t ht => ?_) s h, forSlots_idle hkeep State.ntf (fun i t ht => ?_) s h⟩
  · rcases hstep i t ht with h | ⟨x, h⟩ <;> rw [h]
    rfl
  · rcases hstep i t ht with h | ⟨x, h⟩ <;> rw [h]
    rfl

/-! ### A record is first -/

/-- What follows leaves the log's records where they are and the pending sets as they are, or larger. -/
theorem ReportsFirst.of_steady {s u t : State} {k : Kind} {sel : Fin 32} {tag : Byte} {set : Set32} {value : Half}
    {e : Event} (hrep : Reporting ((s.offer k sel tag set value).raise e) u) (h : Steady u t) :
    ReportsFirst s t k sel tag set value e := by
  have hbit : ∀ x y : EventSet, (x ||| e.set) &&& ~~~y = 0#9 → y.getLsbD e.bit = true := fun x y hxy => by
    have hb := congrArg (BitVec.getLsbD · e.bit) hxy
    have he : e.bit < 9 := by cases e <;> decide
    simpa [he, Event.set] using hb
  refine ⟨?_, ?_, ?_⟩
  · have := h.records
    rwa [hrep.log] at this
  · have := h.pendA
    rw [hrep.ntf] at this
    exact hbit _ _ this
  · have := h.pendB
    rw [hrep.ntf] at this
    exact hbit _ _ this

/-! ### The statement -/

/-- The station as the HALT record has been offered and its event raised, before the halt abort (R129). -/
def State.haltBegun (s : State) (cause : Byte) (set : Set32) (value : Half) : State :=
  ((((s.setHlt { s.hlt with condition := .halted }).dropHaltRequest).offer .halt s.mbr.number cause set value).raise .halt)

theorem haltNow_eq (s : State) (cause : Byte) (set : Set32) (value : Half) :
    s.haltNow cause set value = (s.haltBegun cause set value).haltAbort := rfl

theorem frame_haltBegun (s : State) (cause : Byte) (set : Set32) (value : Half) :
    Frame [.hlt, .rnd, .log, .ntf] s (s.haltBegun cause set value) := by
  have h₁ : Frame [.hlt, .rnd, .log, .ntf] s (s.setHlt { s.hlt with condition := .halted }) :=
    (frame_setHlt s _).mono (by simp)
  have h₂ := h₁.then (c := [.hlt, .rnd, .log, .ntf]) (frame_dropHaltRequest _) (by simp) (by simp)
  have h₃ := h₂.then (c := [.hlt, .rnd, .log, .ntf]) (frame_offer _ .halt s.mbr.number cause set value) (by simp) (by simp)
  exact h₃.then (frame_raise _ .halt) (by simp) (by simp)

theorem haltBegun_hlt (s : State) (cause : Byte) (set : Set32) (value : Half) :
    (s.haltBegun cause set value).hlt = { s.hlt with condition := .halted, request := none } := by
  simp [State.haltBegun, State.dropHaltRequest]

theorem haltBegun_rnd (s : State) (cause : Byte) (set : Set32) (value : Half) :
    (s.haltBegun cause set value).rnd = { s.rnd with requests := removeEntry s.rnd.requests .halt 0 } := by
  simp [State.haltBegun, State.dropHaltRequest]

theorem haltBegun_reporting (s : State) (cause : Byte) (set : Set32) (value : Half) :
    Reporting ((s.offer .halt s.mbr.number cause set value).raise .halt) (s.haltBegun cause set value) := by
  have h : Frame [.hlt, .rnd] s ((s.setHlt { s.hlt with condition := .halted }).dropHaltRequest) :=
    (frame_setHlt s _).then (frame_dropHaltRequest _) (by simp) (by simp)
  exact ((Reporting.of_frame h ⟨rfl, rfl, rfl, rfl⟩).offer _ _ _ _ _).raise _

/-- The halt abort keeps what names a slot and what its rounds have left, but for the last-seen set (R86). -/
theorem haltAborted_items (x : Slot) : x.haltAborted.epoch = x.epoch ∧ x.haltAborted.sync = x.sync
    ∧ x.haltAborted.result = x.result ∧ x.haltAborted.cfg = x.cfg
    ∧ (x.state = .waiting → x.haltAborted.state = .ready ∧ x.haltAborted.arrival = none)
    ∧ (x.state ≠ .waiting → x.haltAborted.state = x.state)
    ∧ (x.cfg.enabled = true → x.haltAborted.lastSeen = 0#32) := by
  unfold Slot.haltAborted
  dsimp only
  by_cases hw : x.state = .waiting
  · rw [if_pos hw]
    split <;> simp_all [Slot.dropArrival]
  · rw [if_neg hw]
    split <;> simp_all

theorem zeroVoids_list (s : State) (c : Class) (n : Fin 32) : (s.zeroVoids c n).rnd.requests
    = s.rnd.requests.map fun e => if e.cls = c ∧ e.sel = n then { e with voids := 0 } else e := by
  rw [zeroVoids_requests]
  refine List.map_congr_left fun e _ => ?_
  simp only [Entry.is_iff]

/-- Settles O45: the halt of a member, slot by slot, and the round without requesters. -/
theorem haltRoundHaltsMembers : Obligations.HaltRoundHaltsMembers := by
  intro s r n h
  have he : exec .haltRound s = _ := h.next haltEffects
  have hend := frame_endRound_lines s .high
  by_cases hm : Member s ∧ r.setA ≠ 0#32
  · let a := s.endRound .high
    let b := a.haltBegun causeRound r.setA r.val
    have hv : haltEffects r n a = b.haltAbort := if_pos hm
    rw [hv] at he
    have hb : Frame [.hlt, .rnd, .log, .ntf] a b := frame_haltBegun a _ _ _
    have habort : Frame [.slots, .rnd, .pin, .log, .ntf] b b.haltAbort := frame_haltAbort b
    have hall : Frame [.lif, .rnd, .hlt, .slots, .pin, .log, .ntf] s b.haltAbort :=
      (hend.then (c := [.lif, .rnd, .hlt, .log, .ntf]) hb (by simp) (by simp)).then habort (by simp) (by simp)
    have hslot : ∀ i, b.haltAbort.settle.slot i = (s.slot i).haltAborted := fun i => by
      rw [slot_settle, haltAbort_slot, slot_eq_of_slots (hb.slots_eq rfl) i]
      rfl
    have hlist := listed_haltAbort b
    have hbrnd : b.rnd = { a.rnd with requests := removeEntry s.rnd.requests .halt 0 } := haltBegun_rnd a _ _ _
    have hother : ∀ c n, c ≠ .arrive → findEntry b.haltAbort.settle.rnd.requests c n
        = findEntry (removeEntry s.rnd.requests .halt 0) c n := fun c n hc => by
      rw [settle_rnd, hlist.others c n (by simpa using hc), hbrnd]
    have hentry : ∀ i, findEntry b.haltAbort.settle.rnd.requests .arrive i
        = if (s.slot i).state = .waiting then none else findEntry s.rnd.requests .arrive i := fun i => by
      have hbs : b.slot i = s.slot i := slot_eq_of_slots (hb.slots_eq rfl) i
      have hbe : findEntry b.rnd.requests .arrive i = findEntry s.rnd.requests .arrive i := by
        rw [hbrnd]
        exact findEntry_removeEntry_ne _ _ _ _ _ (by simp)
      rw [settle_rnd, haltAbort_entry, hbs, hbe]
    have hrep : Reporting ((s.offer .halt s.mbr.number causeRound r.setA r.val).raise .halt) b :=
      (((endRound_reporting s .high).offer _ _ _ _ _).raise _).trans (haltBegun_reporting a _ _ _)
    have hlif : b.haltAbort.settle.lif = a.lif := by rw [settle_lif, habort.lif_eq rfl, hb.lif_eq rfl]
    have hround : b.haltAbort.settle.rnd.round = none := by rw [settle_rnd, hlist.round, hbrnd]; rfl
    have hhlt : b.haltAbort.settle.hlt = { s.hlt with condition := .halted, request := none } := by
      rw [settle_hlt, habort.hlt_eq rfl, haltBegun_hlt]
      rfl
    have hmild : OnlyDisarms s b.haltAbort.settle :=
      (OnlyDisarms.of_pin (hb.pin_eq rfl)).trans (mild_haltAbort b).disarms.settle
    refine ⟨_, he, .of_lif hlif hround, fun _ => ⟨hhlt, ?_, fun i hw => ?_, fun i hw => ?_, fun i hen => ?_, fun i => ?_,
      fun c n hc₁ hc₂ => ?_, fun i hw => ?_, ?_, fun hw => ?_⟩, fun hn => absurd hm hn, hmild, hall.only (by rfl)⟩
    · rw [hasEntry_isSome, hother _ _ (by simp), findEntry_removeEntry_same]
      rfl
    · obtain ⟨_, _, _, _, hx, _⟩ := haltAborted_items (s.slot i)
      rw [hslot, hasEntry_isSome, hentry, if_pos hw]
      exact ⟨(hx hw).1, (hx hw).2, rfl⟩
    · obtain ⟨_, _, _, _, _, hx, _⟩ := haltAborted_items (s.slot i)
      rw [hslot, hx hw]
    · obtain ⟨_, _, _, _, _, _, hx⟩ := haltAborted_items (s.slot i)
      rw [hslot, hx hen]
    · obtain ⟨h₁, h₂, h₃, h₄, _⟩ := haltAborted_items (s.slot i)
      rw [hslot]
      exact ⟨h₁, h₂, h₃, h₄⟩
    · rw [hother c n hc₂, findEntry_removeEntry_ne _ _ _ _ _ fun he => hc₁ (Prod.mk.inj he).1]
    · rw [hentry, if_neg hw]
    · refine .of_steady hrep ((mild_haltAbort b).toSteady.trans ?_)
      exact (Mild.of_frame (frame_settle _) rfl).toSteady
    · have hbw : ∀ i, (b.slot i).state ≠ .waiting := fun i => by
        rw [slot_eq_of_slots (hb.slots_eq rfl) i]
        exact hw i
      obtain ⟨hlog, hntf⟩ := haltAbort_quiet hbw
      refine Reporting.reports (hrep.trans ⟨?_, ?_, ?_, ?_⟩)
      · rw [settle_cfg, habort.cfg_eq rfl]
      · rw [settle_log, hlog]
      · rw [settle_ntf, hntf]
      · rw [← (Reporting.settle b.haltAbort).time.symm, habort.tsc_eq rfl]
  · let a := s.endRound .high
    have hv : haltEffects r n a = a.zeroVoids .halt 0 := if_neg hm
    rw [hv] at he
    have hframe : Frame [.lif, .rnd] s (a.zeroVoids .halt 0) :=
      hend.then (frame_zeroVoids a .halt 0) (by simp) (by simp)
    refine ⟨_, he, .of_lif (dis := .high) (by simp; rfl) (by simp; rfl), fun hc => absurd hc hm, fun _ => ⟨?_, hframe.only (by rfl)⟩,
      .of_pin (by rw [settle_pin, hframe.pin_eq rfl]), (hframe.mono (by simp)).only (by rfl)⟩
    rw [settle_rnd, zeroVoids_list]
    rfl

end Sys2Proof.Machine
end

section
/-! The RESUME round (R134): the holds that are fresh sources, in ascending order of their inputs. -/

namespace Sys2Proof.Machine

theorem forInputs_four (f : Fin 4 → State → State) (s : State) : forInputs f s = f 3 (f 2 (f 1 (f 0 s))) := rfl

/-! ### A held input asks again -/

/-- The halt unit once input `i` has asked again, if it is among the holds `old` (R134). -/
def Hlt.renewed (old : BitVec 4) (i : Fin 4) (x : Hlt) : Hlt :=
  if old.getLsbD i.val = true then
    { x with request := some (lowerCause x.request (inputCause i)), inputHold := x.inputHold ||| inputBit i }
  else x

theorem renewed_items (old : BitVec 4) (i : Fin 4) (x : Hlt) :
    (x.renewed old i).condition = x.condition ∧ (x.renewed old i).resumePending = x.resumePending
      ∧ (x.renewed old i).commandHold = x.commandHold ∧ (x.renewed old i).heldCause = x.heldCause
      ∧ (x.renewed old i).inputHold = x.inputHold ||| (old &&& inputBit i)
      ∧ (x.renewed old i).request
        = if old.getLsbD i.val = true then some (lowerCause x.request (inputCause i)) else x.request := by
  have hbit : ∀ (old : BitVec 4) (i : Fin 4), old &&& inputBit i = if old.getLsbD i.val = true then inputBit i else 0#4 := by
    decide
  rw [hbit]
  unfold Hlt.renewed
  split <;> simp

theorem renewInputHold_online {s : State} (hon : s.mbr.membership = .online) (hrun : s.hlt.condition = .running) (old : Hlt)
    (i : Fin 4) : (State.renewInputHold old i s).hlt = s.hlt.renewed old.inputHold i
      ∧ (State.renewInputHold old i s).mbr = s.mbr := by
  refine ⟨?_, (frame_renewInputHold old i s).mbr_eq rfl⟩
  unfold State.renewInputHold Hlt.renewed
  split
  · rw [inputHalt_online hon, haltSource_made ⟨hon, hrun⟩, setHlt_hlt, requestHalt_hlt]
  · rfl

theorem renewInputHold_offline {s : State} (hoff : s.mbr.membership ≠ .online) (old : Hlt) (i : Fin 4) :
    State.renewInputHold old i s = s := by
  unfold State.renewInputHold
  rw [inputHalt_offline hoff, ite_self]

theorem renewInputHold_none {s : State} {old : Hlt} {i : Fin 4} (h : old.inputHold.getLsbD i.val = false) :
    State.renewInputHold old i s = s := if_neg (by rw [h]; simp)

/-- A HALT entry stays through the fresh sources, and one is there once an input has asked again. -/
theorem renewInputHold_entry {s : State} (hon : s.mbr.membership = .online) (hrun : s.hlt.condition = .running) (old : Hlt)
    (i : Fin 4) (h : hasEntry s.rnd.requests .halt 0 = true ∨ old.inputHold.getLsbD i.val = true) :
    hasEntry (State.renewInputHold old i s).rnd.requests .halt 0 = true := by
  cases hb : old.inputHold.getLsbD i.val with
  | true =>
    have hv : State.renewInputHold old i s = s.inputHalt i := if_pos hb
    rw [hv, inputHalt_online hon, haltSource_made ⟨hon, hrun⟩, setHlt_rnd, requestHalt_rnd]
    exact hasEntry_placeEntry_same _ _ _
  | false =>
    rw [renewInputHold_none hb]
    exact h.resolve_right (by rw [hb]; simp)

/-- The halt unit once every input of the holds `old` has asked again. -/
def Hlt.renewedAll (old : BitVec 4) (x : Hlt) : Hlt := (((x.renewed old 0).renewed old 1).renewed old 2).renewed old 3

theorem renewedAll_items (old : BitVec 4) (x : Hlt) :
    (x.renewedAll old).condition = x.condition ∧ (x.renewedAll old).resumePending = x.resumePending
      ∧ (x.renewedAll old).commandHold = x.commandHold ∧ (x.renewedAll old).heldCause = x.heldCause := by
  unfold Hlt.renewedAll
  refine ⟨?_, ?_, ?_, ?_⟩
  · simp only [(renewed_items old _ _).1]
  · simp only [(renewed_items old _ _).2.1]
  · simp only [(renewed_items old _ _).2.2.1]
  · simp only [(renewed_items old _ _).2.2.2.1]

theorem renewedAll_inputHold (old : BitVec 4) {x : Hlt} (h : x.inputHold = 0#4) : (x.renewedAll old).inputHold = old := by
  have hall : ∀ old : BitVec 4, (((0#4 ||| (old &&& inputBit 0)) ||| (old &&& inputBit 1)) ||| (old &&& inputBit 2))
      ||| (old &&& inputBit 3) = old := by decide
  unfold Hlt.renewedAll
  simp only [(renewed_items old _ _).2.2.2.2.1, h]
  exact hall old

theorem renewedAll_none (x : Hlt) : x.renewedAll 0#4 = x := by
  simp [Hlt.renewedAll, Hlt.renewed]

/-- The request once input `i` has asked again, if it is among the holds `old` (R125, R134). -/
def askedAgain (old : BitVec 4) (request : Option Half) (i : Fin 4) : Option Half :=
  if old.getLsbD i.val = true then some (lowerCause request (inputCause i)) else request

/-- The request after the fresh sources, one after the other (R134). -/
theorem renewedAll_request (old : BitVec 4) (x : Hlt) :
    (x.renewedAll old).request = [0, 1, 2, 3].foldl (askedAgain old) x.request := by
  unfold Hlt.renewedAll
  simp only [(renewed_items old _ _).2.2.2.2.2]
  rfl

theorem asked_isSome (old : BitVec 4) (l : List (Fin 4)) (request : Option Half)
    (h : request.isSome = true ∨ ∃ i ∈ l, old.getLsbD i.val = true) : (l.foldl (askedAgain old) request).isSome = true := by
  induction l generalizing request with
  | nil => exact h.resolve_right (by simp)
  | cons i l ih =>
    rw [List.foldl_cons]
    refine ih _ ?_
    unfold askedAgain
    by_cases hi : old.getLsbD i.val = true
    · rw [if_pos hi]
      exact .inl rfl
    · rw [if_neg hi]
      rcases h with h | ⟨j, hj, hb⟩
      · exact .inl h
      · rcases List.mem_cons.mp hj with rfl | hj
        · exact absurd hb hi
        · exact .inr ⟨j, hj, hb⟩

theorem exists_held {old : BitVec 4} (h : old ≠ 0#4) : ∃ i : Fin 4, old.getLsbD i.val = true := by
  have hall : ∀ old : BitVec 4, old ≠ 0#4 → ∃ i : Fin 4, old.getLsbD i.val = true := by decide
  exact hall old h

theorem renewedAll_request_isSome {old : BitVec 4} (h : old ≠ 0#4) (x : Hlt) : (x.renewedAll old).request.isSome = true := by
  obtain ⟨i, hi⟩ := exists_held h
  have hmem : ∀ i : Fin 4, i ∈ ([0, 1, 2, 3] : List (Fin 4)) := by decide
  rw [renewedAll_request]
  exact asked_isSome old _ _ (.inr ⟨i, hmem i, hi⟩)

/-- With no request before, that of the lowest input of the holds stands (R125). -/
theorem renewedAll_request_lowest {old : BitVec 4} {k : Fin 4} (hk : old.getLsbD k.val = true)
    (hlow : ∀ j : Fin 4, j < k → old.getLsbD j.val = false) {x : Hlt} (h : x.request = none) :
    (x.renewedAll old).request = some (inputCause k) := by
  have hall : ∀ (old : BitVec 4) (k : Fin 4), old.getLsbD k.val = true → (∀ j : Fin 4, j < k → old.getLsbD j.val = false) →
      [0, 1, 2, 3].foldl (askedAgain old) none = some (inputCause k) := by decide
  rw [renewedAll_request, h]
  exact hall old k hk hlow

/-- All the holds ask again, at an ONLINE and RUNNING station. -/
theorem forInputs_renew_online {s : State} (hon : s.mbr.membership = .online) (hrun : s.hlt.condition = .running)
    (old : Hlt) : (forInputs (State.renewInputHold old) s).hlt = s.hlt.renewedAll old.inputHold
      ∧ (hasEntry s.rnd.requests .halt 0 = true ∨ old.inputHold ≠ 0#4 →
          hasEntry (forInputs (State.renewInputHold old) s).rnd.requests .halt 0 = true) := by
  have hstep : ∀ (i : Fin 4) (t : State), t.mbr.membership = .online ∧ t.hlt.condition = .running →
      (State.renewInputHold old i t).mbr.membership = .online ∧ (State.renewInputHold old i t).hlt.condition = .running :=
    fun i t ht => by
      obtain ⟨hh, hm⟩ := renewInputHold_online ht.1 ht.2 old i
      rw [hh, hm, (renewed_items _ i _).1]
      exact ht
  have hfour : ∀ i : Fin 4, i = 0 ∨ i = 1 ∨ i = 2 ∨ i = 3 := by decide
  have h₀ := hstep 0 s ⟨hon, hrun⟩
  have h₁ := hstep 1 _ h₀
  have h₂ := hstep 2 _ h₁
  rw [forInputs_four]
  refine ⟨?_, fun h => ?_⟩
  · rw [(renewInputHold_online h₂.1 h₂.2 old 3).1, (renewInputHold_online h₁.1 h₁.2 old 2).1,
      (renewInputHold_online h₀.1 h₀.2 old 1).1, (renewInputHold_online hon hrun old 0).1]
    rfl
  · have e₀ := renewInputHold_entry hon hrun old 0
    have e₁ := renewInputHold_entry h₀.1 h₀.2 old 1
    have e₂ := renewInputHold_entry h₁.1 h₁.2 old 2
    have e₃ := renewInputHold_entry h₂.1 h₂.2 old 3
    rcases h with h | h
    · exact e₃ (.inl (e₂ (.inl (e₁ (.inl (e₀ (.inl h)))))))
    · obtain ⟨i, hb⟩ := exists_held h
      rcases hfour i with rfl | rfl | rfl | rfl
      · exact e₃ (.inl (e₂ (.inl (e₁ (.inl (e₀ (.inr hb)))))))
      · exact e₃ (.inl (e₂ (.inl (e₁ (.inr hb)))))
      · exact e₃ (.inl (e₂ (.inr hb)))
      · exact e₃ (.inr hb)

theorem forInputs_renew_offline {s : State} (hoff : s.mbr.membership ≠ .online) (old : Hlt) :
    forInputs (State.renewInputHold old) s = s := by
  rw [forInputs_four, renewInputHold_offline hoff, renewInputHold_offline hoff, renewInputHold_offline hoff,
    renewInputHold_offline hoff]

/-! ### The command hold asks again -/

theorem renewCommandHold_none {s : State} {old : Hlt} (h : ¬(s.mbr.membership = .online ∧ old.commandHold = true)) :
    s.renewCommandHold old = s := if_neg h

theorem renewCommandHold_hlt {s : State} {old : Hlt} (h : s.mbr.membership = .online ∧ old.commandHold = true) :
    (s.renewCommandHold old).hlt = { s.hlt with
      request := match old.heldCause with | some c => some (lowerCause s.hlt.request c) | none => s.hlt.request
      commandHold := true, heldCause := none } := by
  have hv : s.renewCommandHold old = _ := if_pos h
  rw [hv]
  cases old.heldCause with
  | none => rfl
  | some c =>
    dsimp only
    rw [setHlt_hlt, requestHalt_hlt]

theorem renewCommandHold_entry {s : State} {old : Hlt} {c : Half} (h : s.mbr.membership = .online ∧ old.commandHold = true)
    (hc : old.heldCause = some c) : hasEntry (s.renewCommandHold old).rnd.requests .halt 0 = true := by
  have hv : s.renewCommandHold old = _ := if_pos h
  rw [hv]
  simp only [hc, setHlt_rnd, requestHalt_rnd]
  exact hasEntry_placeEntry_same _ _ _

/-- The halt unit once the command hold has asked again keeps what it says of condition and inputs (R134). -/
theorem renewCommandHold_items (s : State) (old : Hlt) :
    (s.renewCommandHold old).hlt.condition = s.hlt.condition
      ∧ (s.renewCommandHold old).hlt.resumePending = s.hlt.resumePending
      ∧ (s.renewCommandHold old).hlt.inputHold = s.hlt.inputHold := by
  by_cases h : s.mbr.membership = .online ∧ old.commandHold = true
  · rw [renewCommandHold_hlt h]
    exact ⟨rfl, rfl, rfl⟩
  · rw [renewCommandHold_none h]
    exact ⟨rfl, rfl, rfl⟩

/-! ### The statement -/

/-- The station as its pending resume and its RESUME entry have gone (R134). -/
def State.resumeTaken (s : State) : State := (s.setHlt { s.hlt with resumePending := false }).remove .resume 0

theorem resumeEffects_taken {s : State} {r : Round} (hm : Member s ∧ r.setA ≠ 0#32) (n : Fin 32) :
    resumeEffects r n s = if r.setB = 0#32 then s.resumeTaken.resumeNow r.setA
      else (s.resumeTaken.offer .resumeRefused s.mbr.number 0#8 r.setB (BitVec.ofNat 16 (card r.setA))).raise .resume :=
  if_pos hm

theorem frame_resumeTaken (s : State) : Frame [.hlt, .rnd] s s.resumeTaken :=
  (frame_setHlt s _).then (frame_remove _ .resume 0) (by simp) (by simp)

theorem resumeTaken_hlt (s : State) : s.resumeTaken.hlt = { s.hlt with resumePending := false } := by
  simp [State.resumeTaken]

theorem resumeTaken_rnd (s : State) : s.resumeTaken.rnd = { s.rnd with requests := removeEntry s.rnd.requests .resume 0 } := by
  simp [State.resumeTaken]

/-- What a successful resume leaves (R134); `s` is the station before it. -/
structure Resumed (s t : State) : Prop where
  condition : t.hlt.condition = .running
  pending : t.hlt.resumePending = false
  quiet : s.hlt.commandHold = false → s.hlt.inputHold = 0#4 →
    t.hlt = { condition := .running, request := s.hlt.request, commandHold := false, heldCause := none, inputHold := 0#4
              resumePending := false }
  command : ∀ c, s.mbr.membership = .online → s.hlt.commandHold = true → s.hlt.heldCause = some c →
    s.hlt.inputHold = 0#4 → s.hlt.request = none →
    t.hlt = { condition := .running, request := some c, commandHold := true, heldCause := none, inputHold := 0#4
              resumePending := false }
      ∧ hasEntry t.rnd.requests .halt 0 = true
  online : s.mbr.membership = .online → t.hlt.inputHold = s.hlt.inputHold
    ∧ (s.hlt.inputHold ≠ 0#4 → t.hlt.request.isSome = true ∧ hasEntry t.rnd.requests .halt 0 = true)
  offline : s.mbr.membership ≠ .online → t.hlt.inputHold = 0#4 ∧ t.hlt.request = s.hlt.request
  lowest : ∀ k : Fin 4, s.mbr.membership = .online → s.hlt.commandHold = false → s.hlt.request = none →
    s.hlt.inputHold.getLsbD k.val = true → (∀ j : Fin 4, j < k → s.hlt.inputHold.getLsbD j.val = false) →
    t.hlt.request = some (inputCause k)

theorem resumeBegun_mbr (s : State) (requesters : Set32) : (s.resumeBegun requesters).mbr = s.mbr := by
  simp [State.resumeBegun]

theorem resumed_offline {s : State} (hoff : s.mbr.membership ≠ .online) (requesters : Set32) :
    Resumed s (s.resumeNow requesters) := by
  have hv : s.resumeNow requesters = s.resumeBegun requesters := by
    have hoff' : (s.resumeBegun requesters).mbr.membership ≠ .online := by rwa [resumeBegun_mbr]
    rw [resumeNow_eq, renewCommandHold_none fun h => hoff' h.1, forInputs_renew_offline hoff']
  have hhlt := resumeBegun_hlt s requesters
  rw [hv]
  exact
    { condition := by rw [hhlt]; rfl
      pending := by rw [hhlt]; rfl
      quiet := fun _ _ => hhlt
      command := fun _ h => absurd h hoff
      online := fun h => absurd h hoff
      offline := fun _ => by rw [hhlt]; exact ⟨rfl, rfl⟩
      lowest := fun _ h => absurd h hoff }

theorem resumed_online {s : State} (hon : s.mbr.membership = .online) (requesters : Set32) :
    Resumed s (s.resumeNow requesters) := by
  let u := s.resumeBegun requesters
  let v := u.renewCommandHold s.hlt
  have huhlt : u.hlt = { Hlt.clear .running with request := s.hlt.request } := resumeBegun_hlt s requesters
  have huon : u.mbr.membership = .online := by rwa [resumeBegun_mbr]
  have hvon : v.mbr.membership = .online := by rwa [(frame_renewCommandHold u s.hlt).mbr_eq rfl]
  obtain ⟨hvcond, hvpend, hvhold⟩ := renewCommandHold_items u s.hlt
  rw [huhlt] at hvcond hvpend hvhold
  obtain ⟨hhlt, hentry⟩ := forInputs_renew_online hvon hvcond s.hlt
  obtain ⟨hcond, hpend, _, _⟩ := renewedAll_items s.hlt.inputHold v.hlt
  have hquiet : s.hlt.commandHold = false → v.hlt = { Hlt.clear .running with request := s.hlt.request } := fun h => by
    have : v = u := renewCommandHold_none fun hc => by rw [h] at hc; exact absurd hc.2 (by simp)
    rw [this, huhlt]
  rw [resumeNow_eq]
  exact
    { condition := by rw [hhlt, hcond, hvcond]; rfl
      pending := by rw [hhlt, hpend, hvpend]; rfl
      quiet := fun hc hi => by rw [hhlt, hi, renewedAll_none, hquiet hc]; rfl
      command := fun c _ hc hh hi hr => by
        refine ⟨?_, hentry (.inl (renewCommandHold_entry ⟨huon, hc⟩ hh))⟩
        have hvhlt : v.hlt = _ := renewCommandHold_hlt ⟨huon, hc⟩
        rw [hhlt, hi, renewedAll_none, hvhlt, huhlt, hh, hr]
        rfl
      online := fun _ => by
        refine ⟨by rw [hhlt, renewedAll_inputHold _ hvhold], fun h => ⟨?_, hentry (.inr h)⟩⟩
        rw [hhlt]
        exact renewedAll_request_isSome h _
      offline := fun h => absurd hon h
      lowest := fun k _ hc hr hk hlow => by
        rw [hhlt]
        exact renewedAll_request_lowest hk hlow (by rw [hquiet hc]; exact hr) }

/-- The record and the event of a successful resume; the fresh sources report nothing (R134). -/
theorem resumeNow_reporting (s : State) (requesters : Set32) :
    Reporting ((s.offer .resume s.mbr.number causeRound requesters 0#16).raise .resume) (s.resumeNow requesters) := by
  have hb : Reporting ((s.offer .resume s.mbr.number causeRound requesters 0#16).raise .resume) (s.resumeBegun requesters) :=
    ((Reporting.of_frame (frame_setHlt s _) ⟨rfl, rfl, rfl, rfl⟩).offer _ _ _ _ _).raise _
  have hf : Frame [.hlt, .rnd] (s.resumeBegun requesters) (s.resumeNow requesters) := by
    rw [resumeNow_eq]
    exact (frame_renewCommandHold _ _).then (frame_forInputs _ (frame_renewInputHold s.hlt) _) (by simp) (by simp)
  exact hb.trans (.of_frame hf ⟨rfl, rfl, rfl, rfl⟩)

/-- Settles O46: a resume with its fresh sources, a refused one, and the round without requesters. -/
theorem resumeRoundResumesOrIsRefused : Obligations.ResumeRoundResumesOrIsRefused := by
  intro s r n h
  have he : exec .resumeRound s = _ := h.next resumeEffects
  have hend := frame_endRound_lines s .high
  have hall : Only [.lif, .rnd, .hlt, .log, .ntf] s (resumeEffects r n (s.endRound .high)).settle :=
    (hend.then (c := [.lif, .rnd, .hlt, .log, .ntf]) (frame_resumeEffects r n _) (by simp) (by simp)).only (by rfl)
  have hlif : (resumeEffects r n (s.endRound .high)).settle.lif = (s.endRound .high).lif := by
    rw [settle_lif, (frame_resumeEffects r n _).lif_eq rfl]
  have hround : (resumeEffects r n (s.endRound .high)).settle.rnd.round = none := by
    rw [settle_rnd, (listed_resumeEffects r n _).round]
    rfl
  refine ⟨_, he, .of_lif hlif hround, fun hm => ?taken, fun hm => ?idle, hall⟩
  case idle =>
    have hv : resumeEffects r n (s.endRound .high) = (s.endRound .high).zeroVoids .resume 0 := if_neg hm
    rw [hv]
    refine ⟨?_, (hend.then (c := [.lif, .rnd]) (frame_zeroVoids _ .resume 0) (by simp) (by simp)).only (by rfl)⟩
    rw [settle_rnd, zeroVoids_list]
    rfl
  case taken =>
    let a := (s.endRound .high).resumeTaken
    have hv : resumeEffects r n (s.endRound .high) = _ := resumeEffects_taken (s := s.endRound .high) hm n
    have ha : Frame [.lif, .rnd, .hlt] s a := hend.then (frame_resumeTaken _) (by simp) (by simp)
    have hahlt : a.hlt = { s.hlt with resumePending := false } := resumeTaken_hlt _
    have harnd : a.rnd.requests = removeEntry s.rnd.requests .resume 0 := by rw [resumeTaken_rnd]; rfl
    have hrep : Reporting s a := .of_frame ha ⟨rfl, rfl, rfl, rfl⟩
    have hamem : a.mbr = s.mbr := ha.mbr_eq rfl
    by_cases hobj : r.setB = 0#32
    · rw [if_pos hobj] at hv
      have hlist := listed_resumeNow a r.setA
      have hother : ∀ c n', c ≠ .halt → findEntry (resumeEffects r n (s.endRound .high)).settle.rnd.requests c n'
          = findEntry (removeEntry s.rnd.requests .resume 0) c n' := fun c n' hc => by
        rw [settle_rnd, hv, hlist.others c n' (by simpa using hc), harnd]
      have hres : Resumed a (a.resumeNow r.setA) := by
        by_cases hon : a.mbr.membership = .online
        · exact resumed_online hon _
        · exact resumed_offline hon _
      have hreq : a.hlt.request = s.hlt.request := by rw [hahlt]
      have hcom : a.hlt.commandHold = s.hlt.commandHold := by rw [hahlt]
      have hheld : a.hlt.heldCause = s.hlt.heldCause := by rw [hahlt]
      have hinp : a.hlt.inputHold = s.hlt.inputHold := by rw [hahlt]
      have hhlt : (resumeEffects r n (s.endRound .high)).settle.hlt = (a.resumeNow r.setA).hlt := by rw [settle_hlt, hv]
      have hrnd : (resumeEffects r n (s.endRound .high)).settle.rnd = (a.resumeNow r.setA).rnd := by rw [settle_rnd, hv]
      obtain ⟨hcond, hpend, hquiet, hcommand, honline, hoffline, hlowest⟩ := hres
      simp only [hamem, hreq, hcom, hheld, hinp] at hquiet hcommand honline hoffline hlowest
      refine ⟨?_, fun hne => absurd hobj hne, fun _ => ?_, fun c n' hc₁ hc₂ => ?_, fun hne => absurd hobj hne⟩
      · rw [hasEntry_isSome, hother _ _ (by simp), findEntry_removeEntry_same]
        rfl
      · rw [hhlt, hrnd]
        refine ⟨hcond, hpend, ?_, hquiet, hcommand, honline, hoffline, hlowest⟩
        have hr := (hrep.offer .resume s.mbr.number causeRound r.setA 0#16).raise .resume
        have hn := resumeNow_reporting a r.setA
        rw [hamem] at hn
        rw [hv]
        exact (hr.trans (hn.trans (.settle _))).reports
      · rw [hother c n' hc₂, findEntry_removeEntry_ne _ _ _ _ _ fun he => hc₁ (Prod.mk.inj he).1]
    · rw [if_neg hobj] at hv
      rw [hv]
      refine ⟨?_, fun _ => ⟨?_, ?_⟩, fun h0 => absurd h0 hobj, fun c n' hc₁ _ => ?_, fun _ => ?_⟩
      · rw [settle_rnd, raise_rnd, offer_rnd]
        exact (congrArg (hasEntry · .resume 0) harnd).trans (hasEntry_removeEntry_same _ _ _)
      · rw [settle_hlt, raise_hlt, offer_hlt]
        exact hahlt
      · exact (((hrep.offer _ _ _ _ _).raise _).trans (.settle _)).reports
      · rw [settle_rnd, raise_rnd, offer_rnd]
        exact (congrArg (findEntry · c n') harnd).trans
          (findEntry_removeEntry_ne _ _ _ _ _ fun he => hc₁ (Prod.mk.inj he).1)
      · rw [settle_rnd, raise_rnd, offer_rnd]
        exact (congrArg (findEntry · .halt 0) harnd).trans (findEntry_removeEntry_ne _ _ _ _ _ (by simp))

end Sys2Proof.Machine
end

section
/-! The JOIN round (R53, R54): a refusal, an admission, and a member's part. -/

namespace Sys2Proof.Machine

/-! ### Going OFFLINE -/

theorem WentOffline.of_goOffline {s v : State} (hmbr : v.mbr = s.mbr) (hslots : v.slots = s.slots) :
    WentOffline s v.goOffline.settle := by
  refine ⟨by simp [hmbr], by simp, by simp, by simp, fun i hen => ?_, fun i hen => ?_⟩
  · rw [slot_settle, goOffline_slot, slot_eq_of_slots hslots, if_pos hen]
  · rw [slot_settle, goOffline_slot, slot_eq_of_slots hslots, if_neg (by simp [hen])]

/-- Going OFFLINE from CLOSING leaves the link DETACHED with both drivers released (R4). -/
theorem detach_closing {x : Lif} (h : x.link = .closing) :
    x.detach.link = .detached ∧ x.detach.stbDrive = .released ∧ x.detach.datDrive = .released := by
  simp [Lif.detach, h, Lif.quiet, Lif.release]

theorem goOffline_closing {s v : State} {dis : Level} (h : v.lif = (s.endRound dis).lif) :
    v.goOffline.settle.lif.link = .detached ∧ v.goOffline.settle.lif.stbDrive = .released
      ∧ v.goOffline.settle.lif.datDrive = .released := by
  rw [settle_lif, goOffline_lif]
  exact detach_closing (by rw [h]; rfl)

/-! ### Admission -/

/-- The requests of FLAG_FOLLOW inputs leave the word and the sync attribution of the flag unit alone (R147). -/
theorem followInput_word (clears : Bool) (i : Fin 4) (s : State) :
    (State.followInput clears i s).flg.word = s.flg.word ∧ (State.followInput clears i s).flg.sync = s.flg.sync := by
  have hcases : State.followInput clears i s = s ∨ ∃ f : Flg, f.word = s.flg.word ∧ f.sync = s.flg.sync
      ∧ State.followInput clears i s = (s.setFlg f).syncFlagsEntry := by
    unfold State.followInput
    split
    · split
      · by_cases h : s.mbr.membership = .online
        · exact .inr ⟨s.flg.askSet _, rfl, rfl, requestSet_online h _⟩
        · exact .inl (requestSet_offline h _)
      · split
        · by_cases h : s.mbr.membership = .online
          · exact .inr ⟨s.flg.askClear _, rfl, rfl, requestClear_online h _⟩
          · exact .inl (requestClear_offline h _)
        · exact .inl rfl
    · exact .inl rfl
  rcases hcases with h | ⟨f, hword, hsync, h⟩
  · rw [h]
    exact ⟨rfl, rfl⟩
  · rw [h, (frame_syncFlagsEntry _).flg_eq rfl]
    exact ⟨hword, hsync⟩

theorem forInputs_follow_word (clears : Bool) (s : State) :
    (forInputs (State.followInput clears) s).flg.word = s.flg.word
      ∧ (forInputs (State.followInput clears) s).flg.sync = s.flg.sync :=
  forInputs_keeps (fun t => t.flg.word = s.flg.word ∧ t.flg.sync = s.flg.sync) _
    (fun i t ht => ⟨(followInput_word clears i t).1.trans ht.1, (followInput_word clears i t).2.trans ht.2⟩) s ⟨rfl, rfl⟩

/-- What an admission makes of a slot (R53, R88). -/
def Slot.admitted (x : Slot) : Slot :=
  if x.cfg.enabled = true then { x with state := .ready, sync := .unsynced, epoch := 0#4 } else x

theorem forSlots_admit_slot (s : State) (i : SlotNo) :
    (forSlots State.admitSlot s).slot i = (s.slot i).admitted := by
  refine forSlots_slot (f := State.admitSlot) (g := Slot.admitted) (fun i t => ?_) (fun i j t hj => ?_) s i
  · unfold State.admitSlot Slot.admitted
    split
    · exact slot_setSlot_same _ _ _
    · rfl
  · unfold State.admitSlot
    split
    · exact slot_setSlot_ne _ _ _ _ hj
    · rfl

theorem adoptCondition_condition (s : State) (r : Round) : (s.adoptCondition r).hlt.condition
    = if r.setA ≠ 0#32 ∧ r.tag.getLsbD 3 = false then .halted else s.hlt.condition := by
  have htag : r.tagHalted = true ↔ r.tag.getLsbD 3 = false := beq_iff_eq
  unfold State.adoptCondition
  by_cases h : r.setA ≠ 0#32 ∧ r.tagHalted = true
  · rw [if_pos h, if_pos ⟨h.1, htag.mp h.2⟩, raise_hlt, offer_hlt, setHlt_hlt]
  · rw [if_neg h, if_neg fun hc => h ⟨hc.1, htag.mpr hc.2⟩]

theorem admitBegun_condition (s : State) (r : Round) : (s.admitBegun r).hlt.condition
    = if r.setA ≠ 0#32 ∧ r.tag.getLsbD 3 = false then .halted else s.hlt.condition := by
  unfold State.admitBegun
  dsimp only
  rw [adoptCondition_condition, (frame_changeWord _ _ _).hlt_eq rfl, offer_hlt, remove_hlt]
  rfl

theorem admitBegun_mbr (s : State) (r : Round) : (s.admitBegun r).mbr
    = { s.mbr with membership := .online, roster := r.setA ||| only s.mbr.number, rollTimer := 0, nonce := none } := by
  unfold State.admitBegun
  dsimp only
  rw [(frame_adoptCondition _ r).mbr_eq rfl, (frame_changeWord _ _ _).mbr_eq rfl, offer_mbr, remove_mbr]
  rfl

theorem admitBegun_rnd (s : State) (r : Round) : (s.admitBegun r).rnd
    = { s.rnd with requests := removeEntry s.rnd.requests .join s.mbr.number } := by
  unfold State.admitBegun
  dsimp only
  rw [(frame_adoptCondition _ r).rnd_eq rfl, (frame_changeWord _ _ _).rnd_eq rfl, offer_rnd, remove_requests]
  rfl

/-- What an admission leaves (R53, R88, R120, R136). -/
structure Admitted (s : State) (r : Round) (t : State) : Prop where
  mbr : t.mbr = { s.mbr with membership := .online, roster := r.setA ||| only s.mbr.number, rollTimer := 0, nonce := none }
  entry : hasEntry t.rnd.requests .join s.mbr.number = false
  round : t.rnd.round = s.rnd.round
  word : t.flg.word = r.joinWord ∧ t.flg.sync = .synced
  condition : t.hlt.condition = if r.setA ≠ 0#32 ∧ r.tag.getLsbD 3 = false then .halted else s.hlt.condition
  slots : ∀ i, t.slot i = (s.slot i).admitted
  lif : t.lif = s.lif

theorem admitJoiner_admitted (s : State) (r : Round) : Admitted s r (s.admitJoiner r) := by
  have hb := frame_admitBegun s r
  have hmbr := admitBegun_mbr s r
  have hrnd := admitBegun_rnd s r
  have hflg := admitBegun_flg s r
  have hcond := admitBegun_condition s r
  have hc := frame_forSlots _ frame_admitSlot (s.admitBegun r)
  have hslot := forSlots_admit_slot (s.admitBegun r)
  rw [admitJoiner_eq]
  generalize s.admitBegun r = b at hb hmbr hrnd hflg hcond hc hslot ⊢
  generalize forSlots State.admitSlot b = c at hc hslot ⊢
  have hd := frame_forInputs _ (frame_followInput true) c
  have hlist : Listed [.flags] c (forInputs (State.followInput true) c) := .forInputs (listed_followInput true) c
  obtain ⟨hword, hsync⟩ := forInputs_follow_word true c
  generalize forInputs (State.followInput true) c = d at hd hlist hword hsync ⊢
  have hcrnd : c.rnd = { s.rnd with requests := removeEntry s.rnd.requests .join s.mbr.number } :=
    (hc.rnd_eq rfl).trans hrnd
  have hcflg : c.flg = { s.flg with word := r.joinWord, sync := .synced } := (hc.flg_eq rfl).trans hflg
  exact
    { mbr := by rw [hd.mbr_eq rfl, hc.mbr_eq rfl, hmbr]
      entry := by
        rw [hasEntry_isSome, hlist.others _ _ (by simp), hcrnd, findEntry_removeEntry_same]
        rfl
      round := by rw [hlist.round, hcrnd]
      word := by simp only [hword, hsync, hcflg, and_self]
      condition := by rw [hd.hlt_eq rfl, hc.hlt_eq rfl, hcond]
      slots := fun i => by rw [slot_eq_of_slots (hd.slots_eq rfl) i, hslot, slot_eq_of_slots (hb.slots_eq rfl) i]
      lif := by rw [hd.lif_eq rfl, hc.lif_eq rfl, hb.lif_eq rfl] }

theorem ownJoin_refused {s : State} {r : Round} (h : r.setA.getLsbD s.mbr.number.val = true ∨ r.val ≠ s.mbr.nonceValue) :
    s.ownJoin r = s.refuseJoin reasonDuplicate r.setA := if_pos h

theorem ownJoin_admitted {s : State} {r : Round} (h : r.setA.getLsbD s.mbr.number.val = false) (hval : r.val = s.mbr.nonceValue) :
    s.ownJoin r = s.admitJoiner r := if_neg fun hc => by
  rcases hc with hc | hc
  · exact absurd (hc.symm.trans h) (by simp)
  · exact hc hval

/-! ### A member -/

theorem changeRoster_same (s : State) {new : Set32} (h : new = s.mbr.roster) (sel : Fin 32) (cause : Byte) :
    s.changeRoster new sel cause = s := if_pos h

theorem changeRoster_changed (s : State) {new : Set32} (h : new ≠ s.mbr.roster) (sel : Fin 32) (cause : Byte) :
    s.changeRoster new sel cause
      = ((s.setMbr { s.mbr with roster := new }).offer .roster sel cause new (BitVec.ofNat 16 (card new))).raise .roster :=
  if_neg h

theorem memberJoin_known {s : State} {r : Round} {n : Fin 32} (h : r.setA.getLsbD n.val = true) :
    s.memberJoin r n = s.setMbr { s.mbr with rollTimer := 0 } := by
  have : (if r.setA.getLsbD n then s else s.changeRoster (r.setA ||| only n) n causeJoin) = s := if_pos h
  unfold State.memberJoin
  dsimp only
  rw [this]

theorem memberJoin_new {s : State} {r : Round} {n : Fin 32} (h : r.setA.getLsbD n.val = false) :
    s.memberJoin r n = (s.changeRoster (r.setA ||| only n) n causeJoin).setMbr
      { (s.changeRoster (r.setA ||| only n) n causeJoin).mbr with rollTimer := 0 } := by
  have : (if r.setA.getLsbD n then s else s.changeRoster (r.setA ||| only n) n causeJoin)
      = s.changeRoster (r.setA ||| only n) n causeJoin := if_neg (by rw [h]; simp)
  unfold State.memberJoin
  dsimp only
  rw [this]

theorem memberJoin_mbr (s : State) (r : Round) (n : Fin 32) : (s.memberJoin r n).mbr = { s.mbr with
    rollTimer := 0, roster := if r.setA.getLsbD n.val then s.mbr.roster else r.setA ||| only n } := by
  cases h : r.setA.getLsbD n.val with
  | true =>
    rw [memberJoin_known h]
    rfl
  | false =>
    rw [memberJoin_new h, setMbr_mbr, changeRoster_mbr]
    rfl

theorem joinEffects_member {s : State} (h : Member s) (r : Round) (n : Fin 32) : joinEffects r n s = s.memberJoin r n := by
  unfold joinEffects
  rcases h with h | h <;> rw [h]

theorem joinEffects_own {s : State} (h : s.mbr.membership = .joining) (r : Round) :
    joinEffects r s.mbr.number s = s.ownJoin r := by
  unfold joinEffects
  rw [h]
  exact if_pos rfl

theorem joinEffects_foreign {s : State} (h : s.mbr.membership = .joining) {n : Fin 32} (hn : s.mbr.number ≠ n) (r : Round) :
    joinEffects r n s = s := by
  unfold joinEffects
  rw [h]
  exact if_neg hn

/-- Settles O47: the JOIN round at another joiner, at the joiner itself and at a member. -/
theorem joinRoundAdmitsOrRefuses : Obligations.JoinRoundAdmitsOrRefuses := by
  intro s r n h
  let a := s.endRound .high
  have he : exec .joinRound s = _ := h.next joinEffects
  have hend := frame_endRound_lines s .high
  refine ⟨_, he, fun hj hn => ?foreign, fun hj hn href => ?refused, fun hj hn hset hval => ?admitted, fun hm => ?member⟩
  case foreign =>
    have hv : joinEffects r n a = a := joinEffects_foreign (s := a) hj hn r
    rw [hv]
    exact ⟨.of_lif (settle_lif _) (by rw [settle_rnd]; rfl), by rw [settle_rnd]; rfl, hend.only (by rfl)⟩
  case refused =>
    subst hn
    have hval : r.setA.getLsbD s.mbr.number.val = true ∨ r.val ≠ s.mbr.nonceValue := by
      refine href.imp id fun ⟨hne, hsome⟩ => ?_
      obtain ⟨v, hv⟩ := Option.ne_none_iff_exists'.mp hsome
      simp only [Mbr.nonceValue, hv]
      exact fun he => hne (by rw [hv, he])
    let v := a.offer .joinRefused s.mbr.number reasonDuplicate r.setA s.mbr.nonceValue
    have hv : joinEffects r s.mbr.number a = v.goOffline :=
      (joinEffects_own (s := a) hj r).trans (ownJoin_refused (s := a) hval)
    rw [hv]
    obtain ⟨hlink, hstb, hdat⟩ := goOffline_closing (s := s) (v := v) (dis := .high) (offer_lif a _ _ _ _ _)
    have hframe : Frame [.lif, .rnd, .mbr, .slots, .flg, .hlt, .pin, .log, .ntf] s v.goOffline :=
      hend.then (frame_refuseJoin a reasonDuplicate r.setA) (by simp) (by simp)
    refine ⟨.of_goOffline (offer_mbr a _ _ _ _ _) (offer_slots a _ _ _ _ _), hlink, hstb, hdat, ?_, hframe.only (by rfl)⟩
    exact ((mild_endRound s .high).trans (mild_refuseJoin a reasonDuplicate r.setA)).disarms.settle
  case admitted =>
    subst hn
    have hnonce : r.val = s.mbr.nonceValue := by simp only [Mbr.nonceValue, hval]
    have hv : joinEffects r s.mbr.number a = a.admitJoiner r :=
      (joinEffects_own (s := a) hj r).trans (ownJoin_admitted (s := a) hset hnonce)
    rw [hv]
    have had := admitJoiner_admitted a r
    refine ⟨.of_lif (by rw [settle_lif, had.lif]) (by rw [settle_rnd, had.round]; rfl), by rw [settle_mbr, had.mbr]; rfl,
      by rw [settle_rnd]; exact had.entry, by rw [settle_flg]; exact had.word.1, by rw [settle_flg]; exact had.word.2,
      by rw [settle_hlt, had.condition]; rfl, fun i hen => ?_, fun i hen => ?_, ?_⟩
    · rw [slot_settle, had.slots]
      exact if_pos hen
    · rw [slot_settle, had.slots]
      exact if_neg (by rw [slot_endRound, hen]; simp)
    · exact (hend.then (c := [.lif, .rnd, .mbr, .slots, .flg, .hlt, .log, .ntf]) (frame_admitJoiner a r) (by simp)
        (by simp)).only (by rfl)
  case member =>
    have hv : joinEffects r n a = a.memberJoin r n := joinEffects_member (s := a) hm r n
    have hframe := frame_memberJoin a r n
    rw [hv]
    refine ⟨.of_lif (by rw [settle_lif, hframe.lif_eq rfl]) (by rw [settle_rnd, hframe.rnd_eq rfl]; rfl),
      by rw [settle_mbr, memberJoin_mbr]; rfl, fun hset hne => ?_,
      (hend.then (c := [.lif, .rnd, .mbr, .log, .ntf]) hframe (by simp) (by simp)).only (by rfl)⟩
    rw [memberJoin_new hset, changeRoster_changed a hne]
    refine Reporting.reports (Reporting.trans ?_ (.settle _))
    exact ((((endRound_reporting s .high).trans (.of_frame (frame_setMbr a _) ⟨rfl, rfl, rfl, rfl⟩)).offer _ _ _ _ _).raise
      _).trans (.of_frame (frame_setMbr _ _) ⟨rfl, rfl, rfl, rfl⟩)

end Sys2Proof.Machine
end

section
/-! The ARRIVE round that completes its slot (R97 to R103, R144, R151, R152). -/

namespace Sys2Proof.Machine

/-! ### Outputs at a completion -/

/-- What a completion of slot `i` makes of an output of configuration `c` (R151, R152). -/
def Output.completed (i : SlotNo) (c : OutputConfig) (x : Output) : Output :=
  match c.mode with
  | .pulse => if low5 c.target = i then { active := true, pulse := some 0 } else x
  | .toggle => if low5 c.target = i then { x with active := !x.active } else x
  | _ => x

theorem actOnCompletion_output (s : State) (i : SlotNo) (o : Fin 4) :
    (s.actOnCompletion i o).output o = (s.output o).completed i (s.outputCfg o) := by
  unfold State.actOnCompletion Output.completed
  cases (s.outputCfg o).mode with
  | pulse =>
    dsimp only
    split
    · exact output_setOutput_same s o _
    · rfl
  | toggle =>
    dsimp only
    split
    · exact output_setOutput_same s o _
    · rfl
  | off | waitLevel | flag | halted | online => rfl

theorem actOnCompletion_others (s : State) (i : SlotNo) (o : Fin 4) :
    (s.actOnCompletion i o).pin.cfg = s.pin.cfg ∧ (s.actOnCompletion i o).pin.inputs = s.pin.inputs
      ∧ ∀ j, j ≠ o → (s.actOnCompletion i o).output j = s.output j := by
  unfold State.actOnCompletion
  split
  · split
    · exact ⟨rfl, rfl, fun j hj => output_setOutput_ne s o j _ hj⟩
    · exact ⟨rfl, rfl, fun _ _ => rfl⟩
  · split
    · exact ⟨rfl, rfl, fun j hj => output_setOutput_ne s o j _ hj⟩
    · exact ⟨rfl, rfl, fun _ _ => rfl⟩
  · exact ⟨rfl, rfl, fun _ _ => rfl⟩

/-- Every output acts by its configuration; the inputs stay. -/
theorem outputsOnCompletion_outputs (s : State) (i : SlotNo) :
    ((s.outputsOnCompletion i).pin.cfg = s.pin.cfg ∧ (s.outputsOnCompletion i).pin.inputs = s.pin.inputs)
      ∧ ∀ o, (s.outputsOnCompletion i).output o = (s.output o).completed i (s.outputCfg o) := by
  refine forInputs_each (fun o t => t.actOnCompletion i o)
    (fun t => t.pin.cfg = s.pin.cfg ∧ t.pin.inputs = s.pin.inputs) (fun o t => t.output o = s.output o)
    (fun o t => t.output o = (s.output o).completed i (s.outputCfg o)) (fun o t ht => ?_) (fun o t ht ho => ?_)
    (fun o j t hj _ ho => ((actOnCompletion_others t i j).2.2 o hj.symm).trans ho)
    (fun o j t hj _ ho => ((actOnCompletion_others t i j).2.2 o hj.symm).trans ho) s ⟨rfl, rfl⟩ fun _ => rfl
  · obtain ⟨hcfg, hin, _⟩ := actOnCompletion_others t i o
    exact ⟨hcfg.trans ht.1, hin.trans ht.2⟩
  · have hcfg : t.outputCfg o = s.outputCfg o := congrArg (fun x : PinConfig => x.outputs[o]) ht.1
    rw [actOnCompletion_output, ho, hcfg]

/-! ### The completion up to the re-attempt -/

/-- A completion of slot `i` with its records, before any re-attempt (R78, R99, R100). -/
def State.completed (s : State) (i : SlotNo) (x : Slot) (r : Round) : State :=
  let y := x.complete r s.tsc.time
  let b := ((s.setSlot i y).outputsOnCompletion i).offerSlot i .complete (epochTag x.epoch) r.setA r.val
  (if y.state = .waiting then b.zeroVoids .arrive i else b.remove .arrive i).resolveCompleted i x r

theorem completeSlot_eq (s : State) (i : SlotNo) (x : Slot) (r : Round) :
    s.completeSlot i x r = (s.completed i x r).reattempt x := rfl

/-- The TOO_LATE record, where a withdrawal of the committed arrival was pending (R78). -/
def TooLate (x : Slot) : Prop := x.committed = true ∧ x.withdrawPending = true

theorem resolveCompleted_late {x : Slot} (h : TooLate x) (s : State) (i : SlotNo) (r : Round) :
    s.resolveCompleted i x r = s.offerSlot i .tooLate (epochTag x.epoch) r.setA x.arrivalValue := if_pos h

theorem resolveCompleted_else {x : Slot} (h : ¬TooLate x) (s : State) (i : SlotNo) (r : Round) :
    s.resolveCompleted i x r = s := if_neg h

theorem frame_resolveCompleted_log (s : State) (i : SlotNo) (x : Slot) (r : Round) :
    Frame [.log, .ntf] s (s.resolveCompleted i x r) :=
  .ite (frame_offerSlot s _ _ _ _ _) (.refl _ s)

/-- What stands after a completion of slot `i`, which was `x` before it, and before any re-attempt. -/
structure CompletedBy (s : State) (i : SlotNo) (x : Slot) (r : Round) (t : State) : Prop where
  slot : t.slot i = x.complete r s.tsc.time
  others : OtherSlots i s t
  round : t.rnd.round = s.rnd.round
  requests : t.rnd.requests = if (x.complete r s.tsc.time).state = .waiting then setVoids s.rnd.requests .arrive i 0
    else removeEntry s.rnd.requests .arrive i
  pinCfg : t.pin.cfg = s.pin.cfg
  inputs : t.pin.inputs = s.pin.inputs
  outputs : ∀ o, t.output o = (s.output o).completed i (s.outputCfg o)
  late : TooLate x → Reporting
    ((s.offerSlot i .complete (epochTag x.epoch) r.setA r.val).offerSlot i .tooLate (epochTag x.epoch) r.setA x.arrivalValue) t
  plain : ¬TooLate x → Reporting (s.offerSlot i .complete (epochTag x.epoch) r.setA r.val) t
  frame : Frame [.slots, .pin, .rnd, .log, .ntf] s t

theorem completed_by (s : State) {i : SlotNo} {x : Slot} (hcfg : x.cfg = (s.slot i).cfg) (r : Round) :
    CompletedBy s i x r (s.completed i x r) := by
  have hslotcfg : (x.complete r s.tsc.time).cfg = (s.slot i).cfg := (complete_cfg x r _).trans hcfg
  obtain ⟨⟨hpcfg, hpin⟩, hpout⟩ := outputsOnCompletion_outputs (s.setSlot i (x.complete r s.tsc.time)) i
  have hout := frame_outputsOnCompletion (s.setSlot i (x.complete r s.tsc.time)) i
  have hset := frame_setSlot s i (x.complete r s.tsc.time)
  have hsame : (s.setSlot i (x.complete r s.tsc.time)).slot i = x.complete r s.tsc.time := slot_setSlot_same _ _ _
  have hne : ∀ j, j ≠ i → (s.setSlot i (x.complete r s.tsc.time)).slot j = s.slot j := fun j hj =>
    slot_setSlot_ne _ _ _ _ hj
  have houtput : ∀ o, (s.setSlot i (x.complete r s.tsc.time)).output o = s.output o := fun _ => rfl
  have houtcfg : ∀ o, (s.setSlot i (x.complete r s.tsc.time)).outputCfg o = s.outputCfg o := fun _ => rfl
  have hpcfg₀ : (s.setSlot i (x.complete r s.tsc.time)).pin = s.pin := hset.pin_eq rfl
  unfold State.completed
  dsimp only
  generalize hy : x.complete r s.tsc.time = y at *
  generalize hv : s.setSlot i y = v at *
  have hb := frame_offerSlot (v.outputsOnCompletion i) i .complete (epochTag x.epoch) r.setA r.val
  have hc : Frame [.rnd] ((v.outputsOnCompletion i).offerSlot i .complete (epochTag x.epoch) r.setA r.val)
      (if y.state = .waiting
        then ((v.outputsOnCompletion i).offerSlot i .complete (epochTag x.epoch) r.setA r.val).zeroVoids .arrive i
        else ((v.outputsOnCompletion i).offerSlot i .complete (epochTag x.epoch) r.setA r.val).remove .arrive i) :=
    .ite (frame_zeroVoids _ _ _) (frame_remove _ _ _)
  have hcrnd : (if y.state = .waiting
        then ((v.outputsOnCompletion i).offerSlot i .complete (epochTag x.epoch) r.setA r.val).zeroVoids .arrive i
        else ((v.outputsOnCompletion i).offerSlot i .complete (epochTag x.epoch) r.setA r.val).remove .arrive i).rnd
      = ⟨if y.state = .waiting then setVoids s.rnd.requests .arrive i 0 else removeEntry s.rnd.requests .arrive i,
          s.rnd.round⟩ := by
    split <;> simp [hout.rnd_eq rfl, hset.rnd_eq rfl]
  have hr₀ : Reporting s (v.outputsOnCompletion i) :=
    (Reporting.of_frame hset ⟨rfl, rfl, rfl, rfl⟩).trans (.of_frame hout ⟨rfl, rfl, rfl, rfl⟩)
  have hr₁ : Reporting (s.offerSlot i .complete (epochTag x.epoch) r.setA r.val)
      ((v.outputsOnCompletion i).offerSlot i .complete (epochTag x.epoch) r.setA r.val) :=
    hr₀.offerSlot (by rw [slot_eq_of_slots (hout.slots_eq rfl), hsame, hslotcfg]) _ _ _ _
  generalize hbv : (v.outputsOnCompletion i).offerSlot i .complete (epochTag x.epoch) r.setA r.val = b at *
  generalize hcv : (if y.state = .waiting then b.zeroVoids .arrive i else b.remove .arrive i) = c at *
  have hd := frame_resolveCompleted_log c i x r
  have hr₂ := hr₁.trans (.of_frame hc ⟨rfl, rfl, rfl, rfl⟩)
  have hslots : (c.resolveCompleted i x r).slots = v.slots := by
    rw [hd.slots_eq rfl, hc.slots_eq rfl, hb.slots_eq rfl, hout.slots_eq rfl]
  have hpin' : (c.resolveCompleted i x r).pin = (v.outputsOnCompletion i).pin := by
    rw [hd.pin_eq rfl, hc.pin_eq rfl, hb.pin_eq rfl]
  exact
    { slot := by rw [slot_eq_of_slots hslots, hsame, hy]
      others := fun j hj => by rw [slot_eq_of_slots hslots, hne j hj]
      round := by rw [hd.rnd_eq rfl, hcrnd]
      requests := by rw [hd.rnd_eq rfl, hcrnd, hy]
      pinCfg := by rw [hpin', hpcfg, hpcfg₀]
      inputs := by rw [hpin', hpin, hpcfg₀]
      outputs := fun o => by
        have : (c.resolveCompleted i x r).output o = (v.outputsOnCompletion i).output o :=
          congrArg (fun p : Pin => p.outputs[o]) hpin'
        rw [this, hpout, houtput, houtcfg]
      late := fun h => by
        rw [resolveCompleted_late h]
        refine hr₂.offerSlot ?_ _ _ _ _
        rw [slot_offerSlot, slot_eq_of_slots (hc.slots_eq rfl), slot_eq_of_slots (hb.slots_eq rfl),
          slot_eq_of_slots (hout.slots_eq rfl), hsame, hslotcfg]
      plain := fun h => by
        rw [resolveCompleted_else h]
        exact hr₂
      frame := ((((hset.then (c := [.slots, .pin, .rnd, .log, .ntf]) hout (by simp) (by simp)).then
        (c := [.slots, .pin, .rnd, .log, .ntf]) hb (by simp) (by simp)).then (c := [.slots, .pin, .rnd, .log, .ntf])
        hc (by simp) (by simp)).then (c := [.slots, .pin, .rnd, .log, .ntf]) hd (by simp) (by simp)) }

/-! ### The re-attempt -/

/-- The source of the slot's arrival attempts again (R144). -/
abbrev AttemptsAgain (s : State) (k : Fin 4) : Prop := s.LevelArmed k ∧ s.InputActive k ∧ (s.input k).armed = true

theorem reattempt_again {s : State} {x : Slot} {a : Arrival} {k : Fin 4} (hcom : x.committed = true)
    (harr : x.arrival = some a) (hsource : a.source = .input k) (h : AttemptsAgain s k) :
    s.reattempt x = s.levelAttempt k := by
  obtain ⟨value, source, time⟩ := a
  obtain rfl : source = .input k := hsource
  unfold State.reattempt
  rw [hcom, harr]
  exact if_pos h

theorem reattempt_none {s : State} {x : Slot}
    (h : x.committed = true → ∀ a k, x.arrival = some a → a.source = .input k → ¬AttemptsAgain s k) : s.reattempt x = s := by
  unfold State.reattempt
  split
  · rename_i value k time hcom harr
    exact if_neg (h hcom _ _ harr rfl)
  · rfl

/-- What a re-attempt on slot `n`, refused or taken, leaves as it was. -/
structure Reattempted (n : SlotNo) (s t : State) : Prop where
  others : OtherSlots n s t
  items : (t.slot n).result = (s.slot n).result ∧ (t.slot n).epoch = (s.slot n).epoch ∧ (t.slot n).sync = (s.slot n).sync
    ∧ (t.slot n).lastSeen = (s.slot n).lastSeen
  entries : OtherEntries .arrive n s t
  disarms : OnlyDisarms s t
  frame : Frame [.slots, .rnd, .pin] s t

theorem Reattempted.refl (n : SlotNo) (s : State) : Reattempted n s s :=
  ⟨fun _ _ => rfl, ⟨rfl, rfl, rfl, rfl⟩, .refl _ _ rfl, .refl s, .refl _ s⟩

theorem Reattempted.of_disarm (n : SlotNo) (s : State) (k : Fin 4) : Reattempted n s (s.disarm k) := by
  have h := frame_disarm s k
  have hslots : ∀ j, (s.disarm k).slot j = s.slot j := slot_eq_of_slots (h.slots_eq rfl)
  exact ⟨fun j _ => hslots j, by rw [hslots]; exact ⟨rfl, rfl, rfl, rfl⟩, .refl _ _ (h.rnd_eq rfl), (mild_disarm s k).disarms,
    h.mono (by simp)⟩

theorem Reattempted.of_takeArrival (n : SlotNo) (s : State) (v : Half) (src : Source) :
    Reattempted n s (s.takeArrival n v src) := by
  have h := frame_takeArrival s n v src
  exact ⟨.of_setSlot rfl, by rw [takeArrival_slot]; exact ⟨rfl, rfl, rfl, rfl⟩, .of_place (takeArrival_rnd s n v src),
    .of_pin (h.pin_eq rfl), h.mono (by simp)⟩

theorem reattempt_reattempted {n : SlotNo} {s : State} {x : Slot}
    (hbound : ∀ a k, x.arrival = some a → a.source = .input k → low5 (s.inputCfg k).target = n) :
    Reattempted n s (s.reattempt x) := by
  unfold State.reattempt
  split
  · rename_i value k time hcom harr
    split
    · have htarget : low5 (s.inputCfg k).target = n := hbound _ k harr rfl
      rcases levelAttempt_cases s k with ⟨_, he⟩ | ⟨_, he⟩
      · rw [he, htarget]
        exact .of_takeArrival n s _ _
      · rw [he]
        exact .of_disarm n s k
    · exact .refl n s
  · exact .refl n s

theorem arrivalTest_iff (s : State) (i : SlotNo) : s.arrivalTest i = .ok ↔
    s.MayArrive i ∧ (s.slot i).state ≠ .fault ∧ (s.slot i).state ≠ .waiting := by
  constructor
  · intro h
    obtain ⟨hon, hen, hf, hrun, hm, hw⟩ := arrivalTest_ok h
    exact ⟨⟨hon, hen, hrun, hm⟩, hf, hw⟩
  · rintro ⟨⟨hon, hen, hrun, hm⟩, hf, hw⟩
    have hmem : s.MemberOf i := hm
    simp [State.arrivalTest, hon, hen, hrun, hf, hw, hmem]

/-! ### The statement -/

/-- The slot at its completion, its arrival gone or kept (R99 to R101). -/
theorem complete_items (x : Slot) (r : Round) (time : Word) :
    (x.complete r time).result = some { epoch := x.epoch, arrived := r.setA, agreed := r.val, time := time }
      ∧ (x.complete r time).epoch = x.epoch + 1 ∧ (x.complete r time).sync = x.sync ∧ (x.complete r time).lastSeen = 0#32
      ∧ (x.committed = false → (x.complete r time).state = x.state ∧ (x.complete r time).arrival = x.arrival)
      ∧ (x.committed = true → (x.complete r time).state = .ready ∧ (x.complete r time).arrival = none) := by
  unfold Slot.complete
  cases x.committed <;> simp [Slot.dropArrival]

theorem arriveEffects_completes {s : State} {r : Round} {n : Fin 32} {required : Set32} (h : r.required = some required)
    (hc : Completes required r.setA) : arriveEffects r n s = s.completeSlot n ((s.slot n).adopt r.tag) r := by
  unfold arriveEffects
  rw [h]
  exact if_pos hc

theorem arriveEffects_progresses {s : State} {r : Round} {n : Fin 32} {required : Set32} (h : r.required = some required)
    (hc : ¬Completes required r.setA) : arriveEffects r n s = s.progressSlot n ((s.slot n).adopt r.tag) r := by
  unfold arriveEffects
  rw [h]
  exact if_neg hc

theorem arriveEffects_unevaluated {s : State} {r : Round} (h : r.required = none) (n : Fin 32) :
    arriveEffects r n s = s.zeroVoids .arrive n := by
  unfold arriveEffects
  rw [h]

/-- Settles O48: the completion with its records, the released arrival, its source's new attempt, and the outputs. -/
theorem arriveRoundCompletesTheSlot : Obligations.ArriveRoundCompletesTheSlot := by
  intro s r n required h hreq hne hcover hsource
  have he : exec .arriveRound s = _ := h.next arriveEffects
  have hend := frame_endRound_lines s .high
  have hrep₀ := endRound_reporting s .high
  rw [arriveEffects_completes hreq ⟨hne, hcover⟩, completeSlot_eq, adopt_eq, slot_endRound] at he
  have hcb := completed_by (s.endRound .high) (i := n)
    (x := { s.slot n with epoch := (s.slot n).epochAfter r.tag, sync := .synced }) rfl r
  generalize hx : ({ s.slot n with epoch := (s.slot n).epochAfter r.tag, sync := .synced } : Slot) = x at he hcb
  have hxepoch : x.epoch = (s.slot n).epochAfter r.tag := by rw [← hx]
  have hxsync : x.sync = .synced := by rw [← hx]
  have hxcom : x.committed = (s.slot n).committed := by rw [← hx]
  have hxarr : x.arrival = (s.slot n).arrival := by rw [← hx]
  have hxstate : x.state = (s.slot n).state := by rw [← hx]
  have hxpend : x.withdrawPending = (s.slot n).withdrawPending := by rw [← hx]
  have hxval : x.arrivalValue = (s.slot n).arrivalValue := by rw [← hx]; rfl
  obtain ⟨hresult, hepoch, hsync, hseen, hkept, hgone⟩ := complete_items x r (s.endRound .high).tsc.time
  generalize hD : (s.endRound .high).completed n x r = D at he hcb
  have hincfg : ∀ k, D.inputCfg k = s.inputCfg k := fun k => congrArg (fun c : PinConfig => c.inputs[k]) hcb.pinCfg
  have hinput : ∀ k, D.input k = s.input k := fun k => congrArg (fun v : Vector Input 4 => v[k]) hcb.inputs
  have hagain : ∀ k, AttemptsAgain D k ↔ s.LevelArmed k ∧ s.InputActive k ∧ (s.input k).armed = true := fun k => by
    simp only [AttemptsAgain, State.LevelArmed, State.InputActive, hincfg, hinput]
  have hre : Reattempted n D (D.reattempt x) := reattempt_reattempted fun a k ha hk => by
    rw [hincfg]
    exact (hsource a k (by rw [← hxarr]; exact ha) hk).2
  have hout : ∀ o, (D.reattempt x).settle.output o = (s.output o).completed n (s.outputCfg o) := fun o => by
    rw [output_settle]
    exact (congrArg (fun v : Vector Output 4 => v[o]) hre.disarms.2.1).trans (hcb.outputs o)
  have hframe : Frame [.lif, .rnd, .slots, .pin, .log, .ntf] s (D.reattempt x) :=
    (hend.then (c := [.lif, .rnd, .slots, .pin, .log, .ntf]) hcb.frame (by simp) (by simp)).then hre.frame (by simp) (by simp)
  have hrepD : Reporting D (D.reattempt x).settle := (Reporting.of_frame hre.frame ⟨rfl, rfl, rfl, rfl⟩).trans (.settle _)
  have hround : D.rnd.round = none := hcb.round
  have htest : (s.slot n).committed = true → (D.arrivalTest n = .ok ↔ s.MayArrive n) := fun hcom => by
    have hmbr : D.mbr = s.mbr := hcb.frame.mbr_eq rfl
    have hhlt : D.hlt = s.hlt := hcb.frame.hlt_eq rfl
    have hcfg : (D.slot n).cfg = (s.slot n).cfg := by rw [hcb.slot, complete_cfg, ← hx]
    rw [arrivalTest_iff, hcb.slot, (hgone (hxcom.trans hcom)).1]
    simp only [State.MayArrive, State.requiredNow, hmbr, hhlt, hcfg, ne_eq, reduceCtorEq, not_false_eq_true, and_true]
  have hplain : (s.slot n).committed = false ∨ (s.slot n).withdrawPending = false →
      ReportsSlot s (D.reattempt x).settle n .complete (((s.slot n).epochAfter r.tag).setWidth 8) r.setA r.val := fun hor => by
    have hnot : ¬TooLate x := by
      rintro ⟨h₁, h₂⟩
      rw [hxcom] at h₁
      rw [hxpend] at h₂
      simp [h₁, h₂] at hor
    have := hcb.plain hnot
    rw [hxepoch] at this
    exact ((hrep₀.offerSlot rfl _ _ _ _).trans (this.trans hrepD)).reportsSlot
  refine ⟨_, he, .of_lif (s := s) (dis := .high) ?_ ?_, fun j hj => ?_, ⟨?_, fun c' n' hne' => ?_⟩, ?_, ?_, ?_, ?_, fun hcom => ?kept,
    fun hcom => ⟨fun hpend => hplain (.inr hpend), fun hpend => ?late, fun a k harr hsrc hlev hact harm => ⟨fun hmay => ?again,
      fun hmay => ?refused⟩, fun hnone => ?quiet⟩, fun o hm ht => ?_, fun o hm ht => ?_, fun o hor => ?_, ?_, fun k => ?_,
    hframe.only (by rfl)⟩
  · rw [settle_lif, hre.frame.lif_eq rfl, hcb.frame.lif_eq rfl]
  · rw [settle_rnd, hre.entries.1, hround]
  · rw [slot_settle, hre.others j hj, hcb.others j hj]
    rfl
  · rw [settle_rnd, hre.entries.1, hround]
    rfl
  · have hD' : findEntry D.rnd.requests c' n' = findEntry s.rnd.requests c' n' := by
      rw [hcb.requests]
      split
      · exact findEntry_setVoids_ne _ _ _ _ _ _ hne'
      · exact findEntry_removeEntry_ne _ _ _ _ _ hne'
    rw [settle_rnd, hre.entries.2 c' n' hne', hD']
    rfl
  · rw [slot_settle, hre.items.1, hcb.slot, hresult, hxepoch]
    rfl
  · rw [slot_settle, hre.items.2.1, hcb.slot, hepoch, hxepoch]
  · rw [slot_settle, hre.items.2.2.1, hcb.slot, hsync, hxsync]
  · rw [slot_settle, hre.items.2.2.2, hcb.slot, hseen]
  case kept =>
    have hv : D.reattempt x = D := reattempt_none fun hc => by rw [hxcom, hcom] at hc; cases hc
    obtain ⟨hs, ha⟩ := hkept (hxcom.trans hcom)
    refine ⟨?_, ?_, hplain (.inl hcom)⟩
    · rw [slot_settle, hv, hcb.slot, hs, hxstate]
    · rw [slot_settle, hv, hcb.slot, ha, hxarr]
  case late =>
    have := hcb.late ⟨hxcom.trans hcom, hxpend.trans hpend⟩
    rw [hxepoch, hxval] at this
    exact (((hrep₀.offerSlot rfl _ _ _ _).offerSlot (by rw [slot_offerSlot, slot_offerSlot]; rfl) _ _ _ _).trans
      (this.trans hrepD)).reportsSlot
  case again =>
    obtain ⟨hs, ha⟩ := hgone (hxcom.trans hcom)
    have htarget : low5 (D.inputCfg k).target = n := by
      rw [hincfg]
      exact (hsource a k harr hsrc).2
    have hv : D.reattempt x = D.takeArrival n (s.inputCfg k).value (.input k) := by
      rw [reattempt_again (hxcom.trans hcom) (hxarr.trans harr) hsrc ((hagain k).mpr ⟨hlev, hact, harm⟩)]
      rcases levelAttempt_cases D k with ⟨_, he⟩ | ⟨hn, _⟩
      · rw [he, htarget, hincfg]
      · rw [htarget] at hn
        exact absurd ((htest hcom).mpr hmay) hn
    have hgoneD : findEntry D.rnd.requests .arrive n = none := by
      rw [hcb.requests, if_neg (by rw [hs]; simp)]
      exact findEntry_removeEntry_same _ _ _
    refine ⟨?_, ?_, ?_⟩
    · rw [slot_settle, hv, takeArrival_slot]
      have htime : D.tsc.time = s.tsc.time := congrArg Tsc.time (hcb.frame.tsc_eq rfl)
      rw [htime]
      rfl
    · rw [settle_rnd, hv, takeArrival_rnd, findEntry_placeEntry_same, hgoneD]
    · rw [input_settle, hv]
      exact (congrArg (fun p : Pin => p.inputs[k].armed) ((frame_takeArrival D n _ _).pin_eq rfl)).trans
        ((congrArg Input.armed (hinput k)).trans harm)
  case refused =>
    obtain ⟨hs, ha⟩ := hgone (hxcom.trans hcom)
    have htarget : low5 (D.inputCfg k).target = n := by
      rw [hincfg]
      exact (hsource a k harr hsrc).2
    have hak := (hagain k).mpr ⟨hlev, hact, harm⟩
    have hv : D.reattempt x = D.disarm k := by
      rw [reattempt_again (hxcom.trans hcom) (hxarr.trans harr) hsrc hak]
      rcases levelAttempt_cases D k with ⟨hok, _⟩ | ⟨_, he⟩
      · rw [htarget] at hok
        exact absurd ((htest hcom).mp hok) hmay
      · exact he
    have hslot : (D.reattempt x).settle.slot n = x.complete r (s.endRound .high).tsc.time := by
      rw [slot_settle, hv, slot_eq_of_slots ((frame_disarm D k).slots_eq rfl), hcb.slot]
    refine ⟨by rw [hslot, hs], by rw [hslot, ha], ?_, ?_⟩
    · rw [settle_rnd, hv, (frame_disarm D k).rnd_eq rfl, hcb.requests, if_neg (by rw [hs]; simp)]
      exact hasEntry_removeEntry_same _ _ _
    · rw [input_settle, hv, disarm_input_same, if_pos ⟨hak.1, hak.2.1⟩]
      rfl
  case quiet =>
    obtain ⟨hs, ha⟩ := hgone (hxcom.trans hcom)
    have hv : D.reattempt x = D := reattempt_none fun _ a k harr hsrc hak =>
      hnone a k (hxarr.symm.trans harr) hsrc ((hagain k).mp hak)
    refine ⟨by rw [slot_settle, hv, hcb.slot, hs], by rw [slot_settle, hv, hcb.slot, ha], ?_, fun k => ?_⟩
    · rw [settle_rnd, hv, hcb.requests, if_neg (by rw [hs]; simp)]
      exact hasEntry_removeEntry_same _ _ _
    · rw [input_settle, hv, hinput]
  · rw [hout]
    simp [Output.completed, hm, ht]
  · rw [hout]
    simp [Output.completed, hm, ht]
  · rw [hout]
    unfold Output.completed
    rcases hor with ⟨h₁, h₂⟩ | h₁
    · split
      · exact absurd ‹_› h₁
      · exact absurd ‹_› h₂
      · rfl
    · rw [if_neg h₁, if_neg h₁]
      split <;> rfl
  · rw [settle_pin, hre.disarms.1, hcb.pinCfg]
    rfl
  · rw [input_settle, ← hinput k]
    exact hre.disarms.2.2 k

end Sys2Proof.Machine
end

section
/-! The ARRIVE round that does not complete its slot (R98, R102, R103), and what it resolves of a commitment (R78, R82). -/

namespace Sys2Proof.Machine

/-! ### Commitments resolved -/

theorem resolveUncompleted_idle {s : State} {i : SlotNo}
    (h : ¬((s.slot i).state = .waiting ∧ (s.slot i).committed = true)) : s.resolveUncompleted i = s := if_neg h

theorem resolveUncompleted_withdrawn {s : State} {i : SlotNo}
    (h : (s.slot i).state = .waiting ∧ (s.slot i).committed = true) (hp : (s.slot i).withdrawPending = true) :
    s.resolveUncompleted i = s.withdrawNow i .withdrawn := (if_pos h).trans (if_pos hp)

theorem resolveUncompleted_timedOut {s : State} {i : SlotNo}
    (h : (s.slot i).state = .waiting ∧ (s.slot i).committed = true) (hp : (s.slot i).withdrawPending = false)
    (ht : (s.slot i).timeoutPending = true) : s.resolveUncompleted i = s.timeoutNow i :=
  (if_pos h).trans ((if_neg (by simp [hp])).trans (if_pos ht))

theorem resolveUncompleted_kept {s : State} {i : SlotNo}
    (h : (s.slot i).state = .waiting ∧ (s.slot i).committed = true) (hp : (s.slot i).withdrawPending = false)
    (ht : (s.slot i).timeoutPending = false) :
    s.resolveUncompleted i = s.setSlot i { s.slot i with committed := false } :=
  (if_pos h).trans ((if_neg (by simp [hp])).trans (if_neg (by simp [ht])))

/-- A pending withdrawal, or else a pending timeout, takes effect on the station `v`, which differs from `s` as the arrival of
slot `n` goes (R78, R82). -/
theorem resolved_gone {n : SlotNo} {s v : State} (hgoing : ArrivalGoing n s v)
    (hw : (v.slot n).state = .waiting ∧ (v.slot n).committed = true)
    (hp : (v.slot n).withdrawPending = true ∨ (v.slot n).timeoutPending = true) :
    (v.resolveUncompleted n).slot n = { (v.slot n).dropArrival with state := .ready }
      ∧ Reporting (v.offerSlot n (if (v.slot n).withdrawPending then .withdrawn else .timeout)
          ((v.slot n).epoch.setWidth 8) (v.slot n).lastSeen (v.slot n).arrivalValue) (v.resolveUncompleted n)
      ∧ ArrivalGone n ((v.slot n).withdrawPending = false) s (v.resolveUncompleted n).settle := by
  cases hpend : (v.slot n).withdrawPending with
  | true =>
    rw [resolveUncompleted_withdrawn hw hpend]
    exact ⟨withdrawNow_slot v n _, withdrawNow_reporting v n .withdrawn, .of_withdrawNow hgoing _ fun h => by simp at h⟩
  | false =>
    have ht : (v.slot n).timeoutPending = true := hp.resolve_left (by simp [hpend])
    have hafter := timeoutNow_frame v n
    rw [resolveUncompleted_timedOut hw hpend ht]
    exact ⟨by rw [slot_eq_of_slots (hafter.slots_eq rfl), withdrawNow_slot],
      (withdrawNow_reporting v n .timeout).trans (.of_frame hafter ⟨rfl, rfl, rfl, rfl⟩), .of_timeoutNow hgoing rfl⟩

/-! ### Progress -/

/-- The slot as a round has advanced it; a published arrival is no probe (R102, R108). -/
def Slot.progressed (x : Slot) (r : Round) (number : StationNo) : Slot :=
  if (x.advance r number).published then { x.advance r number with probe := false } else x.advance r number

/-- A round's progress on slot `i` up to the resolution of its commitment (R102, R103). -/
def State.progressed (s : State) (i : SlotNo) (x : Slot) (r : Round) : State :=
  let a := (s.setSlot i (x.progressed r s.mbr.number)).offerProgress i r
  if (x.advance r s.mbr.number).published then a.remove .arrive i else a.zeroVoids .arrive i

theorem progressSlot_eq (s : State) (i : SlotNo) (x : Slot) (r : Round) :
    s.progressSlot i x r = (s.progressed i x r).resolveUncompleted i := rfl

theorem progressed_items (x : Slot) (r : Round) (number : StationNo) :
    let z := x.progressed r number
    z.cfg = x.cfg ∧ z.state = x.state ∧ z.sync = x.sync ∧ z.epoch = x.epoch ∧ z.arrival = x.arrival
      ∧ z.committed = x.committed ∧ z.withdrawPending = x.withdrawPending ∧ z.timeoutPending = x.timeoutPending
      ∧ z.lastSeen = r.setA ∧ z.result = x.result ∧ z.published = (x.advance r number).published := by
  unfold Slot.progressed
  dsimp only
  split <;> exact ⟨rfl, rfl, rfl, rfl, rfl, rfl, rfl, rfl, rfl, rfl, rfl⟩

/-- What stands after a round's progress on slot `i`, which was `x` before it. -/
structure ProgressedBy (s : State) (i : SlotNo) (x : Slot) (r : Round) (t : State) : Prop where
  slot : t.slot i = x.progressed r s.mbr.number
  others : OtherSlots i s t
  round : t.rnd.round = s.rnd.round
  requests : t.rnd.requests = if (x.advance r s.mbr.number).published then removeEntry s.rnd.requests .arrive i
    else setVoids s.rnd.requests .arrive i 0
  reporting : Reporting
    (if x.cfg.logProgress then s.offer .progress i (epochTag x.epoch) r.setA r.val else s) t
  frame : Frame [.slots, .rnd, .log, .ntf] s t

theorem progressed_by (s : State) (i : SlotNo) (x : Slot) (r : Round) :
    ProgressedBy s i x r (s.progressed i x r) := by
  obtain ⟨hcfg, _, _, hepoch, _⟩ := progressed_items x r s.mbr.number
  have hset := frame_setSlot s i (x.progressed r s.mbr.number)
  have hsame : (s.setSlot i (x.progressed r s.mbr.number)).slot i = x.progressed r s.mbr.number := slot_setSlot_same _ _ _
  have hne : ∀ j, j ≠ i → (s.setSlot i (x.progressed r s.mbr.number)).slot j = s.slot j := fun j hj =>
    slot_setSlot_ne _ _ _ _ hj
  unfold State.progressed
  dsimp only
  generalize hz : x.progressed r s.mbr.number = z at *
  generalize hv : s.setSlot i z = v at *
  have hoffer : Frame [.log, .ntf] v (v.offerProgress i r) := .ite (frame_offer v _ _ _ _ _) (.refl _ v)
  have hrep : Reporting (if x.cfg.logProgress then s.offer .progress i (epochTag x.epoch) r.setA r.val else s)
      (v.offerProgress i r) := by
    have hsv : Reporting s v := .of_frame hset ⟨rfl, rfl, rfl, rfl⟩
    unfold State.offerProgress
    rw [hsame, hcfg, hepoch]
    split
    · exact hsv.offer _ _ _ _ _
    · exact hsv
  generalize v.offerProgress i r = w at *
  have hlist : Frame [.rnd] w (if (x.advance r s.mbr.number).published then w.remove .arrive i else w.zeroVoids .arrive i) :=
    .ite (frame_remove _ _ _) (frame_zeroVoids _ _ _)
  have hrnd : (if (x.advance r s.mbr.number).published then w.remove .arrive i else w.zeroVoids .arrive i).rnd
      = ⟨if (x.advance r s.mbr.number).published then removeEntry s.rnd.requests .arrive i
          else setVoids s.rnd.requests .arrive i 0, s.rnd.round⟩ := by
    split <;> simp [hoffer.rnd_eq rfl, hset.rnd_eq rfl]
  generalize (if (x.advance r s.mbr.number).published then w.remove .arrive i else w.zeroVoids .arrive i) = t at *
  have hslots : t.slots = v.slots := by rw [hlist.slots_eq rfl, hoffer.slots_eq rfl]
  exact
    { slot := by rw [slot_eq_of_slots hslots, hsame, hz]
      others := fun j hj => by rw [slot_eq_of_slots hslots, hne j hj]
      round := by rw [hrnd]
      requests := by rw [hrnd]
      reporting := hrep.trans (.of_frame hlist ⟨rfl, rfl, rfl, rfl⟩)
      frame := (hset.then (c := [.slots, .rnd, .log, .ntf]) hoffer (by simp) (by simp)).then
        (c := [.slots, .rnd, .log, .ntf]) hlist (by simp) (by simp) }

/-! ### The statement -/

/-- Settles O49: progress with nothing pending, a commitment resolved, and the round that the slot took no part in. -/
theorem arriveRoundRecordsProgress : Obligations.ArriveRoundRecordsProgress := by
  intro s r n h
  have he : exec .arriveRound s = _ := h.next arriveEffects
  have hend := frame_endRound_lines s .high
  have hrep₀ := endRound_reporting s .high
  let x : Slot := { s.slot n with epoch := (s.slot n).epochAfter r.tag, sync := .synced }
  have hprog : ∀ required, r.required = some required → ¬(required ≠ 0#32 ∧ required &&& r.setA = required) →
      arriveEffects r n (s.endRound .high) = ((s.endRound .high).progressed n x r).resolveUncompleted n :=
    fun required hreq hnot => by
      rw [arriveEffects_progresses hreq hnot, progressSlot_eq, adopt_eq, slot_endRound]
  have hby := progressed_by (s.endRound .high) n x r
  have hitems := progressed_items x r s.mbr.number
  refine ⟨fun required hreq hnot hwithdraw htimeout => ?progress, fun required hreq hnot hwait hcom hpend => ?resolved,
    fun hnone => ?absent⟩
  case progress =>
    rw [hprog required hreq hnot] at he
    generalize (s.endRound .high).progressed n x r = v at he hby
    obtain ⟨_, hstate, hsync, hepoch, harr, hcommitted, hwp, htp, hseen, hresult, hpub⟩ := hitems
    have hslot : v.slot n = x.progressed r s.mbr.number := hby.slot
    have hres : v.resolveUncompleted n = v ∧ ¬((v.slot n).state = .waiting ∧ (v.slot n).committed = true)
        ∨ v.resolveUncompleted n = v.setSlot n { v.slot n with committed := false } := by
      by_cases hw : (v.slot n).state = .waiting ∧ (v.slot n).committed = true
      · exact .inr (resolveUncompleted_kept hw (by rw [hslot, hwp]; exact hwithdraw) (by rw [hslot, htp]; exact htimeout))
      · exact .inl ⟨resolveUncompleted_idle hw, hw⟩
    have hafter : Frame [.slots] v (v.resolveUncompleted n) ∧ OtherSlots n v (v.resolveUncompleted n)
        ∧ (v.resolveUncompleted n).slot n = { v.slot n with committed := ((v.resolveUncompleted n).slot n).committed }
        ∧ ((v.slot n).state = .waiting → ((v.resolveUncompleted n).slot n).committed = false) := by
      rcases hres with ⟨hv, hw⟩ | hv
      · rw [hv]
        exact ⟨.refl _ v, fun _ _ => rfl, rfl, fun hs => by simpa [hs] using hw⟩
      · rw [hv]
        exact ⟨frame_setSlot v n _, fun j hj => slot_setSlot_ne _ _ _ _ hj, by rw [slot_setSlot_same],
          fun _ => by rw [slot_setSlot_same]⟩
    obtain ⟨hframe, hothers, hsame, hfree⟩ := hafter
    have hrnd : (v.resolveUncompleted n).settle.rnd = v.rnd := by rw [settle_rnd, hframe.rnd_eq rfl]
    have hall : Frame [.lif, .rnd, .slots, .log, .ntf] s (v.resolveUncompleted n) :=
      (hend.then (c := [.lif, .rnd, .slots, .log, .ntf]) hby.frame (by simp) (by simp)).then hframe (by simp) (by simp)
    refine ⟨_, he, .of_lif (s := s) (dis := .high) ?_ ?_, fun j hj => ?_, ?_, ?_, ?_, ?_, ?_, ?_, fun hw => ?_, fun hw hin => ?_,
      fun hp hout => ?_, hall.only (by rfl)⟩
    · rw [settle_lif, hframe.lif_eq rfl, hby.frame.lif_eq rfl]
    · rw [hrnd, hby.round]
      rfl
    · rw [slot_settle, hothers j hj, hby.others j hj]
      rfl
    · rw [slot_settle, hsame, hslot]
      exact hseen
    · rw [slot_settle, hsame, hslot]
      exact hsync
    · rw [slot_settle, hsame, hslot]
      exact hepoch
    · rw [slot_settle, hsame, hslot]
      exact hstate
    · rw [slot_settle, hsame, hslot]
      exact harr
    · rw [slot_settle, hsame, hslot]
      exact hresult
    · rw [slot_settle]
      exact hfree (by rw [hslot, hstate]; exact hw)
    · have hp : (x.advance r s.mbr.number).published = true := by
        have hin' : r.setA.getLsbD (↑s.mbr.number) = true := hin
        have hw' : x.state = .waiting := hw
        simp only [Slot.advance, hin', hw', beq_self_eq_true, Bool.and_self, Bool.or_true]
      refine ⟨?_, ?_⟩
      · rw [slot_settle, hsame, hslot]
        exact hpub.trans hp
      · rw [hrnd, hby.requests]
        exact (congrArg (hasEntry · .arrive n) (if_pos hp)).trans (hasEntry_removeEntry_same _ _ _)
    · have hp' : (x.advance r s.mbr.number).published = false := by
        have hout' : r.setA.getLsbD (↑s.mbr.number) = false := hout
        have hpx : x.published = false := hp
        simp only [Slot.advance, hout', hpx, Bool.false_and, Bool.or_self]
      refine ⟨?_, ?_⟩
      · rw [slot_settle, hsame, hslot]
        exact hpub.trans hp'
      · rw [hrnd, hby.requests]
        exact (congrArg (hasEntry · .arrive n) (if_neg (by rw [endRound_mbr, hp']; simp))).trans
          (hasEntry_setVoids _ _ _ _ _ _)
  case resolved =>
    rw [hprog required hreq hnot] at he
    generalize (s.endRound .high).progressed n x r = v at he hby
    have hslot : v.slot n = x.progressed r s.mbr.number := hby.slot
    obtain ⟨hcfg, hstate, hsync, hepoch, harr, hcommitted, hwp, htp, hseen, hresult, _⟩ := hitems
    have hgoing : ArrivalGoing n s v :=
      { frame := hend.then hby.frame (by simp) (by simp)
        others := fun j hj => by rw [hby.others j hj]; rfl
        arrival := by rw [hslot, harr]
        cfg := by rw [hslot, hcfg]
        entries := fun c' n' hne => by
          rw [hby.requests]
          split
          · exact findEntry_removeEntry_ne _ _ _ _ _ hne
          · exact findEntry_setVoids_ne _ _ _ _ _ _ hne }
    have hw : (v.slot n).state = .waiting ∧ (v.slot n).committed = true := by
      rw [hslot, hstate, hcommitted]
      exact ⟨hwait, hcom⟩
    have hp : (v.slot n).withdrawPending = true ∨ (v.slot n).timeoutPending = true := by
      rw [hslot, hwp, htp]
      exact hpend
    obtain ⟨hafter, hrep, hgone⟩ := resolved_gone hgoing hw hp
    have hvwp : (v.slot n).withdrawPending = (s.slot n).withdrawPending := by rw [hslot, hwp]
    have hvepoch : (v.slot n).epoch = (s.slot n).epochAfter r.tag := by rw [hslot, hepoch]
    have hvval : (v.slot n).arrivalValue = (s.slot n).arrivalValue := by
      unfold Slot.arrivalValue
      rw [hslot, harr]
    have hround : (v.resolveUncompleted n).settle.rnd.round = none := by
      rw [settle_rnd, (listed_resolveUncompleted v n).round, hby.round]
      rfl
    refine ⟨_, he, .of_lif (s := s) (dis := .high) ?_ hround, ?_, ?_, ?_⟩
    · rw [settle_lif, (frame_resolveUncompleted v n).lif_eq rfl, hby.frame.lif_eq rfl]
    · rw [slot_settle, hafter, hslot]
      simp only [Slot.dropArrival, hcfg, hsync, hepoch, hseen, hresult]
      rfl
    · rw [hvwp, hvepoch, hvval, hslot, hseen] at hrep
      have hbase : Reporting (if (s.slot n).cfg.logProgress then
          s.offer .progress n (((s.slot n).epochAfter r.tag).setWidth 8) r.setA r.val else s) v := by
        refine Reporting.trans ?_ hby.reporting
        show Reporting _ (if (s.slot n).cfg.logProgress then _ else _)
        split
        · exact hrep₀.offer _ _ _ _ _
        · exact hrep₀
      refine ((hbase.offerSlot ?_ _ _ _ _).trans (hrep.trans (.settle _))).reportsSlot
      rw [hgoing.cfg]
      split
      · rw [slot_offer]
      · rfl
    · rw [← hvwp]
      exact hgone
  case absent =>
    rw [arriveEffects_unevaluated hnone] at he
    have hframe : Frame [.lif, .rnd] s ((s.endRound .high).zeroVoids .arrive n) :=
      hend.then (frame_zeroVoids _ _ _) (by simp) (by simp)
    exact ⟨_, he, .of_lif (s := s) (dis := .high) (by simp) (by simp), by simp, hframe.only (by rfl)⟩

end Sys2Proof.Machine
end

section
/-! The ROLL round (R58, R108, R120, R137): roster, word and condition taken, then the probes. -/

namespace Sys2Proof.Machine

/-! ### The roster and the word -/

/-- The station as it has taken the roster and the flag word of a ROLL round (R58, R120). -/
def State.rollTaken (s : State) (r : Round) : State :=
  (s.changeRoster r.setA s.mbr.number causeRoll).changeWord r.wordB causeRoll

theorem takeRoll_eq (s : State) (r : Round) : s.takeRoll r
    = if r.setA = s.mbr.roster then (s.rollTaken r).repairCondition r
      else forSlots State.probeSlot ((s.rollTaken r).repairCondition r) := rfl

theorem frame_rollTaken (s : State) (r : Round) : Frame [.mbr, .flg, .log, .ntf] s (s.rollTaken r) :=
  (frame_changeRoster s _ _ _).then (frame_changeWord _ _ _) (by simp) (by simp)

theorem rollTaken_mbr (s : State) (r : Round) : (s.rollTaken r).mbr = { s.mbr with roster := r.setA } := by
  unfold State.rollTaken
  rw [(frame_changeWord _ _ _).mbr_eq rfl, changeRoster_mbr]

theorem rollTaken_flg (s : State) (r : Round) :
    (s.rollTaken r).flg = { s.flg with word := r.wordB, sync := .synced } := by
  unfold State.rollTaken
  rw [changeWord_flg, (frame_changeRoster s _ _ _).flg_eq rfl]

/-- What the probes leave alone stands after the condition repair. -/
theorem takeRoll_probed (s : State) (r : Round) :
    Frame [.slots, .rnd] ((s.rollTaken r).repairCondition r) (s.takeRoll r) := by
  rw [takeRoll_eq]
  exact .ite (.refl _ _) (frame_forSlots _ frame_probeSlot _)

theorem takeRoll_flg (s : State) (r : Round) :
    (s.takeRoll r).flg = { s.flg with word := r.wordB, sync := .synced } := by
  rw [(takeRoll_probed s r).flg_eq rfl, (frame_repairCondition _ r).flg_eq rfl, rollTaken_flg]

/-! ### The condition repair -/

theorem repairCondition_kept {s : State} {r : Round} (h : s.hlt.condition = .halted ∨ r.tag.getLsbD 3 = true) :
    s.repairCondition r = s := by
  refine if_neg fun ⟨hrun, htag⟩ => ?_
  rcases h with h | h
  · rw [h] at hrun
    cases hrun
  · rw [Round.tagHalted, h] at htag
    cases htag

theorem repairCondition_halts {s : State} {r : Round} (hrun : s.hlt.condition = .running)
    (htag : r.tag.getLsbD 3 = false) :
    s.repairCondition r = (s.haltBegun causeRoll 0#32 0#16).haltAbort :=
  if_pos ⟨hrun, by rw [Round.tagHalted, htag]; rfl⟩

theorem takeRoll_hlt_kept {s : State} {r : Round} (h : s.hlt.condition = .halted ∨ r.tag.getLsbD 3 = true) :
    (s.takeRoll r).hlt = s.hlt := by
  have hhlt : (s.rollTaken r).hlt = s.hlt := (frame_rollTaken s r).hlt_eq rfl
  rw [(takeRoll_probed s r).hlt_eq rfl, repairCondition_kept (by rwa [hhlt]), hhlt]

theorem probeSlot_keeps_state (i j : SlotNo) (s : State) : ((State.probeSlot i s).slot j).state = (s.slot j).state := by
  unfold State.probeSlot
  dsimp only
  split
  · split
    · rfl
    · rw [slot_place]
      by_cases hj : j = i
      · rw [hj, slot_setSlot_same]
      · rw [slot_setSlot_ne _ _ _ _ hj]
  · rfl

theorem takeRoll_states (s : State) (r : Round) (j : SlotNo) :
    ((s.takeRoll r).slot j).state = (((s.rollTaken r).repairCondition r).slot j).state := by
  rw [takeRoll_eq]
  split
  · rfl
  · exact forSlots_keeps (fun t => (t.slot j).state = (((s.rollTaken r).repairCondition r).slot j).state) _
      (fun i t ht => (probeSlot_keeps_state i j t).trans ht) _ rfl

/-- The condition repair halts the station, and no arrival is left (R137). -/
theorem takeRoll_halts {s : State} {r : Round} (hrun : s.hlt.condition = .running) (htag : r.tag.getLsbD 3 = false) :
    (s.takeRoll r).hlt = { s.hlt with condition := .halted, request := none }
      ∧ ∀ i, ((s.takeRoll r).slot i).state ≠ .waiting := by
  have hhlt : (s.rollTaken r).hlt = s.hlt := (frame_rollTaken s r).hlt_eq rfl
  have hrepair := repairCondition_halts (s := s.rollTaken r) ((congrArg Hlt.condition hhlt).trans hrun) htag
  have hafter := (takeRoll_probed s r).hlt_eq rfl
  have hstates := takeRoll_states s r
  rw [hrepair] at hafter hstates
  have hbegun := haltBegun_hlt (s.rollTaken r) causeRoll 0#32 0#16
  generalize (s.rollTaken r).haltBegun causeRoll 0#32 0#16 = b at *
  refine ⟨?_, fun i => ?_⟩
  · rw [hafter, (frame_haltAbort b).hlt_eq rfl, hbegun, hhlt]
  · rw [hstates, haltAbort_slot]
    exact haltAborted_not_waiting _

/-! ### The roll timer and the ROLL entry -/

/-- An ONLINE station as it has restarted its roll timer and lost its ROLL entry (R58). -/
def State.rollRestarted (s : State) : State := (s.setMbr { s.mbr with rollTimer := 0 }).remove .roll 0

/-- A LEAVING station as it has restarted its roll timer, its ROLL entry with void count 0 (R58). -/
def State.rollKept (s : State) : State := (s.setMbr { s.mbr with rollTimer := 0 }).zeroVoids .roll 0

theorem frame_rollRestarted (s : State) : Frame [.mbr, .rnd] s s.rollRestarted :=
  (frame_setMbr s _).then (frame_remove _ _ _) (by simp) (by simp)

theorem frame_rollKept (s : State) : Frame [.mbr, .rnd] s s.rollKept :=
  (frame_setMbr s _).then (frame_zeroVoids _ _ _) (by simp) (by simp)

theorem rollRestarted_entry (s : State) : hasEntry s.rollRestarted.rnd.requests .roll 0 = false := by
  rw [State.rollRestarted, remove_requests]
  exact hasEntry_removeEntry_same _ _ _

theorem rollKept_entry (s : State) : hasEntry s.rollKept.rnd.requests .roll 0 = hasEntry s.rnd.requests .roll 0 := by
  rw [State.rollKept, zeroVoids_requests, setMbr_rnd]
  exact hasEntry_setVoids _ _ _ _ _ _

theorem rollEffects_online {s : State} (h : s.mbr.membership = .online) (r : Round) (n : Fin 32) :
    rollEffects r n s = s.rollRestarted.takeRoll r := by
  unfold rollEffects
  rw [h]
  rfl

theorem rollEffects_leaving {s : State} (h : s.mbr.membership = .leaving) (r : Round) (n : Fin 32) :
    rollEffects r n s = if r.leavingAtSeta then s.leaveBus causeRoll else s.rollKept.takeRoll r := by
  unfold rollEffects
  rw [h]
  rfl

theorem leaveBus_closing {s v : State} {dis : Level} (h : v.lif = (s.endRound dis).lif) (cause : Byte) :
    (v.leaveBus cause).settle.lif.link = .detached ∧ (v.leaveBus cause).settle.lif.stbDrive = .released
      ∧ (v.leaveBus cause).settle.lif.datDrive = .released := by
  rw [settle_lif, leaveBus_lif]
  exact detach_closing (by rw [h]; rfl)

theorem rollEffects_joining {s : State} (h : s.mbr.membership = .joining) (r : Round) (n : Fin 32) :
    rollEffects r n s = s := by
  unfold rollEffects
  rw [h]

/-- What a member's station is after it has taken a ROLL round; `u` is the station with the roll timer restarted. -/
structure RollTaken (s u t : State) (r : Round) : Prop where
  closing : Closing t
  mbr : t.mbr = { s.mbr with roster := r.setA, rollTimer := 0 }
  flg : t.flg = { s.flg with word := r.wordB, sync := .synced }
  kept : s.hlt.condition = .halted ∨ r.tag.getLsbD 3 = true → t.hlt = s.hlt
  halts : s.hlt.condition = .running → r.tag.getLsbD 3 = false →
    t.hlt = { s.hlt with condition := .halted, request := none } ∧ ∀ i, (t.slot i).state ≠ .waiting
  entry : hasEntry t.rnd.requests .roll 0 = hasEntry u.rnd.requests .roll 0

theorem RollTaken.of_takeRoll {s u : State} {r : Round} (hm : Member u) (hframe : Frame [.mbr, .rnd] (s.endRound .high) u)
    (hmbr : u.mbr = { s.mbr with rollTimer := 0 }) (hround : u.rnd.round = none) :
    RollTaken s u (u.takeRoll r).settle r := by
  have htake := frame_takeRoll u r
  have hlist := listed_takeRoll hm r
  have hhlt : u.hlt = s.hlt := hframe.hlt_eq rfl
  exact
    { closing := .of_lif (s := s) (dis := .high) (by rw [settle_lif, htake.lif_eq rfl, hframe.lif_eq rfl])
        (by rw [settle_rnd, hlist.round, hround])
      mbr := by rw [settle_mbr, takeRoll_mbr, hmbr]
      flg := by rw [settle_flg, takeRoll_flg, hframe.flg_eq rfl, endRound_flg]
      kept := fun h => by rw [settle_hlt, takeRoll_hlt_kept (by rwa [hhlt]), hhlt]
      halts := fun hrun htag => by
        obtain ⟨hh, hw⟩ := takeRoll_halts (s := u) (by rwa [hhlt]) htag
        rw [settle_hlt, hh, hhlt]
        exact ⟨rfl, fun i => by rw [slot_settle]; exact hw i⟩
      entry := by rw [settle_rnd, hasEntry_isSome, hasEntry_isSome, hlist.others _ _ (by simp)] }

/-! ### Probes -/

/-- A slot whose last-seen set covers the roster is to hold an ARRIVE entry (R108). -/
def ProbeDue (x : Slot) (roster : Set32) : Prop :=
  x.cfg.enabled = true ∧ x.cfg.participation = .roster ∧ x.state = .waiting ∧ roster ≠ 0#32 ∧ Covers x.lastSeen roster

theorem probeSlot_due {s : State} {i : SlotNo} (h : ProbeDue (s.slot i) s.mbr.roster) : State.probeSlot i s
    = if s.Holds .arrive i then s else (s.setSlot i { s.slot i with probe := true }).place .arrive i := if_pos h

theorem probeSlot_idle {s : State} {i : SlotNo} (h : ¬ProbeDue (s.slot i) s.mbr.roster) : State.probeSlot i s = s := if_neg h

theorem probeSlot_other (i j : SlotNo) (s : State) (hj : j ≠ i) : (State.probeSlot i s).slot j = s.slot j
    ∧ findEntry (State.probeSlot i s).rnd.requests .arrive j = findEntry s.rnd.requests .arrive j := by
  by_cases h : ProbeDue (s.slot i) s.mbr.roster
  · rw [probeSlot_due h]
    split
    · exact ⟨rfl, rfl⟩
    · rw [slot_place, slot_setSlot_ne _ _ _ _ hj, place_requests]
      exact ⟨rfl, findEntry_placeEntry_ne _ _ _ _ _ fun he => hj (Prod.mk.inj he).2⟩
  · rw [probeSlot_idle h]
    exact ⟨rfl, rfl⟩

/-- What the check of slot `i` leaves of it, by what it was in `s` (R108). -/
def Probed (s : State) (roster : Set32) (i : SlotNo) (t : State) : Prop :=
  (ProbeDue (s.slot i) roster → hasEntry t.rnd.requests .arrive i = true
      ∧ (hasEntry s.rnd.requests .arrive i = false → (t.slot i).probe = true))
    ∧ (¬ProbeDue (s.slot i) roster → t.slot i = s.slot i
      ∧ hasEntry t.rnd.requests .arrive i = hasEntry s.rnd.requests .arrive i)

theorem probeSlot_probed {s t : State} {i : SlotNo} (hslot : t.slot i = s.slot i)
    (hentry : findEntry t.rnd.requests .arrive i = findEntry s.rnd.requests .arrive i) :
    Probed s t.mbr.roster i (State.probeSlot i t) := by
  have hhas : hasEntry t.rnd.requests .arrive i = hasEntry s.rnd.requests .arrive i := by
    rw [hasEntry_isSome, hasEntry_isSome, hentry]
  rw [Probed, ← hslot, ← hhas]
  refine ⟨fun h => ?_, fun h => by rw [probeSlot_idle h]; exact ⟨rfl, rfl⟩⟩
  rw [probeSlot_due h]
  split
  · rename_i hheld
    have hheld : hasEntry t.rnd.requests .arrive i = true := hheld
    exact ⟨hheld, fun hno => absurd hheld (by rw [hno]; simp)⟩
  · rw [slot_place, slot_setSlot_same, place_requests]
    exact ⟨hasEntry_placeEntry_same _ _ _, fun _ => rfl⟩

theorem forSlots_probed (s : State) (i : SlotNo) : Probed s s.mbr.roster i (forSlots State.probeSlot s) := by
  have h := forSlots_each State.probeSlot (fun t => t.mbr = s.mbr)
    (fun j t => t.slot j = s.slot j ∧ findEntry t.rnd.requests .arrive j = findEntry s.rnd.requests .arrive j)
    (fun j t => Probed s s.mbr.roster j t)
    (fun j t ht => ((frame_probeSlot j t).mbr_eq rfl).trans ht)
    (fun j t ht hj => by
      have hp := probeSlot_probed hj.1 hj.2
      rwa [ht] at hp)
    (fun j k t hne _ hj => by
      obtain ⟨hs, he⟩ := probeSlot_other k j t hne.symm
      exact ⟨hs.trans hj.1, he.trans hj.2⟩)
    (fun j k t hne _ hj => by
      obtain ⟨hs, he⟩ := probeSlot_other k j t hne.symm
      rw [Probed, hasEntry_isSome (State.probeSlot k t).rnd.requests, hs, he, ← hasEntry_isSome]
      exact hj)
    s rfl (fun _ => ⟨rfl, rfl⟩)
  exact h.2 i

/-- A set covers another if nothing of it lies outside. -/
theorem covers_iff (b a : Set32) : Covers b a ↔ a &&& ~~~b = 0#32 := by
  constructor
  · intro h
    have h' : a &&& b = a := h
    rw [← h', BitVec.and_assoc, BitVec.and_not_self]
    exact BitVec.and_zero
  · intro h
    refine BitVec.eq_of_getLsbD_eq fun j hj => ?_
    have hbit := congrArg (BitVec.getLsbD · j) h
    simp only [BitVec.getLsbD_and, BitVec.getLsbD_not, hj, decide_true, Bool.true_and, BitVec.getLsbD_zero] at hbit
    rw [BitVec.getLsbD_and]
    cases ha : a.getLsbD j <;> simp_all

/-! ### The statement -/

/-- Settles O51: the joiner, the station that leaves, the member that takes the round; then the probes. -/
theorem rollRoundRefreshesTheRoster : Obligations.RollRoundRefreshesTheRoster := by
  refine ⟨fun s r n h => ?round, fun s t r n i h hon het hchanged hset hcond hen hpart hwait => ?probes⟩
  case round =>
    have he : exec .rollRound s = _ := h.next rollEffects
    have hend := frame_endRound_lines s .high
    have hdisarms : OnlyDisarms s (rollEffects r n (s.endRound .high)).settle :=
      (OnlyDisarms.of_pin (hend.pin_eq rfl)).trans (mild_rollEffects r n _).disarms.settle
    have hall : Frame [.lif, .rnd, .mbr, .slots, .flg, .hlt, .pin, .log, .ntf] s (rollEffects r n (s.endRound .high)) :=
      hend.then (frame_rollEffects r n _) (by simp) (by simp)
    refine ⟨_, he, fun hj => ?_, fun hl hset => ?_, fun hm => ?_, hdisarms, hall.only (by rfl)⟩
    · rw [rollEffects_joining (s := s.endRound .high) hj]
      exact ⟨.of_lif (s := s) (dis := .high) (by rw [settle_lif]) (by rw [settle_rnd]; rfl), by rw [settle_rnd]; rfl,
        hend.only (by rfl)⟩
    · rw [rollEffects_leaving (s := s.endRound .high) hl, if_pos hset]
      obtain ⟨hlink, hstb, hdat⟩ := leaveBus_closing (s := s) (v := s.endRound .high) (dis := .high) rfl causeRoll
      refine ⟨by rw [settle_mbr, leaveBus_mbr]; rfl, by rw [settle_rnd, leaveBus_rnd], hlink, hstb, hdat, ?_, ?_, ?_⟩
      · rw [settle_flg, State.leaveBus, goOffline_flg]
      · rw [settle_flg, State.leaveBus, goOffline_flg]
      · rw [settle_hlt, State.leaveBus, goOffline_hlt]
    · have htaken : ∀ u : State, rollEffects r n (s.endRound .high) = u.takeRoll r →
          Frame [.mbr, .rnd] (s.endRound .high) u → u.mbr = { s.mbr with rollTimer := 0 } → u.rnd.round = none →
          RollTaken s u (rollEffects r n (s.endRound .high)).settle r := fun u hu hframe hmbr hround => by
        rw [hu]
        refine .of_takeRoll ?_ hframe hmbr hround
        rw [Member, hmbr]
        exact hm.imp id And.left
      rcases hm with hon | ⟨hl, hset⟩
      · obtain ⟨hc, hmbr, hflg, hkept, hhalts, hentry⟩ := htaken _ (rollEffects_online (s := s.endRound .high) hon r n) (frame_rollRestarted _) rfl rfl
        refine ⟨hc, hmbr, hflg, hkept, hhalts, fun _ => hentry.trans (rollRestarted_entry _), fun hl => ?_⟩
        rw [hon] at hl
        cases hl
      · have hu : rollEffects r n (s.endRound .high) = (s.endRound .high).rollKept.takeRoll r := by
          rw [rollEffects_leaving (s := s.endRound .high) hl, if_neg (by rw [hset]; simp)]
        obtain ⟨hc, hmbr, hflg, hkept, hhalts, hentry⟩ := htaken _ hu (frame_rollKept _) rfl rfl
        refine ⟨hc, hmbr, hflg, hkept, hhalts, fun hon => ?_, fun _ => hentry.trans (rollKept_entry _)⟩
        rw [hon] at hl
        cases hl
  case probes =>
    have he : exec .rollRound s = _ := h.next rollEffects
    obtain rfl : _ = t := Host.Outcome.next.inj (he.symm.trans het)
    let u := (s.endRound .high).rollRestarted
    let b := u.rollTaken r
    have hu : Frame [.lif, .mbr, .rnd] s u :=
      (frame_endRound_lines s .high).then (frame_rollRestarted _) (by simp) (by simp)
    have hb : Frame [.mbr, .flg, .log, .ntf] u b := frame_rollTaken u r
    have hrepair : b.repairCondition r = b := repairCondition_kept (by rwa [hb.hlt_eq rfl, hu.hlt_eq rfl])
    have hv : rollEffects r n (s.endRound .high) = forSlots State.probeSlot b := by
      rw [rollEffects_online (s := s.endRound .high) hon, takeRoll_eq, if_neg (show r.setA ≠ u.mbr.roster from hchanged)]
      exact congrArg _ hrepair
    have hslot : b.slot i = s.slot i := by rw [slot_eq_of_slots (hb.slots_eq rfl), slot_eq_of_slots (hu.slots_eq rfl)]
    have hroster : b.mbr.roster = r.setA := by rw [rollTaken_mbr]
    have hentry : hasEntry b.rnd.requests .arrive i = hasEntry s.rnd.requests .arrive i := by
      rw [hb.rnd_eq rfl, hasEntry_isSome, hasEntry_isSome]
      exact congrArg Option.isSome (findEntry_removeEntry_ne _ _ _ _ _ (by simp))
    have hprobed := forSlots_probed b i
    rw [Probed, hslot, hroster, hentry] at hprobed
    rw [hv, slot_settle, settle_rnd]
    refine ⟨fun hc => hprobed.1 ⟨hen, hpart, hwait, hset, (covers_iff _ _).mpr hc⟩, fun hc => ?_⟩
    exact (hprobed.2 fun ⟨_, _, _, _, hcov⟩ => hc ((covers_iff _ _).mp hcov)).symm

end Sys2Proof.Machine
end

section
/-! A void round (R41, R42, R43): its record, the void counted within the retry limit, the commitment resolved (R78, R104). -/

namespace Sys2Proof.Machine

/-! ### The identity of a round -/

theorem classOf_code {k : Nat} {c : Class} (h : classOf k = some c) : k = c.code := by
  unfold classOf at h
  split at h <;> simp only [Option.some.injEq, reduceCtorEq] at h <;> subst h <;> rfl

/-- The class and the selector that a round's identity spells (R27). -/
theorem named_identity {r : Round} {c : Class} {n : Fin 32} (h : r.named = some (c, n)) :
    Fin.ofNat 32 r.identity = n ∧ r.identity / 32 = c.code := by
  unfold Round.named namedRound at h
  split at h
  · split at h
    · rename_i c' hc
      split at h
      · cases h
      · obtain ⟨rfl, rfl⟩ := Prod.mk.inj (Option.some.inj h)
        exact ⟨rfl, classOf_code hc⟩
    · cases h
  · cases h

/-! ### The row -/

theorem AtRoundEnd.void {dis : Level} {s : State} {r : Round} (h : AtRoundEnd s r) (hd : dis = .low ∨ r.dissent.any = true) :
    exec (.voidRound dis) s = .next (voidEffects r (s.endRound dis)).settle := by
  have he : exec (.voidRound dis) s = done (voidEffects r (s.endRound dis)) := by
    show execVoidRound dis s = _
    unfold execVoidRound
    rw [h.ending]
    exact if_pos hd
  exact he.trans (done_eq _)

theorem voidEffects_unnamed {r : Round} (h : r.named = none) (s : State) : voidEffects r s = s.voidRecord r := by
  unfold voidEffects
  rw [h]

theorem voidEffects_named {r : Round} {c : Class} {n : Fin 32} (h : r.named = some (c, n)) (s : State) :
    voidEffects r s = ((s.voidRecord r).countVoid c n).resolveLatches r := by
  unfold voidEffects
  rw [h]

theorem resolveLatches_arrive {r : Round} {n : Fin 32} (h : r.named = some (.arrive, n)) (s : State) :
    s.resolveLatches r = s.resolveUncompleted n := by
  unfold State.resolveLatches
  rw [h]

theorem voidRecord_reporting (s : State) (dis : Level) {r : Round} {c : Class} {n : Fin 32} (h : r.named = some (c, n)) :
    Reporting ((s.offer .void n r.dissent.tag r.setA (BitVec.ofNat 16 c.code)).raise .bus)
      ((s.endRound dis).voidRecord r) := by
  obtain ⟨hsel, hcode⟩ := named_identity h
  unfold State.voidRecord
  rw [hsel, hcode]
  exact ((endRound_reporting s dis).offer _ _ _ _ _).raise _

/-- The station with the round ended and its VOID record offered. -/
theorem frame_voidBegun (s : State) (dis : Level) (r : Round) :
    Frame [.lif, .rnd, .log, .ntf] s ((s.endRound dis).voidRecord r) :=
  (frame_endRound_lines s dis).then (frame_voidRecord _ r) (by simp) (by simp)

theorem voidBegun_lif (s : State) (dis : Level) (r : Round) :
    ((s.endRound dis).voidRecord r).lif = (s.endRound dis).lif := (frame_voidRecord _ r).lif_eq rfl

theorem voidBegun_rnd (s : State) (dis : Level) (r : Round) :
    ((s.endRound dis).voidRecord r).rnd = { s.rnd with round := none } := (frame_voidRecord _ r).rnd_eq rfl

/-! ### The void counted -/

theorem countVoid_none {s : State} {c : Class} {n : Fin 32} (h : findEntry s.rnd.requests c n = none) :
    s.countVoid c n = s := by
  unfold State.countVoid
  rw [h]

theorem countVoid_within {s : State} {c : Class} {n : Fin 32} {e : Entry} (h : findEntry s.rnd.requests c n = some e)
    (hv : e.voids < s.retryLimit c n) :
    s.countVoid c n = s.setRnd { s.rnd with requests := setVoids s.rnd.requests c n (e.voids + 1) } := by
  unfold State.countVoid
  rw [h]
  exact if_neg (by omega)

theorem countVoid_past {s : State} {c : Class} {n : Fin 32} {e : Entry} (h : findEntry s.rnd.requests c n = some e)
    (hv : s.retryLimit c n ≤ e.voids) : s.countVoid c n = s.dropEntry c n (s.retryLimit c n) := by
  unfold State.countVoid
  rw [h]
  exact if_pos (by omega)

/-- A void is counted on the entry that the list holds, which stays (R41). -/
structure VoidCounted (c : Class) (n : Fin 32) (s t : State) : Prop where
  frame : Frame [.rnd] s t
  round : t.rnd.round = s.rnd.round
  entry : findEntry t.rnd.requests c n
    = (findEntry s.rnd.requests c n).map fun e => { e with voids := e.voids + 1 }
  others : ∀ c' n', (c', n') ≠ (c, n) → findEntry t.rnd.requests c' n' = findEntry s.rnd.requests c' n'

theorem voidCounted_countVoid {s : State} {c : Class} {n : Fin 32}
    (h : ∀ e, findEntry s.rnd.requests c n = some e → e.voids < s.retryLimit c n) : VoidCounted c n s (s.countVoid c n) := by
  cases he : findEntry s.rnd.requests c n with
  | none =>
    rw [countVoid_none he]
    exact ⟨.refl _ s, rfl, by rw [he]; rfl, fun _ _ _ => rfl⟩
  | some e =>
    rw [countVoid_within he (h e he)]
    exact ⟨frame_setRnd s _, rfl, by rw [setRnd_rnd, findEntry_setVoids_same, he]; rfl,
      fun _ _ hne => findEntry_setVoids_ne _ _ _ _ _ _ hne⟩

/-! ### The statement -/

/-- The void of a round whose entry, if the list holds one, is within its retry limit: up to the commitment. -/
structure VoidWithin (dis : Level) (s : State) (r : Round) (c : Class) (n : Fin 32) (t : State) : Prop where
  frame : Frame [.lif, .rnd, .log, .ntf] s t
  lif : t.lif = (s.endRound dis).lif
  round : t.rnd.round = none
  entry : findEntry t.rnd.requests c n
    = (findEntry s.rnd.requests c n).map fun e => { e with voids := e.voids + 1 }
  others : ∀ c' n', (c', n') ≠ (c, n) → findEntry t.rnd.requests c' n' = findEntry s.rnd.requests c' n'
  reporting : Reporting ((s.offer .void n r.dissent.tag r.setA (BitVec.ofNat 16 c.code)).raise .bus) t

theorem voidWithin_countVoid (dis : Level) {s : State} {r : Round} {c : Class} {n : Fin 32} (hn : r.named = some (c, n))
    (h : ∀ e, findEntry s.rnd.requests c n = some e → e.voids < s.retryLimit c n) :
    VoidWithin dis s r c n (((s.endRound dis).voidRecord r).countVoid c n) := by
  have hbegun := frame_voidBegun s dis r
  have hlif := voidBegun_lif s dis r
  have hrnd := voidBegun_rnd s dis r
  have hrep := voidRecord_reporting s dis hn
  have hlimit : ((s.endRound dis).voidRecord r).retryLimit c n = s.retryLimit c n :=
    ((mild_endRound s dis).trans (mild_voidRecord _ r)).toSteady.retryLimit c n
  generalize (s.endRound dis).voidRecord r = v at *
  obtain ⟨hframe, hround, hentry, hothers⟩ := voidCounted_countVoid (s := v) (c := c) (n := n)
    (by rw [hrnd, hlimit]; exact h)
  exact
    { frame := hbegun.then hframe (by simp) (by simp)
      lif := (hframe.lif_eq rfl).trans hlif
      round := by rw [hround, hrnd]
      entry := by rw [hentry, hrnd]
      others := fun c' n' hne => by rw [hothers c' n' hne, hrnd]
      reporting := hrep.trans (.of_frame hframe ⟨rfl, rfl, rfl, rfl⟩) }

/-- What a void leaves where no commitment is resolved. -/
theorem VoidWithin.settled {dis : Level} {s : State} {r : Round} {c : Class} {n : Fin 32} {t : State}
    (h : VoidWithin dis s r c n t) : Closing t.settle
      ∧ Reports s t.settle .void n r.dissent.tag r.setA (BitVec.ofNat 16 c.code) .bus ∧ Only [.lif, .rnd, .log, .ntf] s t.settle :=
  ⟨.of_lif ((settle_lif t).trans h.lif) (by rw [settle_rnd, h.round]), (h.reporting.trans (.settle t)).reports,
    h.frame.only (by rfl)⟩

/-- Settles O52: the round without a name, the uncommitted one, and the committed arrival's. -/
theorem voidRoundCountsAVoid : Obligations.VoidRoundCountsAVoid := by
  intro dis s r h hd
  have he := h.void hd
  refine ⟨_, he, fun hn => ?unnamed, fun c n hn hfree => ?uncommitted, fun n hn hwait hcom hlim => ?committed⟩
  case unnamed =>
    rw [voidEffects_unnamed hn, settle_rnd, voidBegun_rnd]
    have hrep : Reporting ((s.offer .void (Fin.ofNat 32 r.identity) r.dissent.tag r.setA
        (BitVec.ofNat 16 (r.identity / 32))).raise .bus) ((s.endRound dis).voidRecord r) :=
      ((endRound_reporting s dis).offer _ _ _ _ _).raise _
    exact ⟨.of_lif (by rw [settle_lif, voidBegun_lif]) (by rw [settle_rnd, voidBegun_rnd]), rfl,
      (hrep.trans (.settle _)).reports, (frame_voidBegun s dis r).only (by rfl)⟩
  case uncommitted =>
    have hcommit : ∀ m, r.named = some (.arrive, m) → (s.slot m).committed = false := fun m hm => by
      obtain ⟨rfl, rfl⟩ := Prod.mk.inj (Option.some.inj (hn.symm.trans hm))
      exact hfree.resolve_left fun hc => hc rfl
    have hv : (∀ e, findEntry s.rnd.requests c n = some e → e.voids < s.retryLimit c n) →
        VoidWithin dis s r c n (voidEffects r (s.endRound dis)) := fun hlim => by
      have hwithin := voidWithin_countVoid dis hn hlim
      have hslots := hwithin.frame.slots_eq rfl
      rw [voidEffects_named hn]
      generalize ((s.endRound dis).voidRecord r).countVoid c n = v at *
      rwa [resolveLatches_uncommitted fun m hm => ?_]
      rw [slot_eq_of_slots hslots]
      exact hcommit m hm
    refine ⟨fun hnone => ?_, fun e hsome hlim => ?_⟩
    · have hwithin := hv fun e he => by rw [hnone] at he; cases he
      obtain ⟨hclosing, hreports, honly⟩ := hwithin.settled
      refine ⟨hclosing, ?_, hreports, honly⟩
      rw [settle_rnd, voidEffects_named hn, countVoid_none (by rw [voidBegun_rnd]; exact hnone),
        resolveLatches_uncommitted fun m hm => ?_, voidBegun_rnd]
      rw [slot_eq_of_slots ((frame_voidBegun s dis r).slots_eq rfl)]
      exact hcommit m hm
    · have hwithin := hv fun e' he' => by
        obtain rfl := Option.some.inj (hsome.symm.trans he')
        exact hlim
      obtain ⟨hclosing, hreports, honly⟩ := hwithin.settled
      refine ⟨hclosing, ?_, fun c' n' hne => ?_, hreports, honly⟩
      · rw [settle_rnd, hwithin.entry, hsome]
        rfl
      · rw [settle_rnd, hwithin.others c' n' hne]
  case committed =>
    have hwithin := voidWithin_countVoid dis hn hlim
    rw [voidEffects_named hn, resolveLatches_arrive hn]
    generalize ((s.endRound dis).voidRecord r).countVoid .arrive n = v at *
    have hslots : ∀ j, v.slot j = s.slot j := slot_eq_of_slots (hwithin.frame.slots_eq rfl)
    have hw : (v.slot n).state = .waiting ∧ (v.slot n).committed = true := by rw [hslots]; exact ⟨hwait, hcom⟩
    refine ⟨fun hwp htp => ?_, fun hpend => ?_⟩
    · have hset : v.resolveUncompleted n = v.setSlot n { s.slot n with committed := false } := by
        rw [← hslots n] at hwp htp ⊢
        exact resolveUncompleted_kept hw hwp htp
      have hframe : Frame [.lif, .rnd, .slots, .log, .ntf] s (v.setSlot n { s.slot n with committed := false }) :=
        hwithin.frame.then (frame_setSlot v n _) (by simp) (by simp)
      rw [hset]
      refine ⟨.of_lif ((settle_lif _).trans hwithin.lif) (by rw [settle_rnd]; exact hwithin.round), ?_, fun j hj => ?_, ?_,
        fun c' n' hne => ?_, ?_, hframe.only (by rfl)⟩
      · rw [slot_settle, slot_setSlot_same]
      · rw [slot_settle, slot_setSlot_ne _ _ _ _ hj, hslots]
      · rw [settle_rnd]
        exact hwithin.entry
      · rw [settle_rnd]
        exact hwithin.others c' n' hne
      · exact ((hwithin.reporting.trans (.of_frame (frame_setSlot v n _) ⟨rfl, rfl, rfl, rfl⟩)).trans (.settle _)).reports
    · have hgoing : ArrivalGoing n s v :=
        { frame := hwithin.frame.mono (by simp)
          others := fun j _ => hslots j
          arrival := by rw [hslots]
          cfg := by rw [hslots]
          entries := hwithin.others }
      have hp : (v.slot n).withdrawPending = true ∨ (v.slot n).timeoutPending = true := by rwa [hslots]
      obtain ⟨hafter, hrep, hgone⟩ := resolved_gone hgoing hw hp
      rw [hslots] at hafter hrep hgone
      refine ⟨.of_lif (s := s) (dis := dis) ?_ ?_, ?_, ?_, hgone⟩
      · rw [settle_lif, (frame_resolveUncompleted v n).lif_eq rfl, hwithin.lif]
      · rw [settle_rnd, (listed_resolveUncompleted v n).round, hwithin.round]
      · rw [slot_settle, hafter]
      · refine Reporting.reportsSlot (Reporting.trans (.offerSlot hwithin.reporting ?_ _ _ _ _) (hrep.trans (.settle _)))
        rw [hslots, slot_raise, slot_offer]

end Sys2Proof.Machine
end

section
/-! A void past the retry limit (R43): the entry is dropped and its owner acts (R55, R59, R105, R117, R131, R135). -/

namespace Sys2Proof.Machine

/-! ### A slot in FAULT -/

theorem faultSlot_slot (s : State) (i : SlotNo) :
    (s.faultSlot i).slot i = { (s.slot i).dropArrival with state := .fault } := by
  simp [State.faultSlot]

theorem faultSlot_other (s : State) {i j : SlotNo} (hj : j ≠ i) : (s.faultSlot i).slot j = s.slot j := by
  simp [State.faultSlot, slot_setSlot_ne _ _ _ _ hj]

theorem faultSlot_rnd (s : State) (i : SlotNo) :
    (s.faultSlot i).rnd = { s.rnd with requests := removeEntry s.rnd.requests .arrive i } := by
  simp [State.faultSlot]

/-! ### The entry dropped -/

theorem droppedRecord_rnd (s : State) (c : Class) (n : Fin 32) (limit : Nat) :
    (s.droppedRecord c n limit).rnd = { s.rnd with requests := removeEntry s.rnd.requests c n } := by
  simp [State.droppedRecord]

theorem dropEntry_roll (s : State) (n : Fin 32) (limit : Nat) : s.dropEntry .roll n limit
    = if s.mbr.membership = .leaving then (s.droppedRecord .roll n limit).leaveBus causeDropped
      else s.droppedRecord .roll n limit := rfl

theorem dropEntry_entry (s : State) (c : Class) (n : Fin 32) (limit : Nat) :
    hasEntry (s.dropEntry c n limit).rnd.requests c n = false := by
  have hrecord : ∀ c, hasEntry (s.droppedRecord c n limit).rnd.requests c n = false := fun c => by
    rw [droppedRecord_rnd]
    exact hasEntry_removeEntry_same _ _ _
  cases c with
  | arrive =>
    rw [show s.dropEntry .arrive n limit = s.faultSlot n from rfl, faultSlot_rnd]
    exact hasEntry_removeEntry_same _ _ _
  | join =>
    rw [show s.dropEntry .join n limit = s.refuseJoin reasonRetries 0#32 from rfl, refuseJoin_rnd]
    rfl
  | halt => exact hrecord .halt
  | resume => exact hrecord .resume
  | flags => exact hrecord .flags
  | roll =>
    rw [dropEntry_roll]
    split
    · rw [leaveBus_rnd]
      rfl
    · exact hrecord .roll

theorem dropEntry_halt (s : State) (n : Fin 32) (limit : Nat) : Frame [.hlt, .rnd, .log, .ntf] s (s.dropEntry .halt n limit)
    ∧ (s.dropEntry .halt n limit).hlt = { s.hlt with request := none, commandHold := false, heldCause := none } := by
  have hrecord := frame_droppedRecord s .halt n limit
  refine ⟨hrecord.then (frame_setHlt _ _) (by simp) (by simp), ?_⟩
  unfold State.dropEntry
  dsimp only
  rw [setHlt_hlt, hrecord.hlt_eq rfl]

theorem dropEntry_resume (s : State) (n : Fin 32) (limit : Nat) :
    Frame [.hlt, .rnd, .log, .ntf] s (s.dropEntry .resume n limit)
      ∧ (s.dropEntry .resume n limit).hlt = { s.hlt with resumePending := false } := by
  have hrecord := frame_droppedRecord s .resume n limit
  refine ⟨hrecord.then (frame_setHlt _ _) (by simp) (by simp), ?_⟩
  unfold State.dropEntry
  dsimp only
  rw [setHlt_hlt, hrecord.hlt_eq rfl]

theorem dropEntry_flags (s : State) (n : Fin 32) (limit : Nat) :
    Frame [.flg, .rnd, .log, .ntf] s (s.dropEntry .flags n limit)
      ∧ (s.dropEntry .flags n limit).flg = { s.flg with setReq := 0#32, clearReq := 0#32 } := by
  have hrecord := frame_droppedRecord s .flags n limit
  refine ⟨hrecord.then (frame_setFlg _ _) (by simp) (by simp), ?_⟩
  unfold State.dropEntry
  dsimp only
  rw [setFlg_flg, hrecord.flg_eq rfl]

theorem dropEntry_roll_membership (s : State) (n : Fin 32) (limit : Nat) : (s.dropEntry .roll n limit).mbr.membership
    = if s.mbr.membership = .leaving then .offline else s.mbr.membership := by
  rw [dropEntry_roll]
  split
  · rw [leaveBus_mbr]
  · rw [(frame_droppedRecord s .roll n limit).mbr_eq rfl]

/-- What a void past the retry limit does beyond the VOID record: nothing is left to be resolved. -/
theorem voidEffects_past {s : State} {dis : Level} {r : Round} {c : Class} {n : Fin 32} {e : Entry}
    (hn : r.named = some (c, n)) (he : findEntry s.rnd.requests c n = some e) (hlim : s.retryLimit c n ≤ e.voids) :
    voidEffects r (s.endRound dis) = ((s.endRound dis).voidRecord r).dropEntry c n (s.retryLimit c n) := by
  have hlimit : ((s.endRound dis).voidRecord r).retryLimit c n = s.retryLimit c n :=
    ((mild_endRound s dis).trans (mild_voidRecord _ r)).toSteady.retryLimit c n
  rw [voidEffects_named hn, countVoid_past (e := e) (by rw [voidBegun_rnd]; exact he) (by rwa [hlimit]), hlimit]
  by_cases hc : c = .arrive
  · subst hc
    rw [resolveLatches_arrive hn]
    refine resolveUncompleted_idle fun hw => ?_
    rw [show State.dropEntry _ .arrive n _ = State.faultSlot _ n from rfl, faultSlot_slot] at hw
    exact absurd hw.1 (by simp)
  · exact resolveLatches_uncommitted fun m hm =>
      absurd (Prod.mk.inj (Option.some.inj (hn.symm.trans hm))).1 hc

/-! ### The statement -/

/-- Settles O53: what the owner of the dropped entry does, class by class. -/
theorem voidPastTheRetryLimitDropsTheEntry : Obligations.VoidPastTheRetryLimitDropsTheEntry := by
  intro dis s t r c n e h hd hn hentry hlim het
  obtain rfl : _ = t := Host.Outcome.next.inj ((h.void hd).symm.trans het)
  have hall : Frame [.lif, .rnd, .mbr, .slots, .flg, .hlt, .pin, .log, .ntf] s (voidEffects r (s.endRound dis)) :=
    (frame_endRound_lines s dis).then (frame_voidEffects r _) (by simp) (by simp)
  have hdisarms : OnlyDisarms s (voidEffects r (s.endRound dis)).settle :=
    ((mild_endRound s dis).trans (mild_voidEffects r _)).disarms.settle
  have hbegun := frame_voidBegun s dis r
  rw [voidEffects_past hn hentry hlim] at hall hdisarms ⊢
  generalize (s.endRound dis).voidRecord r = v at *
  refine ⟨by rw [settle_rnd]; exact dropEntry_entry v c n _, fun hc => ?arrive, fun hc => ?join, fun hc => ?halt,
    fun hc => ?resume, fun hc => ?flags, fun hc => ?roll, fun hc => ?held, fun hc => ?flagsOnly, fun hc => ?arriveOnly,
    hdisarms, hall.only (by rfl)⟩
  case arrive =>
    subst hc
    rw [show v.dropEntry .arrive n _ = v.faultSlot n from rfl]
    have hslots : ∀ j, v.slot j = s.slot j := slot_eq_of_slots (hbegun.slots_eq rfl)
    refine ⟨by rw [slot_settle, faultSlot_slot, hslots], fun j hj => ?_, ?_⟩
    · rw [slot_settle, faultSlot_other v hj, hslots]
    · rw [settle_hlt, (frame_faultSlot v n).hlt_eq rfl, hbegun.hlt_eq rfl]
  case join =>
    subst hc
    rw [show v.dropEntry .join n _ = v.refuseJoin reasonRetries 0#32 from rfl, settle_mbr, refuseJoin_mbr]
  case halt =>
    subst hc
    rw [settle_hlt, (dropEntry_halt v n _).2, hbegun.hlt_eq rfl]
  case resume =>
    subst hc
    rw [settle_hlt, (dropEntry_resume v n _).2, hbegun.hlt_eq rfl]
  case flags =>
    subst hc
    rw [settle_flg, (dropEntry_flags v n _).2, hbegun.flg_eq rfl]
  case roll =>
    subst hc
    rw [settle_mbr, dropEntry_roll_membership, hbegun.mbr_eq rfl]
  case held =>
    have hdrop : Frame [.hlt, .rnd, .log, .ntf] v (v.dropEntry c n (s.retryLimit c n)) := by
      rcases hc with rfl | rfl
      · exact (dropEntry_halt v n _).1
      · exact (dropEntry_resume v n _).1
    exact (hbegun.then (c := [.lif, .rnd, .hlt, .log, .ntf]) hdrop (by simp) (by simp)).only (by rfl)
  case flagsOnly =>
    subst hc
    exact (hbegun.then (c := [.lif, .rnd, .flg, .log, .ntf]) (dropEntry_flags v n _).1 (by simp) (by simp)).only (by rfl)
  case arriveOnly =>
    subst hc
    exact (hbegun.then (c := [.lif, .rnd, .slots, .pin, .log, .ntf]) (frame_faultSlot v n) (by simp) (by simp)).only (by rfl)

end Sys2Proof.Machine
end

section
/-! Stuck lines (R15, R63) and the recognised bus reset (R19, R64). -/

namespace Sys2Proof.Machine

/-! ### Lines that stand at tSTUCK -/

@[simp] theorem seeStb_low_stbExempt (x : Lif) : (x.seeStb .low).stbExempt = x.stbExempt := by
  unfold Lif.seeStb
  cases x.stb <;> rfl

@[simp] theorem seeDat_low_datExempt (x : Lif) : (x.seeDat .low).datExempt = x.datExempt := by
  unfold Lif.seeDat
  cases x.dat <;> rfl

theorem lowFor_exempt (s : State) (line : StuckLine) : (s.lowFor line).lif.stbExempt = s.lif.stbExempt
    ∧ (s.lowFor line).lif.datExempt = s.lif.datExempt := by
  cases line <;> simp [State.lowFor, namesLine]

theorem frame_lowFor (s : State) (line : StuckLine) : Frame [.lif] s (s.lowFor line) := frame_setLif s _

/-- The lines that an event names stand at tSTUCK in its state (R15). -/
theorem lowFor_stbStuck (s : State) {line : StuckLine} (h : line ≠ .dat) : (s.lowFor line).StbStuck := by
  have htime : (s.lowFor line).stuckTicks = s.stuckTicks := rfl
  rw [State.StbStuck, htime]
  cases line with
  | stb => simp [State.lowFor, namesLine]
  | dat => exact absurd rfl h
  | both => simp [State.lowFor, namesLine]

theorem lowFor_datStuck (s : State) {line : StuckLine} (h : line ≠ .stb) : (s.lowFor line).DatStuck := by
  have htime : (s.lowFor line).stuckTicks = s.stuckTicks := rfl
  rw [State.DatStuck, htime]
  cases line with
  | stb => exact absurd rfl h
  | dat => simp [State.lowFor, namesLine]
  | both => simp [State.lowFor, namesLine]

/-! ### The report -/

/-- The station in FAULT, its round abandoned, before the report to the membership controller. -/
def State.stuckAbandoned (s : State) : State := (s.setLif s.lif.faulted).abandon false

theorem stuckNow_eq (s : State) (stb dat : Bool) : s.stuckNow stb dat = s.stuckAbandoned.busFault stb dat := rfl

theorem stuckNow_round (s : State) (stb dat : Bool) : (s.stuckNow stb dat).rnd.round = none := by
  rw [stuckNow_eq, State.busFault]
  split
  · rw [goOffline_rnd]
  · rw [raise_rnd, offer_rnd]
    exact abandon_round _ _

theorem stuckNow_mbr (s : State) (stb dat : Bool) :
    (s.stuckNow stb dat).mbr.membership = .offline ∧ (s.stuckNow stb dat).mbr.number = s.mbr.number := by
  have hmbr : s.stuckAbandoned.mbr = s.mbr := by
    rw [State.stuckAbandoned, abandon_mbr]
    rfl
  rw [stuckNow_eq, State.busFault]
  split
  · rw [goOffline_mbr, raise_mbr, offer_mbr, hmbr]
    exact ⟨rfl, rfl⟩
  · rename_i hoff
    rw [State.OnBus, hmbr] at hoff
    rw [raise_mbr, offer_mbr, hmbr]
    exact ⟨by simpa using hoff, rfl⟩

/-- A station that takes part in the bus goes OFFLINE (R63). -/
theorem stuckNow_onBus {s : State} (h : s.mbr.membership ≠ .offline) (stb dat : Bool) :
    (s.stuckNow stb dat).rnd.requests = [] ∧ (s.stuckNow stb dat).mbr.roster = 0#32
      ∧ (s.stuckNow stb dat).flg.sync = .unsynced ∧ (s.stuckNow stb dat).hlt.condition = .running := by
  have hbus : s.stuckAbandoned.OnBus := by
    rw [State.OnBus, State.stuckAbandoned, abandon_mbr]
    exact h
  rw [stuckNow_eq, State.busFault]
  rw [if_pos hbus, goOffline_rnd, goOffline_mbr, goOffline_flg, goOffline_hlt]
  exact ⟨rfl, rfl, rfl, rfl⟩

/-- Settles O43: the line found stuck, and the one exempt. -/
theorem stuckLineLeadsToFault : Obligations.StuckLineLeadsToFault := by
  refine fun line s hrun hdetached hfault => ⟨fun hline => ?stuck, fun hstb hdat => ?exempt⟩
  case stuck =>
    obtain ⟨hexs, hexd⟩ := lowFor_exempt s line
    let stb := decide (s.lowFor line).StbStuck && !(s.lowFor line).lif.stbExempt
    let dat := decide (s.lowFor line).DatStuck && !(s.lowFor line).lif.datExempt
    have hfinds : s.lif.link.findsStuck = true := by
      cases hl : s.lif.link <;> simp_all [Link.findsStuck]
    have hany : (stb || dat) = true := by
      rw [Bool.or_eq_true]
      rcases hline with ⟨hne, hex⟩ | ⟨hne, hex⟩
      · exact .inl (by simp only [stb, hexs, hex, decide_eq_true (lowFor_stbStuck s hne)]; rfl)
      · exact .inr (by simp only [dat, hexd, hex, decide_eq_true (lowFor_datStuck s hne)]; rfl)
    have he : exec (.lineStuck line) s = done ((s.lowFor line).stuckNow stb dat) := if_pos ⟨hrun, hfinds, hany⟩
    have hlow := frame_lowFor s line
    have hmbr : (s.lowFor line).mbr = s.mbr := hlow.mbr_eq rfl
    have hmild : Mild s ((s.lowFor line).stuckNow stb dat) := (mild_setLif s _).trans (mild_stuckNow _ stb dat)
    have hframe : Frame [.lif, .rnd, .mbr, .slots, .flg, .hlt, .pin, .log, .ntf] s ((s.lowFor line).stuckNow stb dat) :=
      hlow.then (frame_stuckNow _ stb dat) (by simp) (by simp)
    have hlif := stuckNow_lif (s.lowFor line) stb dat
    have hround := stuckNow_round (s.lowFor line) stb dat
    obtain ⟨hoff, hnumber⟩ := stuckNow_mbr (s.lowFor line) stb dat
    have honBus := fun h => stuckNow_onBus (s := s.lowFor line) (by rw [hmbr]; exact h) stb dat
    rw [hmbr] at hnumber
    generalize (s.lowFor line).stuckNow stb dat = u at *
    refine ⟨_, he.trans (done_eq _), ?_, ?_, ?_, ?_, ?_, ?_, ?_, by rw [settle_rnd, hround], by rw [settle_mbr, hoff],
      by rw [settle_mbr, hnumber], fun h => ?_, by rw [settle_cfg, hmild.cfg], fun i => ?_, hmild.disarms.settle,
      hframe.only (by rfl)⟩
    iterate 7
      rw [settle_lif, hlif]
      rfl
    · rw [settle_rnd, settle_mbr, settle_flg, settle_hlt]
      exact honBus h
    · rw [slot_settle]
      exact ⟨hmild.slotCfg i, hmild.results i⟩
  case exempt =>
    obtain ⟨hexs, hexd⟩ := lowFor_exempt s line
    have he : exec (.lineStuck line) s = .next s := by
      refine if_neg fun ⟨_, _, hany⟩ => ?_
      rw [hexs, hexd, hstb, hdat] at hany
      simp at hany
    exact ⟨s, he, .refl _ s⟩

/-! ### A recognised bus reset -/

@[simp] theorem detach_armed (x : Lif) : x.detach.armed = x.armed := by
  unfold Lif.detach
  split <;> rfl

theorem busResetSeen_reporting (s : State) :
    Reporting ((s.offer .busReset s.mbr.number (BitVec.ofNat 8 s.mbr.membership.code) s.mbr.roster 0#16).raise .bus)
      s.busResetSeen := ⟨rfl, rfl, rfl, rfl⟩

theorem busResetPruned_requests (s : State) : s.busResetPruned.rnd.requests
    = (s.rnd.requests.filter fun e => e.cls == .join).map fun e => { e with voids := 0 } := rfl

theorem busResetHalt_hlt (s : State) : s.busResetHalt.hlt = Hlt.clear .running := by
  unfold State.busResetHalt
  cases s.hlt.condition
  · rfl
  · simp

/-- A FLAG_FOLLOW input only sets at a bus reset: with no clear request before there is none after (R147). -/
theorem followInput_clearReq {s : State} (h : s.flg.clearReq = 0#32) (i : Fin 4) :
    (State.followInput false i s).flg.clearReq = 0#32 := by
  unfold State.followInput
  split
  · split
    · by_cases hon : s.mbr.membership = .online
      · rw [requestSet_online hon, syncFlagsEntry_flg, setFlg_flg]
        simp [Flg.askSet, h]
      · rwa [requestSet_offline hon]
    · exact h
  · exact h

/-- What an ONLINE station is after a recognised bus reset (R64, R87, R121, R138). -/
structure ResetOnline (s t : State) : Prop where
  mbr : t.mbr = { s.mbr with roster := only s.mbr.number, rollTimer := 0 }
  roll : hasEntry t.rnd.requests .roll 0 = true
  word : t.flg.word = 0#32
  sync : t.flg.sync = .synced
  clearReq : t.flg.clearReq = 0#32
  hlt : t.hlt = Hlt.clear .running
  slots : ∀ i, (s.slot i).cfg.enabled = true → t.slot i = (s.slot i).rebase .synced

theorem busResetRebased_slot (s : State) (i : SlotNo) (h : (s.slot i).cfg.enabled = true) :
    s.busResetRebased.slot i = (s.slot i).rebase .synced := by
  have hroster := frame_changeRoster s (only s.mbr.number) s.mbr.number causeBusReset
  have hslot := slot_eq_of_slots (hroster.slots_eq rfl) i
  unfold State.busResetRebased
  generalize s.changeRoster (only s.mbr.number) s.mbr.number causeBusReset = a at *
  have hplaced : ((a.setMbr { a.mbr with rollTimer := 0 }).place .roll 0).slot i = s.slot i := by
    rw [slot_place]
    exact hslot
  rw [forSlots_rebase_slot, hplaced, if_pos h]

theorem busResetRebased_roll (s : State) : hasEntry s.busResetRebased.rnd.requests .roll 0 = true := by
  have hlist : ∀ u : State, Listed [.arrive] u (forSlots (State.rebaseSlot reasonBusReset .synced) u) :=
    Listed.forSlots (listed_rebaseSlot reasonBusReset .synced)
  unfold State.busResetRebased
  dsimp only
  rw [hasEntry_isSome, (hlist _).others _ _ (by simp), ← hasEntry_isSome, place_requests]
  exact hasEntry_placeEntry_same _ _ _

theorem resetOnline_busResetOnline (s : State) : ResetOnline s s.busResetOnline := by
  have hmbr := busResetOnline_mbr s
  have hflags := frame_busResetFlags s.busResetRebased
  have hflg := busResetFlags_flg s.busResetRebased
  have hslot := busResetRebased_slot s
  have hroll := busResetRebased_roll s
  rw [busResetOnline_eq] at hmbr ⊢
  generalize s.busResetRebased = a at *
  generalize a.busResetFlags = b at *
  have hhalt := frame_busResetHalt b
  have hhlt := busResetHalt_hlt b
  generalize b.busResetHalt = c at *
  have hcflg : c.flg = _ := (hhalt.flg_eq rfl).trans hflg
  have hfollow := frame_forInputs (State.followInput false) (frame_followInput false) c
  have hlist : Listed [.flags] c (forInputs (State.followInput false) c) := .forInputs (listed_followInput false) c
  obtain ⟨hword, hsync⟩ := forInputs_follow_word false c
  have hclear : (forInputs (State.followInput false) c).flg.clearReq = 0#32 :=
    forInputs_keeps (fun t => t.flg.clearReq = 0#32) _ (fun i _ ht => followInput_clearReq ht i) c (by rw [hcflg])
  generalize forInputs (State.followInput false) c = t at *
  exact
    { mbr := hmbr
      roll := by
        rw [hasEntry_isSome, hlist.others _ _ (by simp), ← hasEntry_isSome, hhalt.rnd_eq rfl, hflags.rnd_eq rfl]
        exact hroll
      word := by rw [hword, hcflg]
      sync := by rw [hsync, hcflg]
      clearReq := hclear
      hlt := by rw [hfollow.hlt_eq rfl, hhlt]
      slots := fun i hi => by
        rw [slot_eq_of_slots (hfollow.slots_eq rfl), slot_eq_of_slots (hhalt.slots_eq rfl),
          slot_eq_of_slots (hflags.slots_eq rfl)]
        exact hslot i hi }

theorem busResetEffects_armed (s : State) : s.busResetEffects.lif.armed = s.lif.armed := by
  rw [busResetEffects_eq]
  split
  · rw [(frame_busResetSeen s).lif_eq rfl]
  · rw [(frame_busResetPruned s).lif_eq rfl]
  · rw [(frame_busResetOnline _).lif_eq rfl, (frame_busResetPruned s).lif_eq rfl]
  · rw [leaveBus_lif, detach_armed, (frame_busResetPruned s).lif_eq rfl]

/-- After the BUS_RESET record the station only adds records (R64). -/
theorem busResetEffects_steady (s : State) : Steady s.busResetSeen s.busResetEffects := by
  have hpruned : Mild s.busResetSeen s.busResetPruned := mild_setRnd _ _
  rw [busResetEffects_eq]
  split
  · exact (Mild.refl _).toSteady
  · exact hpruned.toSteady
  · exact (hpruned.trans (mild_busResetOnline _)).toSteady
  · exact (hpruned.trans (mild_leaveBus _ _)).toSteady

/-- Settles O44: the record everywhere, then what each membership takes of the bus reset. -/
theorem recognisedBusResetRebasesTheStation : Obligations.RecognisedBusResetRebasesTheStation := by
  intro s hrec
  let u := s.setLif s.lif.recognise
  have he : exec .busResetRecognised s = done u.busResetEffects := if_pos hrec
  have hu : Frame [.lif] s u := frame_setLif s _
  have hlink : u.lif.link = s.lif.link := by simp [u, Lif.recognise]
  have hmild : Mild s u.busResetEffects := (mild_setLif s _).trans (mild_busResetEffects u)
  have hframe : Frame [.lif, .log, .ntf, .rnd, .mbr, .slots, .flg, .hlt, .pin] s u.busResetEffects :=
    hu.then (frame_busResetEffects u) (by simp) (by simp)
  have hrep : Reporting ((s.offer .busReset s.mbr.number (BitVec.ofNat 8 s.mbr.membership.code) s.mbr.roster 0#16).raise .bus)
      u.busResetSeen :=
    ((Reporting.offer (.of_frame hu ⟨rfl, rfl, rfl, rfl⟩) _ _ _ _ _).raise _).trans (busResetSeen_reporting u)
  refine ⟨_, he.trans (done_eq _), ?_, ?_, fun hm => ?offline, fun hm => ?joining, fun hm => ?leaving, fun hm => ?online,
    hmild.disarms.settle, hframe.only (by rfl)⟩
  · rw [settle_lif, busResetEffects_armed]
    rfl
  · have hfirst : ReportsFirst s u.busResetEffects.settle .busReset s.mbr.number (BitVec.ofNat 8 s.mbr.membership.code)
        s.mbr.roster 0#16 .bus :=
      .of_steady hrep ((busResetEffects_steady u).trans (Mild.of_frame (frame_settle _) rfl).toSteady)
    cases hm : s.mbr.membership <;> rw [hm] at hfirst <;> exact hfirst
  case offline =>
    have hv : u.busResetEffects = u.busResetSeen := by rw [busResetEffects_eq, show u.mbr.membership = .offline from hm]
    have hseen := frame_busResetSeen u
    rw [hm] at hrep
    rw [hv]
    exact ⟨by rw [settle_lif, hseen.lif_eq rfl, hlink], (hrep.trans (.settle _)).reports,
      (hu.then (c := [.lif, .log, .ntf]) hseen (by simp) (by simp)).only (by rfl)⟩
  case joining =>
    have hv : u.busResetEffects = u.busResetPruned := by rw [busResetEffects_eq, show u.mbr.membership = .joining from hm]
    have hpruned := frame_busResetPruned u
    rw [hm] at hrep
    rw [hv]
    refine ⟨by rw [settle_lif, hpruned.lif_eq rfl, hlink], ?_, by rw [settle_rnd]; rfl, by rw [settle_rnd, busResetPruned_requests]; rfl,
      (hu.then (c := [.lif, .log, .ntf, .rnd]) hpruned (by simp) (by simp)).only (by rfl)⟩
    exact ((hrep.trans (.of_frame (frame_setRnd _ _) ⟨rfl, rfl, rfl, rfl⟩)).trans (.settle _)).reports
  case leaving =>
    have hv : u.busResetEffects = u.busResetPruned.leaveBus causeBusReset := by
      rw [busResetEffects_eq, show u.mbr.membership = .leaving from hm]
    rw [hv, settle_mbr, settle_rnd, settle_flg, leaveBus_mbr, leaveBus_rnd, State.leaveBus, goOffline_flg]
    exact ⟨rfl, rfl, rfl⟩
  case online =>
    have hv : u.busResetEffects = u.busResetPruned.busResetOnline := by
      rw [busResetEffects_eq, show u.mbr.membership = .online from hm]
    have hpruned : Frame [.lif, .log, .ntf, .rnd] s u.busResetPruned := hu.then (frame_busResetPruned u) (by simp) (by simp)
    have hplif : u.busResetPruned.lif = u.lif := (frame_busResetPruned u).lif_eq rfl
    rw [hv]
    generalize u.busResetPruned = v at *
    have honline := frame_busResetOnline v
    obtain ⟨hmbr, hroll, hword, hsync, hclear, hhlt, hslots⟩ := resetOnline_busResetOnline v
    refine ⟨by rw [settle_lif, honline.lif_eq rfl, hplif, hlink], by rw [settle_mbr, hmbr, hpruned.mbr_eq rfl],
      by rw [settle_rnd, hroll], by rw [settle_flg, hword], by rw [settle_flg, hsync], by rw [settle_flg, hclear],
      by rw [settle_hlt, hhlt], fun i hi => ?_⟩
    have hslot : v.slot i = s.slot i := slot_eq_of_slots (hpruned.slots_eq rfl) i
    rw [slot_settle, hslots i (by rw [hslot]; exact hi), hslot]

end Sys2Proof.Machine
end

section
/-! JOIN (R50): the station that enters JOINING, and the line that is stuck at that moment (R15). -/

namespace Sys2Proof.Machine

theorem frame_joinPlaced (s : State) : Frame [.mbr, .lif, .rnd, .ntf] s s.joinPlaced := by
  have hmbr : Frame [.mbr, .lif, .rnd, .ntf] s (s.setMbr { s.mbr with nonce := some (s.tsc.time.setWidth 16) }) :=
    (frame_setMbr s _).mono (by simp)
  have henter := hmbr.then (c := [.mbr, .lif, .rnd, .ntf]) (frame_enter _ .joining) (by simp) (by simp)
  exact (henter.then (c := [.mbr, .lif, .rnd, .ntf]) (frame_setLif _ _) (by simp) (by simp)).then (frame_place _ _ _)
    (by simp) (by simp)

theorem joinPlaced_mbr (s : State) :
    s.joinPlaced.mbr = { s.mbr with membership := .joining, nonce := some (s.tsc.time.setWidth 16) } := rfl

theorem joinPlaced_lif (s : State) : s.joinPlaced.lif = s.lif.seek := rfl

theorem joinPlaced_rnd (s : State) :
    s.joinPlaced.rnd = { s.rnd with requests := placeEntry s.rnd.requests .join s.mbr.number } := rfl

theorem joinPlaced_ntf (s : State) : s.joinPlaced.ntf = (s.raise .member).ntf := rfl

/-- Settles O15: the refusals, the JOIN that is taken, and the one that finds a line stuck. -/
theorem joinEntersJoining : Obligations.JoinEntersJoining := by
  intro s hp
  obtain ⟨cmd, tsc, htime, hd, he⟩ := command_answers (c := .join) rfl rfl rfl (by decide) hp
  let u := (s.setCmd cmd).setTsc tsc
  refine ⟨_, he, fun hno => ?refused, fun ⟨hoff, hlink, hstb, hdat⟩ => ?taken, fun ⟨hoff, hlink, hstuck⟩ => ?stuck⟩
  case refused =>
    have hno : ¬(u.mbr.membership = .offline ∧ u.lif.link = .detached) := hno
    rw [if_neg hno]
    exact hd.refused .state
  case taken =>
    have hyes : u.mbr.membership = .offline ∧ u.lif.link = .detached := ⟨hoff, hlink⟩
    have hfree : ¬(u.StbStuck ∨ u.DatStuck) := fun h => h.elim hstb hdat
    have hnonce : tsc.time.setWidth 16 = s.tsc.time.extractLsb' 0 16 := by
      rw [htime, BitVec.setWidth_eq_extractLsb' (by decide)]
    rw [if_pos hyes, joinNow_eq, if_neg hfree]
    refine ⟨?_, ?_, .of_place ?_, .of_place ?_, ?_, hd.wrote .ok (frame_joinPlaced u) (by decide) (by decide)⟩
    · rw [settle_mbr, setLast_mbr, joinPlaced_mbr, ← hnonce]
      rfl
    · rw [settle_lif, setLast_lif, joinPlaced_lif]
      rfl
    · rw [settle_rnd, setLast_rnd, joinPlaced_rnd]
      rfl
    · rw [settle_rnd, setLast_rnd, joinPlaced_rnd]
      rfl
    · rw [settle_ntf, setLast_ntf, joinPlaced_ntf]
      rfl
  case stuck =>
    have hyes : u.mbr.membership = .offline ∧ u.lif.link = .detached := ⟨hoff, hlink⟩
    have hfound : u.StbStuck ∨ u.DatStuck := hstuck
    have hjoining : u.joinPlaced.mbr.membership ≠ .offline := by
      rw [joinPlaced_mbr]
      simp
    have hcmd : (u.joinPlaced.stuckNow (decide u.StbStuck) (decide u.DatStuck)).cmd = u.cmd :=
      ((frame_stuckNow _ _ _).cmd_eq rfl).trans ((frame_joinPlaced u).cmd_eq rfl)
    have hlif := stuckNow_lif u.joinPlaced (decide u.StbStuck) (decide u.DatStuck)
    obtain ⟨hmember, _⟩ := stuckNow_mbr u.joinPlaced (decide u.StbStuck) (decide u.DatStuck)
    obtain ⟨hreq, _⟩ := stuckNow_onBus hjoining (decide u.StbStuck) (decide u.DatStuck)
    rw [if_pos hyes, joinNow_eq, if_pos hfound]
    generalize u.joinPlaced.stuckNow (decide u.StbStuck) (decide u.DatStuck) = v at *
    refine ⟨by rw [settle_mbr, setLast_mbr, hmember], ?_, ?_, ?_, by rw [settle_rnd, setLast_rnd, hreq], hd.answered .ok hcmd⟩
    all_goals
      rw [settle_lif, setLast_lif, hlif]
      rfl

end Sys2Proof.Machine
end

section
/-! LEAVE (R60): the arrivals withdrawn or deferred slot by slot, the requests of the units dropped with their entries. -/

namespace Sys2Proof.Machine

/-! ### The walk over the slots -/

/-- What a LEAVE makes of a slot (R60, R79, R80). -/
def Slot.left (x : Slot) : Slot :=
  if x.state = .waiting then
    if x.committed then { x with withdrawPending := true } else { x.dropArrival with state := .ready }
  else x

theorem withdrawOrDefer_idle {s : State} {i : SlotNo} (h : (s.slot i).state ≠ .waiting) : State.withdrawOrDefer i s = s := by
  unfold State.withdrawOrDefer
  dsimp only
  split
  · exact absurd ‹_› h
  all_goals rfl

theorem withdrawOrDefer_waiting {s : State} {i : SlotNo} (h : (s.slot i).state = .waiting) : State.withdrawOrDefer i s
    = if (s.slot i).committed then s.setSlot i { s.slot i with withdrawPending := true } else s.withdrawNow i .withdrawn := by
  unfold State.withdrawOrDefer
  simp only [h]

theorem withdrawOrDefer_slot (i : SlotNo) (s : State) : (State.withdrawOrDefer i s).slot i = (s.slot i).left := by
  unfold Slot.left
  by_cases h : (s.slot i).state = .waiting
  · rw [withdrawOrDefer_waiting h, if_pos h]
    split
    · exact slot_setSlot_same _ _ _
    · exact withdrawNow_slot _ _ _
  · rw [withdrawOrDefer_idle h, if_neg h]

theorem withdrawOrDefer_other (i j : SlotNo) (s : State) (hj : j ≠ i) : (State.withdrawOrDefer i s).slot j = s.slot j := by
  by_cases h : (s.slot i).state = .waiting
  · rw [withdrawOrDefer_waiting h]
    split
    · exact slot_setSlot_ne _ _ _ _ hj
    · exact withdrawNow_other _ _ hj
  · rw [withdrawOrDefer_idle h]

theorem withdrawOrDefer_rnd (i : SlotNo) (s : State) : (State.withdrawOrDefer i s).rnd
    = if (s.slot i).state = .waiting ∧ (s.slot i).committed = false
      then { s.rnd with requests := removeEntry s.rnd.requests .arrive i } else s.rnd := by
  by_cases h : (s.slot i).state = .waiting
  · rw [withdrawOrDefer_waiting h]
    by_cases hc : (s.slot i).committed = true
    · rw [if_pos hc, if_neg fun hn => by rw [hc] at hn; cases hn.2]
      rfl
    · rw [if_neg hc, if_pos ⟨h, by simpa using hc⟩]
      exact withdrawNow_rnd s i .withdrawn
  · rw [withdrawOrDefer_idle h, if_neg fun hc => h hc.1]

theorem forSlots_left_slot (s : State) (i : SlotNo) : (forSlots State.withdrawOrDefer s).slot i = (s.slot i).left :=
  forSlots_slot (f := State.withdrawOrDefer) (g := Slot.left) withdrawOrDefer_slot withdrawOrDefer_other s i

theorem forSlots_left_entry (s : State) (i : SlotNo) : findEntry (forSlots State.withdrawOrDefer s).rnd.requests .arrive i
    = if (s.slot i).state = .waiting ∧ (s.slot i).committed = false then none else findEntry s.rnd.requests .arrive i := by
  refine forSlots_entry (f := State.withdrawOrDefer) (fun x => x.state = .waiting ∧ x.committed = false)
    withdrawOrDefer_other (fun j t => ?_) (fun j k t hne => ?_) s i
  · rw [withdrawOrDefer_rnd]
    split
    · rw [findEntry_removeEntry_same]
    · rfl
  · rw [withdrawOrDefer_rnd]
    split
    · exact findEntry_removeEntry_ne _ _ _ _ _ fun he => hne (Prod.mk.inj he).2
    · rfl

/-! ### The requests of the units -/

/-- The list once the entries of the flag unit and of the halt unit are gone. -/
def leftRequests (l : List Entry) : List Entry := removeEntry (removeEntry (removeEntry l .flags 0) .halt 0) .resume 0

theorem findEntry_leftRequests (l : List Entry) {c : Class} (n : Fin 32) (hf : c ≠ .flags) (hh : c ≠ .halt)
    (hr : c ≠ .resume) : findEntry (leftRequests l) c n = findEntry l c n := by
  unfold leftRequests
  rw [findEntry_removeEntry_ne _ _ _ _ _ fun he => hr (Prod.mk.inj he).1,
    findEntry_removeEntry_ne _ _ _ _ _ fun he => hh (Prod.mk.inj he).1,
    findEntry_removeEntry_ne _ _ _ _ _ fun he => hf (Prod.mk.inj he).1]

theorem leftRequests_units (l : List Entry) : findEntry (leftRequests l) .flags 0 = none
    ∧ findEntry (leftRequests l) .halt 0 = none ∧ findEntry (leftRequests l) .resume 0 = none := by
  unfold leftRequests
  refine ⟨?_, ?_, findEntry_removeEntry_same _ _ _⟩
  · rw [findEntry_removeEntry_ne _ _ _ _ _ (by simp), findEntry_removeEntry_ne _ _ _ _ _ (by simp),
      findEntry_removeEntry_same]
  · rw [findEntry_removeEntry_ne _ _ _ _ _ (by simp), findEntry_removeEntry_same]

theorem leaveCleared_requests (s : State) :
    s.leaveCleared.rnd.requests = leftRequests (forSlots State.withdrawOrDefer s).rnd.requests := by
  unfold State.leaveCleared
  generalize forSlots State.withdrawOrDefer s = w
  simp [State.leaveHalt, State.discardFlags, leftRequests]

theorem leaveNow_rnd (s : State) : s.leaveNow.rnd.requests = placeEntry s.leaveCleared.rnd.requests .roll 0
    ∧ s.leaveNow.rnd.round = s.leaveCleared.rnd.round := by
  rw [leaveNow_eq]
  generalize s.leaveCleared = v
  simp

theorem leaveNow_requests (s : State) : s.leaveNow.rnd.requests
    = placeEntry (leftRequests (forSlots State.withdrawOrDefer s).rnd.requests) .roll 0 :=
  (leaveNow_rnd s).1.trans (congrArg (placeEntry · .roll 0) (leaveCleared_requests s))

/-- An entry of a LEAVING station other than its ROLL entry, by what the walk over the slots left. -/
theorem leaveNow_entry (s : State) (c : Class) (n : Fin 32) (hr : (c, n) ≠ (.roll, 0)) :
    findEntry s.leaveNow.rnd.requests c n
      = findEntry (leftRequests (forSlots State.withdrawOrDefer s).rnd.requests) c n :=
  (congrArg (findEntry · c n) (leaveNow_requests s)).trans (findEntry_placeEntry_ne _ _ _ _ _ hr)

theorem leaveNow_slot (s : State) (i : SlotNo) : s.leaveNow.slot i = (s.slot i).left := by
  have hunits : Frame [.flg, .rnd, .hlt] (forSlots State.withdrawOrDefer s) s.leaveCleared :=
    (frame_discardFlags _).then (frame_leaveHalt _) (by simp) (by simp)
  have hslot := forSlots_left_slot s i
  rw [leaveNow_eq, slot_place, slot_eq_of_slots ((frame_enter _ _).slots_eq rfl)]
  generalize forSlots State.withdrawOrDefer s = w at *
  rw [slot_eq_of_slots (hunits.slots_eq rfl), hslot]

theorem leaveNow_hlt (s : State) : s.leaveNow.hlt = Hlt.clear s.hlt.condition := by
  have hwalk := (frame_forSlots _ frame_withdrawOrDefer s).hlt_eq rfl
  rw [leaveNow_eq, place_hlt, (frame_enter _ _).hlt_eq rfl, State.leaveCleared]
  generalize forSlots State.withdrawOrDefer s = w at *
  simp [State.leaveHalt, State.discardFlags, hwalk]

theorem leaveNow_mbr (s : State) : s.leaveNow.mbr = { s.mbr with membership := .leaving } := by
  have hwalk : Frame [.slots, .rnd, .pin, .log, .ntf] s (forSlots State.withdrawOrDefer s) :=
    frame_forSlots _ frame_withdrawOrDefer s
  have hunits : Frame [.flg, .rnd, .hlt] (forSlots State.withdrawOrDefer s) s.leaveCleared :=
    (frame_discardFlags _).then (frame_leaveHalt _) (by simp) (by simp)
  rw [leaveNow_eq, place_mbr, enter_mbr, hunits.mbr_eq rfl, hwalk.mbr_eq rfl]

/-- Settles O16: the refusal, and the LEAVE that is taken. -/
theorem leaveWithdrawsAndEntersLeaving : Obligations.LeaveWithdrawsAndEntersLeaving := by
  intro s hp
  obtain ⟨cmd, tsc, htime, hd, he⟩ := command_answers (c := .leave) rfl rfl rfl (by decide) hp
  let u := (s.setCmd cmd).setTsc tsc
  refine ⟨_, he, fun hno => ?refused, fun hon => ?taken⟩
  case refused =>
    have hno : ¬u.mbr.membership = .online := hno
    rw [if_neg hno]
    exact hd.refused .state
  case taken =>
    have hyes : u.mbr.membership = .online := hon
    have hflg : u.leaveNow.flg = { s.flg with setReq := 0#32, clearReq := 0#32 } := by
      rw [leaveNow_eq, place_flg, enter_flg, leaveCleared_flg]
      rfl
    have hround : u.leaveNow.rnd.round = s.rnd.round :=
      (leaveNow_rnd u).2.trans (listed_leaveCleared u).round
    have hroll : hasEntry u.leaveNow.rnd.requests .roll 0 = true :=
      (congrArg (hasEntry · .roll 0) (leaveNow_requests u)).trans (hasEntry_placeEntry_same _ _ _)
    have hslot : ∀ i, u.leaveNow.slot i = (s.slot i).left := leaveNow_slot u
    have hentry := leaveNow_entry u
    obtain ⟨hflags, hhalt, hresume⟩ := leftRequests_units (forSlots State.withdrawOrDefer u).rnd.requests
    have harrive : ∀ i, findEntry u.leaveNow.rnd.requests .arrive i
        = if (s.slot i).state = .waiting ∧ (s.slot i).committed = false then none
          else findEntry s.rnd.requests .arrive i := fun i => by
      rw [hentry _ _ (by simp), findEntry_leftRequests _ _ (by simp) (by simp) (by simp)]
      exact forSlots_left_entry u i
    have hjoin : ∀ n, findEntry u.leaveNow.rnd.requests .join n = findEntry s.rnd.requests .join n := fun n =>
      (congrArg (findEntry · .join n) (leaveNow_rnd u).1).trans
        ((findEntry_placeEntry_ne _ _ _ _ _ (by simp)).trans ((listed_leaveCleared u).others _ _ (by simp)))
    have hdisarms : OnlyDisarms s u.leaveNow := by
      have hpin : u.leaveNow.pin = u.leaveCleared.pin := by rw [leaveNow_eq, place_pin, (frame_enter _ _).pin_eq rfl]
      exact (OnlyDisarms.of_pin (t := u) rfl).trans ((mild_leaveCleared u).disarms.trans (.of_pin hpin))
    have hhlt := leaveNow_hlt u
    have hmbr := leaveNow_mbr u
    obtain ⟨hanswer, hsnapshot, hquiet, htouched⟩ := hd.wrote .ok (frame_leaveNow u) (by decide) (by decide)
    rw [if_pos hyes]
    simp only [settle_mbr, settle_flg, settle_hlt, settle_rnd, slot_settle, setLast_mbr, setLast_flg, setLast_hlt,
      setLast_rnd, slot_setLast, hasEntry_isSome]
    rw [hasEntry_isSome] at hroll
    generalize u.leaveNow = v at *
    generalize forSlots State.withdrawOrDefer u = w at *
    refine ⟨hmbr, hflg, hhlt, hroll, ?_, ?_, ?_, hround, fun i hw hc => ⟨?_, ?_⟩, fun i hw hc => ?_, fun i hw => ?_, hjoin,
      fun i hw => ?_, hdisarms.trans (.of_pin ?_), hanswer, hsnapshot, hquiet, htouched.mono (by simp)⟩
    · rw [hentry _ _ (by simp), hflags]
      rfl
    · rw [hentry _ _ (by simp), hhalt]
      rfl
    · rw [hentry _ _ (by simp), hresume]
      rfl
    · rw [hslot, Slot.left, if_pos hw, if_neg (by rw [hc]; simp)]
    · rw [harrive, if_pos ⟨hw, hc⟩]
      rfl
    · rw [hslot, Slot.left, if_pos hw, if_pos hc]
    · rw [hslot, Slot.left, if_neg hw]
    · rw [harrive, if_neg hw]
    · rw [settle_pin, setLast_pin]

end Sys2Proof.Machine
end

section
/-! BUS RESET (R17): the pulse and its end, and the detector that is armed and disarmed (R18). -/

namespace Sys2Proof.Machine

/-! ### The records of an abandoned round -/

theorem OnlyRecords.of_log {kinds : List Kind} {s t : State} (h : t.log = s.log) : OnlyRecords kinds s t :=
  ⟨[], by rw [h, List.append_nil], fun _ hr => nomatch hr⟩

theorem OnlyRecords.trans {kinds : List Kind} {s t u : State} (h₁ : OnlyRecords kinds s t) (h₂ : OnlyRecords kinds t u) :
    OnlyRecords kinds s u := by
  obtain ⟨l, hl, hkinds⟩ := h₁
  obtain ⟨m, hm, hkinds'⟩ := h₂
  refine ⟨l ++ m, by rw [hm, hl, List.append_assoc], fun r hr => ?_⟩
  rcases List.mem_append.mp hr with hr | hr
  · exact hkinds r hr
  · exact hkinds' r hr

theorem onlyRecords_offer {kinds : List Kind} {k : Kind} (hk : k ∈ kinds) (s : State) (sel : Fin 32) (tag : Byte) (set : Set32)
    (v : Half) : OnlyRecords kinds s (s.offer k sel tag set v) := by
  cases hp : passes s.cfg k with
  | false => exact .of_log (by rw [offer_filtered hp])
  | true =>
    rcases Nat.lt_or_ge s.log.records.length 16 with hroom | hfull
    · rw [offer_appended hp hroom]
      refine ⟨[s.recordOf k sel tag set v], rfl, fun r hr => ?_⟩
      obtain rfl := List.mem_singleton.mp hr
      exact hk
    · rw [offer_dropped hp hfull]
      exact ⟨[], (List.append_nil _).symm, fun _ hr => nomatch hr⟩

theorem onlyRecords_offerSlot {kinds : List Kind} {k : Kind} (hk : k ∈ kinds) (s : State) (i : SlotNo) (tag : Byte)
    (set : Set32) (v : Half) : OnlyRecords kinds s (s.offerSlot i k tag set v) := by
  have hraise : ∀ t : State, OnlyRecords kinds t (t.raiseSlot i) := fun t => .of_log ((frame_raiseSlot t i).log_eq rfl)
  unfold State.offerSlot
  split
  · exact (onlyRecords_offer hk s i tag set v).trans (hraise _)
  · exact hraise s

theorem onlyRecords_withdrawNow {kinds : List Kind} {k : Kind} (hk : k ∈ kinds) (s : State) (i : SlotNo) :
    OnlyRecords kinds s (s.withdrawNow i k) :=
  (OnlyRecords.of_log ((frame_removeArrival s i).log_eq rfl)).trans (onlyRecords_offerSlot hk _ i _ _ _)

/-- A commitment resolved leaves at most the record of the withdrawal or of the timeout (R78). -/
theorem onlyRecords_resolveUncompleted (s : State) (i : SlotNo) :
    OnlyRecords [.withdrawn, .timeout] s (s.resolveUncompleted i) := by
  unfold State.resolveUncompleted
  dsimp only
  split
  · split
    · exact onlyRecords_withdrawNow (by simp) s i
    · split
      · exact (onlyRecords_withdrawNow (by simp) s i).trans (.of_log ((timeoutNow_frame s i).log_eq rfl))
      · exact .of_log rfl
  · exact .of_log rfl

theorem onlyRecords_abandon (s : State) : OnlyRecords [.withdrawn, .timeout] s (s.abandon false) := by
  have hresolve : ∀ (t : State) (r : Round), OnlyRecords [.withdrawn, .timeout] t (t.resolveLatches r) := fun t r => by
    unfold State.resolveLatches
    split
    · exact onlyRecords_resolveUncompleted t _
    · exact .of_log rfl
  unfold State.abandon
  split
  · exact .of_log rfl
  · exact (OnlyRecords.of_log rfl).trans (hresolve _ _)

theorem abandon_none {s : State} (h : s.rnd.round = none) (framing : Bool) : s.abandon framing = s := by
  unfold State.abandon
  rw [h]

/-! ### The detector -/

@[simp] theorem lowForArming_link (x : Lif) : x.lowForArming.link = x.link := by simp [Lif.lowForArming]

theorem disarmDetector_fields (x : Lif) (line : Line) :
    (x.disarmDetector line).armed = false ∧ (x.disarmDetector line).link = x.link := by
  cases line <;> simp [Lif.disarmDetector]

/-- The link states from which an armed detector leads to SEEKING (R18). -/
theorem busResetArmed_cases {s : State} (h : s.Running ∧ s.lif.Detects ∧ s.lif.armed = false) :
    (s.lif.link ≠ .resetting ∧ s.lif.link ≠ .fault ∧ s.lif.link ≠ .detached
        ∧ exec .busResetArmed s = done ((s.setLif { s.lif.lowForArming with armed := true }.seek).abandon false))
      ∨ (s.lif.link = .resetting ∨ s.lif.link = .fault ∨ s.lif.link = .detached)
        ∧ exec .busResetArmed s = done (s.setLif { s.lif.lowForArming with armed := true }) := by
  have he : exec .busResetArmed s = _ := if_pos h
  rw [he]
  cases s.lif.link <;> simp

/-! ### The statement -/

/-- Settles O17: the command, the end of its pulse, the detector armed and disarmed. -/
theorem busResetIsPulsedAndDetected : Obligations.BusResetIsPulsedAndDetected := by
  refine ⟨fun s hp => ?command, fun s hrun => ⟨fun hlink => ?pulseEnd, fun harmed hdetects => ?armed, fun harmed line => ?disarmed⟩⟩
  case command =>
    obtain ⟨cmd, tsc, htime, hd, he⟩ := command_answers (c := .busReset) rfl rfl rfl (by decide) hp
    let u := (s.setCmd cmd).setTsc tsc
    refine ⟨_, he, fun hno => ?refused, fun hyes => ?taken⟩
    case refused =>
      have hno : u.lif.link = .resetting := hno
      rw [if_pos hno]
      exact hd.refused .already
    case taken =>
      have hyes : ¬u.lif.link = .resetting := hyes
      let v := u.setLif (u.lif.beginPulse u.stuckTicks)
      have hv : Frame [.lif] u v := frame_setLif u _
      have hframe : Frame [.lif, .rnd, .slots, .pin, .log, .ntf, .hlt] u (v.abandon false) :=
        hv.then (frame_abandon v false) (by simp) (by simp)
      have hlif : (v.abandon false).lif = u.lif.beginPulse u.stuckTicks := abandon_lif v false
      have hrecords : OnlyRecords [.withdrawn, .timeout] s (v.abandon false) :=
        (OnlyRecords.of_log rfl).trans (onlyRecords_abandon v)
      have hdisarms : OnlyDisarms s (v.abandon false) :=
        (OnlyDisarms.of_pin (t := v) rfl).trans (mild_abandon v false).disarms
      have hround : (v.abandon false).rnd.round = none := abandon_round v false
      have hnone : s.rnd.round = none → v.abandon false = v := fun h => abandon_none (s := v) h false
      obtain ⟨hanswer, _, hquiet, htouched⟩ := hd.wrote .ok hframe (by decide) (by decide)
      rw [if_neg hyes]
      refine ⟨?_, ?_, ?_, ?_, ?_, ?_, ?_, ?_, ?_, hanswer, ?_, hquiet, htouched, fun h => ?_⟩
      · rw [settle_lif, setLast_lif, hlif]
        rfl
      · rw [settle_lif, setLast_lif, hlif]
        rfl
      · rw [settle_lif, setLast_lif, hlif, show s.lif = u.lif from rfl, Lif.beginPulse]
        cases u.lif.dat <;> simp
      · rw [settle_lif, setLast_lif, hlif]
        rfl
      · rw [settle_lif, setLast_lif, hlif]
        rfl
      · rw [settle_rnd, setLast_rnd, hround]
      · exact hrecords.trans (.of_log (by rw [settle_log, setLast_log]))
      · rw [settle_mbr, setLast_mbr, hframe.mbr_eq rfl]
        rfl
      · rw [settle_flg, setLast_flg, hframe.flg_eq rfl]
        rfl
      · exact hdisarms.trans (.of_pin (by rw [settle_pin, setLast_pin]))
      · rw [hnone h]
        exact hd.wrote .ok hv (by decide) (by decide)
  case pulseEnd =>
    have he : exec .busResetPulseEnd s = done (s.setLif { ((s.lif.seeDat .low).seeStb .low).endPulse with
        link := if s.OnBus then .seeking else .detached, idleTimer := 0, ownPulse := true }) := if_pos ⟨hrun, hlink⟩
    refine ⟨_, he.trans (done_eq _), ?_, ?_, ?_, ?_, ?_, ?_, (frame_setLif s _).only (by rfl)⟩
    case refine_6 =>
      rw [settle_lif, setLif_lif]
      exact ite_not _ _ _
    all_goals
      rw [settle_lif, setLif_lif]
      rfl
  case armed =>
    rcases busResetArmed_cases ⟨hrun, hdetects, harmed⟩ with ⟨hr, hf, hdet, he⟩ | ⟨hstay, he⟩
    · let v := s.setLif { s.lif.lowForArming with armed := true }.seek
      have hframe : Frame [.lif, .rnd, .slots, .pin, .log, .ntf, .hlt] s (v.abandon false) :=
        (frame_setLif s _).then (frame_abandon v false) (by simp) (by simp)
      have hlif : (v.abandon false).lif = { s.lif.lowForArming with armed := true }.seek := abandon_lif v false
      have hrecords : OnlyRecords [.withdrawn, .timeout] s (v.abandon false) :=
        (OnlyRecords.of_log rfl).trans (onlyRecords_abandon v)
      have hdisarms : OnlyDisarms s (v.abandon false) :=
        (OnlyDisarms.of_pin (t := v) rfl).trans (mild_abandon v false).disarms
      have hround : (v.abandon false).rnd.round = none := abandon_round v false
      refine ⟨_, he.trans (done_eq _), by rw [settle_lif, hlif]; rfl, fun _ _ _ => ⟨?_, ?_, ?_, ?_, ?_⟩, fun h => ?_,
        hrecords.trans (.of_log (settle_log _)), ?_, ?_, hdisarms.settle, hframe.only (by rfl)⟩
      iterate 4
        rw [settle_lif, hlif]
        rfl
      · rw [settle_rnd, hround]
      · exact (h.elim hr fun h => h.elim hf hdet).elim
      · rw [settle_mbr, hframe.mbr_eq rfl]
      · rw [settle_flg, hframe.flg_eq rfl]
    · have hframe : Frame [.lif] s (s.setLif { s.lif.lowForArming with armed := true }) := frame_setLif s _
      refine ⟨_, he.trans (done_eq _), by rw [settle_lif, setLif_lif], fun h₁ h₂ h₃ => ?_,
        fun _ => ⟨by rw [settle_lif, setLif_lif]; exact lowForArming_link _, hframe.only (by rfl)⟩, .of_log (settle_log _),
        by rw [settle_mbr, hframe.mbr_eq rfl], by rw [settle_flg, hframe.flg_eq rfl], .of_pin (settle_pin _),
        (hframe.mono (by simp)).only (by rfl)⟩
      exact (hstay.elim h₁ fun h => h.elim h₂ h₃).elim
  case disarmed =>
    have he : exec (.busResetDetectorDisarmed line) s = done (s.setLif (s.lif.disarmDetector line)) := if_pos ⟨hrun, harmed⟩
    obtain ⟨harm, hlink⟩ := disarmDetector_fields s.lif line
    exact ⟨_, he.trans (done_eq _), by rw [settle_lif, setLif_lif, harm], by rw [settle_lif, setLif_lif, hlink],
      (frame_setLif s _).only (by rfl)⟩

end Sys2Proof.Machine
end

section
/-! The end of a transfer, however it is handled (R165, R167), and the transfers that SLEEP and the internal reset ignore
(R174, R175). -/

namespace Sys2Proof.Machine

/-! ### Bytes clocked -/

theorem clockByte_clocked (s : State) (b : Byte) : Clocked s (s.clockByte b) :=
  (readyByte_clocked s).trans (endByte_clocked _ b)

theorem foldl_clockByte_clocked (l : List Byte) (s : State) : Clocked s (l.foldl State.clockByte s) :=
  foldl_keeps (Clocked s) _ (fun t b h => h.trans (clockByte_clocked t b)) l s (.refl s)

/-- Beginning a byte changes the byte on SDO alone of what the transfer has shifted. -/
theorem beginByte_transfer {s : State} {x : Transfer} (h : s.cmd.transfer = some x) :
    ∃ y, s.beginByte.cmd.transfer = some y ∧ y.sent = x.sent ∧ y.handling = x.handling ∧ y.received = x.received
      ∧ y.bits = x.bits ∧ y.mode = x.mode ∧ y.clocked = 0 := by
  unfold State.beginByte
  rw [h]
  dsimp only
  split
  · split
    · exact ⟨_, rfl, rfl, rfl, rfl, rfl, rfl, rfl⟩
    · exact ⟨_, rfl, rfl, rfl, rfl, rfl, rfl, rfl⟩
  · exact ⟨_, rfl, rfl, rfl, rfl, rfl, rfl, rfl⟩
  · exact ⟨_, rfl, rfl, rfl, rfl, rfl, rfl, rfl⟩

theorem readyByte_begun {s : State} {x : Transfer} (h : s.cmd.transfer = some x) (hc : x.clocked < 8) : s.readyByte = s := by
  unfold State.readyByte
  rw [h]
  exact if_pos hc

theorem readyByte_complete {s : State} {x : Transfer} (h : s.cmd.transfer = some x) (hc : ¬x.clocked < 8) :
    s.readyByte = s.beginByte := by
  unfold State.readyByte
  rw [h]
  exact if_neg hc

theorem readyByte_transfer {s : State} {x : Transfer} (h : s.cmd.transfer = some x) :
    ∃ y, s.readyByte.cmd.transfer = some y ∧ y.sent = x.sent ∧ y.handling = x.handling
      ∧ (x.clocked < 8 → y.out = x.out) := by
  by_cases hc : x.clocked < 8
  · rw [readyByte_begun h hc]
    exact ⟨x, h, rfl, rfl, fun _ => rfl⟩
  · rw [readyByte_complete h hc]
    obtain ⟨y, hy, hsent, hhandling, _⟩ := beginByte_transfer h
    exact ⟨y, hy, hsent, hhandling, fun hlt => absurd hlt hc⟩

theorem endByte_transfer {s : State} {x : Transfer} (h : s.cmd.transfer = some x) (b : Byte) :
    ∃ y, (s.endByte b).cmd.transfer = some y ∧ y.sent = x.sent ++ [x.out] ∧ y.handling = x.handling ∧ y.clocked = 8 := by
  unfold State.endByte
  rw [h]
  dsimp only
  split
  · split
    · exact ⟨_, rfl, rfl, rfl, rfl⟩
    · exact ⟨_, rfl, rfl, rfl, rfl⟩
  · exact ⟨_, rfl, rfl, rfl, rfl⟩
  · exact ⟨_, rfl, rfl, rfl, rfl⟩

/-- A byte clocked is shifted out in full, after what had begun before it. -/
theorem clockByte_transfer {s : State} {x : Transfer} (h : s.cmd.transfer = some x) (b : Byte) :
    ∃ y, (s.clockByte b).cmd.transfer = some y ∧ y.handling = x.handling ∧ y.clocked = 8
      ∧ y.sent.length = x.sent.length + 1 ∧ x.begun <+: y.sent := by
  obtain ⟨y, hy, hsent, hhandling, hout⟩ := readyByte_transfer h
  obtain ⟨z, hz, hsent', hhandling', hclocked⟩ := endByte_transfer hy b
  refine ⟨z, hz, hhandling'.trans hhandling, hclocked, by rw [hsent', hsent]; simp, ?_⟩
  rw [hsent', hsent]
  unfold Transfer.begun
  split
  · rw [hout ‹_›]
  · exact List.prefix_append _ _

theorem foldl_clockByte_transfer (l : List Byte) {s : State} {x : Transfer} (h : s.cmd.transfer = some x) :
    ∃ y, (l.foldl State.clockByte s).cmd.transfer = some y ∧ y.handling = x.handling
      ∧ y.sent.length = x.sent.length + l.length ∧ (l = [] → y = x) ∧ (l ≠ [] → x.begun <+: y.sent) := by
  induction l generalizing s x with
  | nil => exact ⟨x, h, rfl, rfl, fun _ => rfl, fun hn => absurd rfl hn⟩
  | cons b l ih =>
    obtain ⟨y, hy, hhandling, hclocked, hlength, hprefix⟩ := clockByte_transfer h b
    obtain ⟨z, hz, hhandling', hlength', hnil, hcons⟩ := ih hy
    refine ⟨z, hz, hhandling'.trans hhandling, by rw [hlength', hlength]; simp; omega, fun hn => (nomatch hn), fun _ => ?_⟩
    by_cases hl : l = []
    · rwa [hnil hl]
    · have hbegun : y.begun = y.sent := if_neg (by omega)
      exact hprefix.trans (hbegun ▸ hcons hl)

/-! ### CSN rises -/

/-- What the end of a transfer of `lead`, `n` bytes and bits off a byte boundary leaves, up to what its row does at the rise
of CSN. -/
structure Ended (h : Handling) (lead : List Byte) (n : Nat) (s a : State) : Prop where
  idle : a.cmd.transfer = none
  last : a.cmd.last = s.cmd.last
  next : a.log.next = s.log.next
  quiet : TscQuiet s a
  frame : Frame [.cmd, .log, .tsc] s a
  records : LogShortened s a
  unlogged : h ≠ .active ∨ (∃ opcode ops, lead = opcode :: ops ∧ opcode ≠ 0x06#8) ∨ lead ++ zeros n = [] → a.log = s.log

/-- The bytes that SDO has shifted out in full at the rise of CSN, what had begun before among them. -/
structure ShiftedOut (lead : List Byte) (n : Nat) (s a : State) : Prop where
  length : a.cmd.sdo.length = lead.length + n
  sdo : a.cmd.sdo.take s.shown.length = s.shown.take (lead.length + n)

theorem deselect_some {s : State} {x : Transfer} (h : s.cmd.transfer = some x) :
    s.deselect = s.setCmd { s.cmd with transfer := none, sdo := x.sent } := by
  unfold State.deselect
  rw [h]

/-- A transfer handled in ACTIVE alone can shift out a record. -/
theorem noRecord_inactive {s : State} {x : Transfer} (h : s.cmd.transfer = some x) (hh : x.handling ≠ .active) (l : List Byte) :
    NoRecord l s := fun y hy hact => by
  obtain rfl : x = y := Option.some.inj (h.symm.trans hy)
  exact absurd hact hh

/-- A transfer that ends within a byte of `n` bytes after `lead` has not shifted out more than these. -/
theorem agrees_sent_extra {x : Transfer} {lead : List Byte} {n extra : Nat} (hs : x.Sound) (he : extra < 8)
    (ha : x.agrees lead n extra = true) : x.sent.length ≤ lead.length + n := by
  cases hh : x.handling with
  | ignored =>
    simp only [Transfer.agrees, hh, decide_eq_true_eq] at ha
    omega
  | active | asleep =>
    simp only [Transfer.agrees, hh, Bool.and_eq_true, decide_eq_true_eq, Transfer.levels, List.length_append,
      flatMap_bitsOf_length] at ha
    obtain ⟨hlength, _⟩ := hs.taken (by simp [hh])
    omega

/-- How a transfer that the port has open ends. -/
theorem transfer_ended {h : Handling} {lead : List Byte} {n extra : Nat} {s : State} (hp : PortOpen h lead n extra s) :
    ∃ a, (∀ body, s.transfer lead n extra body = body h a) ∧ Ended h lead n s a
      ∧ (extra < 8 → ShiftedOut lead n s a) := by
  obtain ⟨x, hc, hsound, hh, ha, hshown, _⟩ := openTransfer_open hp
  have hopen := frame_openTransfer s .low
  have hquiet := openTransfer_quiet s .low
  have hx : (s.openTransfer .low).cmd.transfer = some x := by rw [hc]
  have hno : h ≠ .active ∨ (∃ opcode ops, lead = opcode :: ops ∧ opcode ≠ 0x06#8) ∨ lead ++ zeros n = [] →
      (((lead ++ zeros n).drop x.sent.length).foldl State.clockByte (s.openTransfer .low)).log = s.log := fun hcase => by
    have hlog : (s.openTransfer .low).log = s.log := hopen.log_eq rfl
    rcases hcase with hinactive | ⟨opcode, ops, rfl, h6⟩ | hnil
    · exact (foldl_clockByte_log _ (noRecord_inactive hx (hh ▸ hinactive) _)).trans hlog
    · exact (foldl_clockByte_log _ (openTransfer_noRecord hp.1 h6 hx ha)).trans hlog
    · rw [hnil, List.drop_nil]
      exact hlog
  have hwire : extra < 8 → x.sent.length + ((lead ++ zeros n).drop x.sent.length).length = lead.length + n := fun he => by
    have := agrees_sent_extra hsound he ha
    simp [zeros]
    omega
  have hbody : ∀ body, s.transfer lead n extra body = _ := fun body => by
    simp only [State.transfer, hx, ha, if_true, hh]
    rfl
  generalize (lead ++ zeros n).drop x.sent.length = wire at *
  have hclocked := foldl_clockByte_clocked wire (s.openTransfer .low)
  have hshort := foldl_clockByte_shortens wire (s.openTransfer .low)
  have hframe : Frame [.cmd, .log] (s.openTransfer .low) (wire.foldl State.clockByte (s.openTransfer .low)) :=
    foldl_keeps (Frame [.cmd, .log] (s.openTransfer .low)) _ (fun t i h => h.comp (frame_clockByte t i)) _ _ (.refl _ _)
  obtain ⟨y, hy, _, hlength, hnil, hcons⟩ := foldl_clockByte_transfer wire hx
  have hlast : (s.openTransfer .low).cmd.last = s.cmd.last := by rw [hc]
  generalize wire.foldl State.clockByte (s.openTransfer .low) = b at *
  refine ⟨(if extra = 0 then b else b.readyByte).deselect, hbody, ?_⟩
  have hready : ∃ z, (if extra = 0 then b else b.readyByte).cmd.transfer = some z ∧ z.sent = y.sent := by
    split
    · exact ⟨y, hy, rfl⟩
    · obtain ⟨z, hz, hsent, _⟩ := readyByte_transfer hy
      exact ⟨z, hz, hsent⟩
  have hafter : Frame [.cmd] b (if extra = 0 then b else b.readyByte) := .ite (.refl _ b) (frame_readyByte b)
  have hkept : Clocked b (if extra = 0 then b else b.readyByte) := by
    split
    · exact .refl b
    · exact readyByte_clocked b
  generalize (if extra = 0 then b else b.readyByte) = v at *
  obtain ⟨z, hz, hsent⟩ := hready
  rw [deselect_some hz]
  have hlog : v.log = b.log := hafter.log_eq rfl
  refine ⟨⟨rfl, ?_, ?_, ?_, ?_, ?_, fun hcase => hlog.trans (hno hcase)⟩, fun he => ⟨?_, ?_⟩⟩
  · exact hkept.last.trans (hclocked.last.trans hlast)
  · show v.log.next = _
    rw [hlog, hclocked.next, hopen.log_eq rfl]
  · exact hquiet.trans (.inl ((hafter.tsc_eq rfl).trans (hframe.tsc_eq rfl)))
  · exact (hopen.mono (by simp)).comp ((hframe.mono (by simp)).comp ((hafter.mono (by simp)).comp
      ((frame_setCmd v _).mono (by simp))))
  · exact (LogShortened.of_eq (hopen.log_eq rfl)).trans (hshort.trans (.of_eq hlog))
  · show z.sent.length = _
    rw [hsent, hlength, hwire he]
  · show z.sent.take _ = _
    have hlen : y.sent.length = lead.length + n := hlength.trans (hwire he)
    rw [hsent, hshown]
    by_cases hl : wire = []
    · rw [hnil hl] at hlen ⊢
      unfold Transfer.begun
      split
      · rw [← hlen, List.take_of_length_le (by simp), List.take_left' rfl]
      · rw [← hlen]
    · have hprefix := hcons hl
      rw [← List.prefix_iff_eq_take.mp hprefix, List.take_of_length_le (hlen ▸ hprefix.length_le)]

/-! ### The rows of the commands -/

theorem dataBytes_lt {c : Instr} {bytes : List Byte} (h : encodeCommand c = some bytes) : dataBytes c < bytes.length := by
  cases c with
  | readStatus n | readRoster n | readFlags n | readEvents n | readLog n | readStationConfig n | readPinConfig n
  | readSlot _ n | readSlotConfig _ n =>
    obtain rfl := Option.some.inj h
    simp [dataBytes]
  | join | leave | busReset | arrive | withdraw | clearSlot | setFlags | clearFlags | halt | resume | clearEvents | setMask
  | clearMask | writeStationConfig | writeSlotConfig | writePinConfig | sleep | wake | softReset =>
    obtain rfl := Option.some.inj h
    simp [dataBytes]
  | _ => cases h

theorem leadBytes_length {c : Instr} {bytes : List Byte} (h : encodeCommand c = some bytes) :
    (leadBytes c).length + dataBytes c = bytes.length ∧ leadBytes c ≠ [] := by
  have hlt := dataBytes_lt h
  have hlen : (leadBytes c).length = bytes.length - dataBytes c := by
    simp [leadBytes, h]
  refine ⟨by omega, fun hnil => ?_⟩
  rw [hnil, List.length_nil] at hlen
  omega

/-- A command does nothing at the end of a transfer that is ignored, and in SLEEP WAKE alone does (R174, R175). -/
theorem command_row {c : Instr} {bytes : List Byte} (h : encodeCommand c = some bytes) (s : State) :
    ∃ body : Handling → State → State, exec c s = done (s.transfer (leadBytes c) (dataBytes c) 0 body)
      ∧ (∀ t, body .ignored t = t) ∧ (c ≠ .wake → ∀ t, body .asleep t = t) := by
  cases c with
  | wake => exact ⟨wakeTaken, rfl, fun _ => rfl, fun hw => absurd rfl hw⟩
  | readStatus | readRoster | readFlags | readEvents | readLog | readStationConfig | readPinConfig | readSlot | readSlotConfig
  | join | leave | busReset | arrive | withdraw | clearSlot | setFlags | clearFlags | halt | resume | clearEvents | setMask
  | clearMask | writeStationConfig | writeSlotConfig | writePinConfig | sleep | softReset =>
    exact ⟨_, rfl, fun _ => rfl, fun _ _ => rfl⟩
  | _ => cases h

/-! ### Transfers that are not taken -/

theorem Deselected.over {s t : State} {data : List Byte} (h : Deselected s t data) : Shifted data s t.settle
    ∧ t.settle.cmd.last = s.cmd.last ∧ t.settle.cmd.snapshot = s.cmd.snapshot ∧ Only [.cmd] s t.settle := by
  obtain ⟨⟨hidle, hsdo⟩, hlast, hsnapshot, hquiet, hframe⟩ := h
  refine ⟨⟨?_, ?_⟩, ?_, ?_, hquiet.trans (settle_tsc t), hframe.then (frame_settle t) (by simp) (by simp)⟩
  all_goals rw [settle_cmd]
  · exact hidle
  · exact hsdo
  · exact hlast
  · exact hsnapshot

/-- A transfer that ends without being taken leaves the last outcome and changes the port alone. -/
theorem Ended.untaken {h : Handling} {lead : List Byte} {n : Nat} {s a : State} (he : Ended h lead n s a) (hh : h ≠ .active) :
    a.settle.cmd.transfer = none ∧ a.settle.cmd.last = s.cmd.last ∧ Only [.cmd] s a.settle := by
  have hframe : Frame [.cmd, .tsc] s a := fun b hb => by
    by_cases hlog : b = .log
    · subst hlog
      exact he.unlogged (.inl hh)
    · exact he.frame b (by simp_all)
  exact ⟨by rw [settle_cmd, he.idle], by rw [settle_cmd, he.last], he.quiet.trans (settle_tsc a),
    hframe.then (frame_settle a) (by simp) (by simp)⟩

theorem whenActive_untaken {h : Handling} (hh : h ≠ .active) (body : State → State × Code) (s : State) :
    whenActive body h s = s := by
  cases h with
  | active => exact absurd rfl hh
  | asleep | ignored => rfl

/-- Settles O14: commands in SLEEP and in ignored transfers, and the transfers that are no command there. -/
theorem sleepAndResetIgnoreCommands : Obligations.SleepAndResetIgnoreCommands := by
  refine ⟨fun c bytes s h hc hp => ?asleep, fun c bytes s h hp => ?ignored, fun h sdi extraBits s hh hp hj => ?discarded,
    fun h opcode n s hh hp hno => ?unknown⟩
  case asleep =>
    obtain ⟨body, he, _, hbody⟩ := command_row h s
    obtain ⟨hlen, hnil⟩ := leadBytes_length h
    obtain ⟨t, ht, hd⟩ := transfer_asleep hp hnil body
    rw [ht, hbody hc] at he
    rw [hlen] at hd
    exact ⟨_, he.trans (done_eq _), hd.over⟩
  case ignored =>
    obtain ⟨body, he, hbody, _⟩ := command_row h s
    obtain ⟨hlen, hnil⟩ := leadBytes_length h
    obtain ⟨t, ht, hd⟩ := transfer_ignored hp hnil body
    rw [ht, hbody] at he
    rw [hlen] at hd
    exact ⟨_, he.trans (done_eq _), hd.over⟩
  case discarded =>
    obtain ⟨a, ha, hended, _⟩ := transfer_ended hp
    have he : exec (.transferDiscarded sdi extraBits) s = done a := by
      show execTransferDiscarded sdi extraBits s = _
      unfold execTransferDiscarded
      rw [hj]
      exact congrArg done ((ha _).trans (whenActive_untaken hh _ a))
    exact ⟨_, he.trans (done_eq _), hended.untaken hh⟩
  case unknown =>
    obtain ⟨a, ha, hended, _⟩ := transfer_ended hp
    have he : exec (.unknownOpcode opcode n) s = done a := by
      show execUnknownOpcode opcode n s = _
      unfold execUnknownOpcode
      rw [hno]
      exact congrArg done ((ha _).trans (whenActive_untaken hh _ a))
    exact ⟨_, he.trans (done_eq _), hended.untaken hh⟩

end Sys2Proof.Machine
end

section
/-! The bytes of a transfer handled in ACTIVE: what SDO shifts out, byte by byte, where each byte still to begin is known as it
begins (R165, R170). -/

namespace Sys2Proof.Machine

/-! ### What a transfer has received -/

theorem flatMap_bitsOf_take (l : List Byte) (j : Nat) : (l.flatMap bitsOf).take (8 * j) = (l.take j).flatMap bitsOf := by
  induction l generalizing j with
  | nil => simp
  | cons b l ih =>
    cases j with
    | zero => simp
    | succ j =>
      have hj : 8 * (j + 1) = (bitsOf b).length + 8 * j := by rw [bitsOf_length]; omega
      rw [List.flatMap_cons, List.take_succ_cons, List.flatMap_cons, hj, List.take_length_add_append, ih]

theorem flatMap_bitsOf_injective {l m : List Byte} (h : l.flatMap bitsOf = m.flatMap bitsOf) : l = m := by
  induction l generalizing m with
  | nil =>
    cases m with
    | nil => rfl
    | cons b m =>
      have := congrArg List.length h
      simp [bitsOf_length] at this
      omega
  | cons a l ih =>
    cases m with
    | nil =>
      have := congrArg List.length h
      simp [bitsOf_length] at this
    | cons b m =>
      rw [List.flatMap_cons, List.flatMap_cons] at h
      obtain ⟨hbit, hrest⟩ := List.append_inj h (by rw [bitsOf_length, bitsOf_length])
      rw [bitsOf_injective hbit, ih hrest]

/-- What has been received agrees with the bytes that are examined. -/
theorem agrees_received {x : Transfer} {lead : List Byte} {n extra : Nat} (hh : x.handling = .active)
    (ha : x.agrees lead n extra = true) :
    x.received.take (min x.received.length lead.length) = lead.take (min x.received.length lead.length) := by
  simp only [Transfer.agrees, hh, Bool.and_eq_true, decide_eq_true_eq, beq_iff_eq] at ha
  generalize hj : min x.received.length lead.length = j
  have hlevels : 8 * j ≤ x.levels.length := by
    simp only [Transfer.levels, List.length_append, flatMap_bitsOf_length]
    omega
  have h := congrArg (List.take (8 * j)) ha.2
  rw [List.take_take, List.take_take, Nat.min_eq_left (by omega), Nat.min_eq_left hlevels, flatMap_bitsOf_take] at h
  refine flatMap_bitsOf_injective (h ▸ ?_)
  rw [Transfer.levels, List.take_append_of_le_length (by rw [flatMap_bitsOf_length]; omega), flatMap_bitsOf_take]

/-- The bytes that the transfer carries: those received, then those still to be clocked. -/
theorem carried {x : Transfer} {lead : List Byte} {n extra : Nat} (hs : x.Sound) (hh : x.handling = .active)
    (he : extra < 8) (ha : x.agrees lead n extra = true) : ∃ data : List Byte, data.length = n
      ∧ (lead ++ data).take x.sent.length = x.received
      ∧ (lead ++ data).drop x.sent.length = (lead ++ zeros n).drop x.sent.length := by
  obtain ⟨hlength, _⟩ := hs.taken (by simp [hh])
  have hle := agrees_sent_extra hs he ha
  have hreceived := agrees_received hh ha
  rw [← hlength] at hle ⊢
  rcases Nat.le_total x.received.length lead.length with hk | hk
  · rw [Nat.min_eq_left hk, List.take_length] at hreceived
    exact ⟨zeros n, by simp [zeros], by rw [List.take_append_of_le_length hk, ← hreceived], rfl⟩
  · rw [Nat.min_eq_right hk, List.take_length] at hreceived
    have hsplit : x.received = lead ++ x.received.drop lead.length :=
      (List.take_append_drop lead.length x.received).symm.trans (by rw [hreceived])
    have hall : lead ++ (x.received.drop lead.length ++ zeros (n - (x.received.length - lead.length)))
        = x.received ++ zeros (n - (x.received.length - lead.length)) := by rw [← List.append_assoc, ← hsplit]
    refine ⟨x.received.drop lead.length ++ zeros (n - (x.received.length - lead.length)), ?_, ?_, ?_⟩
    · simp [zeros]
      omega
    · rw [hall, List.take_left' rfl]
    · rw [hall, List.drop_left' rfl, List.drop_append, List.drop_of_length_le hk]
      simp [zeros]

/-! ### Byte by byte -/

/-- The transfer `y` in progress is handled in ACTIVE, and of the bytes `w` that it carries the first `k` are complete. -/
structure Carrying (w : List Byte) (k : Nat) (t : State) (y : Transfer) : Prop where
  transfer : t.cmd.transfer = some y
  active : y.handling = .active
  received : y.received = w.take k
  sent : y.sent.length = k

/-- What is known of the station as a transfer of the bytes `w` goes on: `I` between two bytes and `J` within one, and byte `k`
on SDO is `F k` if it begins there. -/
structure Stream (w : List Byte) (F : Nat → Byte) (I J : Nat → State → Prop) : Prop where
  begins : ∀ k t y, 1 ≤ k → k < w.length → Carrying w k t y → I k t →
    ∃ z, t.beginByte.cmd.transfer = some z ∧ z.out = F k ∧ J k t.beginByte
  ends : ∀ k t y (hk : k < w.length), Carrying w k t y → J k t → I (k + 1) (t.endByte w[k])

theorem begun_complete {y : Transfer} (hc : ¬y.clocked < 8) : y.begun = y.sent := if_neg hc

theorem Carrying.beginByte {w : List Byte} {k : Nat} {t : State} {y : Transfer} (h : Carrying w k t y) :
    ∃ z, Carrying w k t.beginByte z ∧ z.sent = y.sent ∧ z.clocked = 0 := by
  obtain ⟨z, hz, hsent, hhandling, hreceived, _, _, hclocked⟩ := beginByte_transfer h.transfer
  exact ⟨z, ⟨hz, hhandling.trans h.active, hreceived.trans h.received, by rw [hsent, h.sent]⟩, hsent, hclocked⟩

theorem Carrying.endByte {w : List Byte} {k : Nat} {t : State} {y : Transfer} (h : Carrying w k t y) (hk : k < w.length) :
    ∃ z, Carrying w (k + 1) (t.endByte w[k]) z ∧ z.sent = y.sent ++ [y.out] ∧ z.clocked = 8 := by
  have htake : y.received ++ [w[k]] = w.take (k + 1) := by rw [h.received, List.take_append_getElem hk]
  have hlen : (y.sent ++ [y.out]).length = k + 1 := by rw [List.length_append, h.sent]; rfl
  unfold State.endByte
  rw [h.transfer]
  dsimp only
  rw [h.active]
  dsimp only
  split
  · exact ⟨_, ⟨rfl, h.active, htake, hlen⟩, rfl, rfl⟩
  · exact ⟨_, ⟨rfl, h.active, htake, hlen⟩, rfl, rfl⟩

section Streaming

variable {w : List Byte} {F : Nat → Byte} {I J : Nat → State → Prop}

/-- A byte that has begun is completed. -/
theorem Stream.clock_begun (hs : Stream w F I J) {k : Nat} {t : State} {y : Transfer} (h : Carrying w k t y) (hk : k < w.length)
    (hc : y.clocked < 8) (hJ : J k t) :
    ∃ z, Carrying w (k + 1) (t.clockByte w[k]) z ∧ z.clocked = 8 ∧ z.sent = y.begun ∧ I (k + 1) (t.clockByte w[k]) := by
  obtain ⟨z, hz, hsent, hclocked⟩ := h.endByte hk
  rw [State.clockByte, readyByte_begun h.transfer hc]
  exact ⟨z, hz, hclocked, hsent.trans (if_pos hc).symm, hs.ends k t y hk h hJ⟩

/-- A byte that has not begun is begun and completed. -/
theorem Stream.clock_fresh (hs : Stream w F I J) {k : Nat} {t : State} {y : Transfer} (h : Carrying w k t y) (hk : k < w.length)
    (h1 : 1 ≤ k) (hc : ¬y.clocked < 8) (hI : I k t) :
    ∃ z, Carrying w (k + 1) (t.clockByte w[k]) z ∧ z.clocked = 8 ∧ z.sent = y.sent ++ [F k]
      ∧ I (k + 1) (t.clockByte w[k]) := by
  obtain ⟨z, hz, hout, hJ⟩ := hs.begins k t y h1 hk h hI
  obtain ⟨z', hz', hsent', hclocked'⟩ := h.beginByte
  obtain rfl : z = z' := Option.some.inj (hz.symm.trans hz'.transfer)
  obtain ⟨v, hv, hsent, hclocked⟩ := hz'.endByte hk
  rw [State.clockByte, readyByte_complete h.transfer hc]
  exact ⟨v, hv, hclocked, by rw [hsent, hsent', hout], hs.ends k _ z hk hz' hJ⟩

/-- From between two bytes on, all the bytes that remain. -/
theorem Stream.foldl (hs : Stream w F I J) (d : Nat) {k : Nat} {t : State} {y : Transfer} (h : Carrying w k t y)
    (hd : k + d = w.length) (h1 : 1 ≤ k) (hc : ¬y.clocked < 8) (hI : I k t) :
    ∃ z, Carrying w w.length ((w.drop k).foldl State.clockByte t) z ∧ z.sent = y.sent ++ (List.range' k d).map F
      ∧ I w.length ((w.drop k).foldl State.clockByte t) := by
  induction d generalizing k t y with
  | zero =>
    obtain rfl : k = w.length := hd
    rw [List.drop_length]
    exact ⟨y, h, (List.append_nil _).symm, hI⟩
  | succ d ih =>
    have hk : k < w.length := by omega
    obtain ⟨z, hz, hclocked, hsent, hI'⟩ := hs.clock_fresh h hk h1 hc hI
    obtain ⟨v, hv, hsent', hlast⟩ := ih hz (by omega) (by omega) (by omega) hI'
    rw [List.drop_eq_getElem_cons hk, List.foldl_cons]
    refine ⟨v, hv, ?_, hlast⟩
    rw [hsent', hsent, List.range'_succ, List.map_cons, List.append_assoc]
    rfl

/-- From wherever the transfer stands, all the bytes that remain: SDO shifts what had begun and then `F`. -/
theorem Stream.run (hs : Stream w F I J) {k : Nat} {t : State} {y : Transfer} (h : Carrying w k t y) (hk : k ≤ w.length)
    (hJ : y.clocked < 8 → J k t) (hI : ¬y.clocked < 8 → 1 ≤ k ∧ I k t) :
    ∃ z, Carrying w w.length ((w.drop k).foldl State.clockByte t) z
      ∧ z.sent = (y.begun ++ ((List.range' 1 (w.length - 1)).map F).drop (y.begun.length - 1)).take w.length
      ∧ (I w.length ((w.drop k).foldl State.clockByte t)
        ∨ k = w.length ∧ y.clocked < 8 ∧ (w.drop k).foldl State.clockByte t = t) := by
  have hrest : ∀ m, 1 ≤ m → m ≤ w.length →
      ((List.range' 1 (w.length - 1)).map F).drop (m - 1) = (List.range' m (w.length - m)).map F := fun m h1 hm => by
    rw [← List.map_drop, List.drop_range']
    congr 2 <;> omega
  by_cases hc : y.clocked < 8
  · have hbegun : y.begun = y.sent ++ [y.out] := if_pos hc
    have hlen : y.begun.length = k + 1 := by rw [hbegun, List.length_append, h.sent]; rfl
    rcases Nat.lt_or_ge k w.length with hlt | hge
    · obtain ⟨z, hz, hclocked, hsent, hI'⟩ := hs.clock_begun h hlt hc (hJ hc)
      obtain ⟨v, hv, hsent', hlast⟩ := hs.foldl (w.length - (k + 1)) hz (by omega) (by omega) (by omega) hI'
      rw [List.drop_eq_getElem_cons hlt, List.foldl_cons]
      refine ⟨v, hv, ?_, .inl hlast⟩
      rw [hsent', hsent, hlen, hrest (k + 1) (by omega) (by omega), List.take_of_length_le]
      rw [List.length_append, List.length_map, List.length_range', hlen]
      omega
    · obtain rfl : k = w.length := Nat.le_antisymm hk hge
      rw [List.drop_length]
      refine ⟨y, h, ?_, .inr ⟨rfl, hc, rfl⟩⟩
      rw [hbegun, List.append_assoc, List.take_left' h.sent]
  · obtain ⟨h1, hI⟩ := hI hc
    obtain ⟨v, hv, hsent, hlast⟩ := hs.foldl (w.length - k) h (by omega) h1 hc hI
    refine ⟨v, hv, ?_, .inl hlast⟩
    rw [hsent, begun_complete hc, h.sent, hrest k h1 hk, List.take_of_length_le]
    rw [List.length_append, List.length_map, List.length_range', h.sent]
    omega

end Streaming

end Sys2Proof.Machine
end

section
/-! Reads (R157, R170, R171): the snapshot taken as its first byte begins, and the row that ends such a transfer. -/

namespace Sys2Proof.Machine

/-! ### A transfer streamed to its end -/

theorem agrees_open {lead : List Byte} {n extra : Nat} {s : State} (hp : PortOpen .active lead n extra s) (he : extra < 8) :
    ∃ x data, (s.openTransfer .low).cmd.transfer = some x ∧ x.Sound ∧ data.length = n
      ∧ x.sent.length ≤ (lead ++ data).length ∧ Carrying (lead ++ data) x.sent.length (s.openTransfer .low) x
      ∧ s.shown = x.begun ∧ x.record = s.shiftsRecord
      ∧ ∀ body, s.transfer lead n extra body = body .active
          (if extra = 0 then ((lead ++ data).drop x.sent.length).foldl State.clockByte (s.openTransfer .low)
            else (((lead ++ data).drop x.sent.length).foldl State.clockByte (s.openTransfer .low)).readyByte).deselect := by
  obtain ⟨x, hc, hsound, hh, ha, hshown, hrecord⟩ := openTransfer_open hp
  have hx : (s.openTransfer .low).cmd.transfer = some x := by rw [hc]
  obtain ⟨data, hlen, htake, hdrop⟩ := carried hsound hh he ha
  have hle := agrees_sent_extra hsound he ha
  refine ⟨x, data, hx, hsound, hlen, by rwa [List.length_append, hlen], ⟨hx, hh, htake.symm, rfl⟩, hshown, hrecord, fun body => ?_⟩
  simp only [State.transfer, hx, ha, if_true, hh, hdrop]

/-- How a transfer taken in ACTIVE ends whose bytes are known as they begin. -/
theorem transfer_streamed {lead : List Byte} {n extra : Nat} {s : State} {F : Nat → Byte} {I J : Nat → State → Prop}
    (hp : PortOpen .active lead n extra s) (he : extra < 8)
    (hs : ∀ data : List Byte, data.length = n → Stream (lead ++ data) F I J)
    (hJ : ∀ x, (s.openTransfer .low).cmd.transfer = some x → s.shown.length = x.sent.length + 1 → x.record = s.shiftsRecord →
      x.Sound → x.received.length = x.sent.length → J x.sent.length (s.openTransfer .low))
    (hI : ∀ x, (s.openTransfer .low).cmd.transfer = some x → s.shown.length = x.sent.length → x.record = s.shiftsRecord →
      x.Sound → x.received.length = x.sent.length → x.clocked = 8 → I x.sent.length (s.openTransfer .low)) :
    ∃ a b, (∀ body, s.transfer lead n extra body = body .active a) ∧ Ended .active lead n s a
      ∧ a.cmd.sdo = (s.shown ++ ((List.range' 1 (lead.length + n - 1)).map F).drop (s.shown.length - 1)).take (lead.length + n)
      ∧ a.log = b.log
      ∧ (I (lead.length + n) b ∨ s.shown.length = lead.length + n + 1 ∧ b = s.openTransfer .low) := by
  obtain ⟨x, data, hx, hsound, hlen, hle, hcarry, hshown, hrecord, hbody⟩ := agrees_open hp he
  obtain ⟨hreceived, _⟩ := hsound.taken (by simp [hcarry.active])
  have hlong : (lead ++ data).length = lead.length + n := by rw [List.length_append, hlen]
  have hbegunLt : x.clocked < 8 → s.shown.length = x.sent.length + 1 := fun hc => by
    rw [hshown, Transfer.begun, if_pos hc, List.length_append]
    rfl
  have hbegunEq : ¬x.clocked < 8 → s.shown.length = x.sent.length := fun hc => by rw [hshown, begun_complete hc]
  obtain ⟨z, hz, hsent, hlast⟩ := (hs data hlen).run hcarry hle
    (fun hc => hJ x hx (hbegunLt hc) hrecord hsound hreceived) (fun hc => by
      have h8 : x.clocked = 8 := Nat.le_antisymm hsound.clocked.1 (by omega)
      exact ⟨List.length_pos_of_ne_nil (hsound.clocked.2 h8), hI x hx (hbegunEq hc) hrecord hsound hreceived h8⟩)
  obtain ⟨a, ha, hended, _⟩ := transfer_ended hp
  generalize ((lead ++ data).drop x.sent.length).foldl State.clockByte (s.openTransfer .low) = b at *
  have hab : a = (if extra = 0 then b else b.readyByte).deselect := (ha fun _ t => t).symm.trans (hbody fun _ t => t)
  have hready : ∃ v, (if extra = 0 then b else b.readyByte).cmd.transfer = some v ∧ v.sent = z.sent := by
    split
    · exact ⟨z, hz.transfer, rfl⟩
    · obtain ⟨v, hv, hvs, _⟩ := readyByte_transfer hz.transfer
      exact ⟨v, hv, hvs⟩
  have hlog : (if extra = 0 then b else b.readyByte).log = b.log := by
    split
    · rfl
    · exact (frame_readyByte b).log_eq rfl
  obtain ⟨v, hv, hvs⟩ := hready
  rw [deselect_some hv] at hab
  refine ⟨a, b, ha, hended, ?_, by rw [hab]; exact hlog, ?_⟩
  · rw [hab, hshown, ← hlong]
    exact hvs.trans hsent
  · rw [← hlong]
    refine hlast.imp id fun ⟨hk, hc, hb⟩ => ⟨by rw [hbegunLt hc, hk], hb⟩

/-! ### Snapshots -/

theorem beginByte_data {s : State} {x : Transfer} {place : Nat} {fresh : List Byte} (hx : s.cmd.transfer = some x)
    (hh : x.handling = .active) (hd : dataFor s x.received = some (place, fresh)) :
    s.beginByte = s.setCmd { s.cmd with
      snapshot := if place = 0 then fresh else s.cmd.snapshot
      transfer := some { x.start ((if place = 0 then fresh else s.cmd.snapshot).getD place 0#8) with
        record := if place = 0 then readsLog x.received && !s.log.records.isEmpty else x.record } } := by
  unfold State.beginByte
  rw [hx]
  dsimp only
  rw [hh]
  dsimp only
  rw [hd]

theorem beginByte_operand {s : State} {x : Transfer} (hx : s.cmd.transfer = some x) (hh : x.handling = .active)
    (hd : dataFor s x.received = none) : s.beginByte = s.setTransfer (some (x.start 0#8)) := by
  unfold State.beginByte
  rw [hx]
  dsimp only
  rw [hh]
  dsimp only
  rw [hd]

theorem endByte_snapshot (s : State) (b : Byte) : (s.endByte b).cmd.snapshot = s.cmd.snapshot := by
  unfold State.endByte
  split
  · rfl
  · split
    · dsimp only
      split
      · rfl
      · rfl
    · rfl
    · rfl

/-- The units of a read: byte `j` of its data is at `place j` of a snapshot, which is taken as its place 0 begins. -/
structure Units (place : Nat → Nat) : Prop where
  zero : place 0 = 0
  succ : ∀ j, place (j + 1) = 0 ∨ place (j + 1) = place j + 1

/-- The snapshot that holds byte `j` of the data: the one in the buffer where its first byte has begun before the row. -/
def copyAt (s : State) (lead : Nat) (place : Nat → Nat) (fresh : Nat → List Byte) (j : Nat) : List Byte :=
  if lead + (j - place j) < s.shown.length then s.cmd.snapshot else fresh (j - place j)

/-- Byte `k` of the transfer: 0x00 for the operands, then the data. -/
def byteAt (s : State) (lead : Nat) (place : Nat → Nat) (fresh : Nat → List Byte) (k : Nat) : Byte :=
  if k < lead then 0#8 else (copyAt s lead place fresh (k - lead)).getD (place (k - lead)) 0#8

theorem copyAt_within {place : Nat → Nat} {j : Nat} (hj : place (j + 1) = place j + 1) (s : State) (lead : Nat)
    (fresh : Nat → List Byte) : copyAt s lead place fresh (j + 1) = copyAt s lead place fresh j := by
  have : j + 1 - place (j + 1) = j - place j := by omega
  rw [copyAt, copyAt, this]

theorem copyAt_first {place : Nat → Nat} {j : Nat} (hj : place j = 0) {s : State} {lead : Nat}
    (h : s.shown.length ≤ lead + j) (fresh : Nat → List Byte) : copyAt s lead place fresh j = fresh j := by
  rw [copyAt, hj, Nat.sub_zero, if_neg (by omega)]

theorem copyAt_begun {s : State} {lead j : Nat} (h : lead + j < s.shown.length) (place : Nat → Nat)
    (fresh : Nat → List Byte) : copyAt s lead place fresh j = s.cmd.snapshot := by
  rw [copyAt, if_pos (by omega)]

/-- What a read keeps to as its bytes are clocked, besides its snapshots: `K` between two bytes and `K'` within one. -/
structure Reads (w : List Byte) (lead : Nat) (place : Nat → Nat) (fresh : Nat → List Byte) (K K' : Nat → State → Prop) :
    Prop where
  operand : ∀ k t y, 1 ≤ k → k < lead → Carrying w k t y → dataFor t y.received = none
  data : ∀ j t y, lead + j < w.length → Carrying w (lead + j) t y → K (lead + j) t →
    ∃ f, dataFor t y.received = some (place j, f) ∧ (place j = 0 → f = fresh j)
  begins : ∀ k t y, 1 ≤ k → k < w.length → Carrying w k t y → K k t → K' k t.beginByte
  ends : ∀ k t y (hk : k < w.length), Carrying w k t y → K' k t → K (k + 1) (t.endByte w[k])

/-- The bytes of a read stream, each unit from its snapshot. -/
theorem Reads.stream {s : State} {w : List Byte} {lead : Nat} {place : Nat → Nat} {fresh : Nat → List Byte}
    {K K' : Nat → State → Prop} (h : Reads w lead place fresh K K') (hu : Units place) :
    Stream w (byteAt s lead place fresh)
      (fun k t => K k t ∧ (∀ j, k = lead + j + 1 → t.cmd.snapshot = copyAt s lead place fresh j) ∧ s.shown.length ≤ k)
      (fun k t => K' k t ∧ (∀ j, k = lead + j → t.cmd.snapshot = copyAt s lead place fresh j) ∧ s.shown.length ≤ k + 1) where
  begins := fun k t y h1 hk hy ⟨hK, hcopy, hshown⟩ => by
    have hK' := h.begins k t y h1 hk hy hK
    by_cases hl : k < lead
    · rw [beginByte_operand hy.transfer hy.active (h.operand k t y h1 hl hy)] at hK' ⊢
      exact ⟨_, rfl, (if_pos hl).symm, hK', fun j hj => by omega, by omega⟩
    · obtain ⟨j, rfl⟩ := Nat.exists_eq_add_of_le (Nat.le_of_not_lt hl)
      obtain ⟨f, hd, hf⟩ := h.data j t y hk hy hK
      have hsnapshot : (if place j = 0 then f else t.cmd.snapshot) = copyAt s lead place fresh j := by
        split
        · rename_i hp
          rw [hf hp, copyAt_first hp hshown]
        · rename_i hp
          obtain _ | i := j
          · exact absurd hu.zero hp
          · rw [hcopy i rfl, copyAt_within ((hu.succ i).resolve_left hp)]
      rw [beginByte_data hy.transfer hy.active hd, hsnapshot] at hK' ⊢
      refine ⟨_, rfl, ?_, hK', fun i hi => ?_, by omega⟩
      · rw [byteAt, if_neg hl, Nat.add_sub_cancel_left]
        rfl
      · obtain rfl : j = i := by omega
        rfl
  ends := fun k t y hk hy ⟨hK', hcopy, hshown⟩ =>
    ⟨h.ends k t y hk hy hK', fun j hj => by rw [endByte_snapshot]; exact hcopy j (by omega), hshown⟩

end Sys2Proof.Machine
end

section
/-! Reads that shift out no record: what the port leaves alone as their bytes are clocked, and the reads without operand (R168,
R170). -/

namespace Sys2Proof.Machine

/-- The station `t` of a transfer that shifts out no record: port and auto-sleep timer aside it is `s`. -/
structure Shifting (s t : State) : Prop where
  frame : Frame [.cmd, .tsc] s t
  quiet : TscQuiet s t
  record : ∀ x, t.cmd.transfer = some x → x.handling = .active → x.record = false

theorem Shifting.same {s t : State} (h : Shifting s t) :
    ∃ cmd auto, t = (s.setCmd cmd).setTsc { s.tsc with autoSleep := auto } := by
  have hf := h.frame
  obtain ⟨auto, htsc⟩ : ∃ auto, t.tsc = { s.tsc with autoSleep := auto } := by
    rcases h.quiet with hq | hq
    · exact ⟨s.tsc.autoSleep, hq⟩
    · exact ⟨0, hq⟩
  refine ⟨t.cmd, auto, ?_⟩
  obtain ⟨cfg, lif, rnd, mbr, slots, flg, hlt, pin, log, ntf, cmd, tsc, bus, spi, pending⟩ := t
  obtain rfl := hf.cfg_eq rfl
  obtain rfl := hf.lif_eq rfl
  obtain rfl := hf.rnd_eq rfl
  obtain rfl := hf.mbr_eq rfl
  obtain rfl := hf.slots_eq rfl
  obtain rfl := hf.flg_eq rfl
  obtain rfl := hf.hlt_eq rfl
  obtain rfl := hf.pin_eq rfl
  obtain rfl := hf.log_eq rfl
  obtain rfl := hf.ntf_eq rfl
  obtain rfl := hf.bus_eq rfl
  obtain rfl := hf.spi_eq rfl
  obtain rfl := hf.pending_eq rfl
  obtain rfl : tsc = _ := htsc
  rfl

theorem shifting_open {opcode : Byte} {ops : List Byte} {n extra : Nat} {s : State}
    (hp : PortOpen .active (opcode :: ops) n extra s) (h6 : opcode ≠ 0x06#8) : Shifting s (s.openTransfer .low) where
  frame := (frame_openTransfer s .low).mono (by simp)
  quiet := openTransfer_quiet s .low
  record := fun x hx hact => by
    obtain ⟨y, hc, _, _, ha, _⟩ := openTransfer_open hp
    have hy : (s.openTransfer .low).cmd.transfer = some y := by rw [hc]
    obtain rfl : y = x := Option.some.inj (hy.symm.trans hx)
    exact (openTransfer_noRecord hp.1 h6 hx ha y hx hact).1

/-- The bytes received and the next one begin with the opcode. -/
theorem Carrying.noRecord {opcode : Byte} {w : List Byte} {k : Nat} {s t : State} {y : Transfer} (h : Carrying (opcode :: w) k t y)
    (h6 : opcode ≠ 0x06#8) (hs : Shifting s t) {l : List Byte} (hl : k = 0 → l.head? ≠ some 0x06#8) : NoRecord l t :=
  fun x hx hact => by
    obtain rfl : y = x := Option.some.inj (h.transfer.symm.trans hx)
    refine ⟨hs.record y hx hact, ?_⟩
    rw [h.received]
    cases k with
    | zero => exact hl rfl
    | succ k => simpa using h6

theorem Shifting.beginByte {opcode : Byte} {w : List Byte} {k : Nat} {s t : State} {y : Transfer} (hs : Shifting s t)
    (h : Carrying (opcode :: w) k t y) (h1 : 1 ≤ k) (h6 : opcode ≠ 0x06#8) : Shifting s t.beginByte where
  frame := hs.frame.comp ((frame_beginByte t).mono (by simp))
  quiet := hs.quiet.trans (.inl ((frame_beginByte t).tsc_eq rfl))
  record := fun x hx hact => (beginByte_noRecord (h.noRecord h6 hs (l := []) (by omega)) x hx hact).1

theorem Shifting.endByte {opcode : Byte} {w : List Byte} {k : Nat} {s t : State} {y : Transfer} (hs : Shifting s t)
    (h : Carrying (opcode :: w) k t y) (hk : k < (opcode :: w).length) (h6 : opcode ≠ 0x06#8) :
    Shifting s (t.endByte (opcode :: w)[k]) := by
  have hno : NoRecord [(opcode :: w)[k]] t := h.noRecord h6 hs fun h0 => by
    subst h0
    simpa using h6
  obtain ⟨hrecord, hlog⟩ := endByte_noRecord hno
  have hframe : Frame [.cmd, .tsc] s (t.endByte (opcode :: w)[k]) := fun b hb => by
    by_cases hbl : b = .log
    · subst hbl
      exact hlog.trans (hs.frame.log_eq rfl)
    · exact (hs.frame.then (c := [.cmd, .tsc, .log]) (frame_endByte t _) (by simp) (by simp)) b (by simp_all)
  exact ⟨hframe, hs.quiet.trans (.inl ((frame_endByte t _).tsc_eq rfl)), fun x hx hact => (hrecord x hx hact).1⟩

theorem openTransfer_snapshot (s : State) (sck : Level) : (s.openTransfer sck).cmd.snapshot = s.cmd.snapshot := by
  cases hx : s.cmd.transfer with
  | some x => rw [openTransfer_of_some hx]
  | none => rw [openTransfer_cmd hx]

/-! ### The row of a read -/

/-- The data of a read after the operands, unit by unit. -/
def unitBytes (s : State) (lead n : Nat) (place : Nat → Nat) (fresh : Nat → List Byte) : List Byte :=
  (List.range n).map fun j => (copyAt s lead place fresh j).getD (place j) 0#8

theorem unitBytes_length (s : State) (lead n : Nat) (place : Nat → Nat) (fresh : Nat → List Byte) :
    (unitBytes s lead n place fresh).length = n := by simp [unitBytes]

theorem unitBytes_get {j n : Nat} (hj : j < n) (s : State) (lead : Nat) (place : Nat → Nat) (fresh : Nat → List Byte) :
    (unitBytes s lead n place fresh)[j]? = some ((copyAt s lead place fresh j).getD (place j) 0#8) := by
  simp [unitBytes, hj]

theorem byteAt_range {lead : Nat} (h : 1 ≤ lead) (s : State) (n : Nat) (place : Nat → Nat) (fresh : Nat → List Byte) :
    (List.range' 1 (lead + n - 1)).map (byteAt s lead place fresh) = zeros (lead - 1) ++ unitBytes s lead n place fresh := by
  have hsplit : lead + n - 1 = lead - 1 + n := by omega
  have hlead : 1 + 1 * (lead - 1) = lead := by omega
  rw [hsplit, ← List.range'_append, List.map_append, hlead]
  congr 1
  · refine List.eq_replicate_iff.mpr ⟨by simp, fun b hb => ?_⟩
    obtain ⟨k, hk, rfl⟩ := List.mem_map.mp hb
    obtain ⟨i, hi, rfl⟩ := List.mem_range'.mp hk
    exact if_pos (by omega)
  · rw [List.range'_eq_map_range, List.map_map, unitBytes]
    refine List.map_congr_left fun j _ => ?_
    have hsub : lead + j - lead = j := by omega
    have hnot : ¬lead + j < lead := by omega
    simp only [Function.comp_apply, byteAt, if_neg hnot, hsub]

/-- A transfer of ACTIVE that shifts out no record, each byte still to begin being known. -/
theorem transfer_read {opcode : Byte} {ops : List Byte} {n : Nat} {s : State} {place : Nat → Nat} {fresh : Nat → List Byte}
    (hp : PortOpen .active (opcode :: ops) n 0 s) (h6 : opcode ≠ 0x06#8) (hu : Units place)
    (hoperand : ∀ t data k, 1 ≤ k → k < (opcode :: ops).length → dataFor t ((opcode :: ops ++ data).take k) = none)
    (hdata : ∀ t (data : List Byte) j, Shifting s t → j < n → data.length = j →
      ∃ f, dataFor t (opcode :: ops ++ data) = some (place j, f) ∧ (place j = 0 → f = fresh j)) :
    ∃ a, (∀ body, s.transfer (opcode :: ops) n 0 body = body .active a) ∧ Ended .active (opcode :: ops) n s a
      ∧ Shifted (zeros ops.length ++ unitBytes s (ops.length + 1) n place fresh) s a := by
  have hreads : ∀ data : List Byte, data.length = n → Reads (opcode :: ops ++ data) (opcode :: ops).length place fresh
      (fun _ => Shifting s) (fun _ => Shifting s) := fun data hlen =>
    { operand := fun k t y h1 hk hy => by
        rw [hy.received]
        exact hoperand t data k h1 hk
      data := fun j t y hj hy hs => by
        have hj : j < n := by
          rw [List.length_append, hlen] at hj
          omega
        have htake : y.received = opcode :: ops ++ data.take j := by rw [hy.received, List.take_length_add_append]
        rw [htake]
        exact hdata t (data.take j) j hs hj (by rw [List.length_take, hlen]; omega)
      begins := fun k t y h1 _ hy hs => hs.beginByte hy h1 h6
      ends := fun k t y hk hy hs => hs.endByte hy hk h6 }
  have hcopy : ∀ j, (opcode :: ops).length + j < s.shown.length →
      (s.openTransfer .low).cmd.snapshot = copyAt s (opcode :: ops).length place fresh j := fun j hj => by
    rw [copyAt_begun hj]
    exact openTransfer_snapshot s .low
  obtain ⟨a, b, ha, hended, hsdo, _⟩ := transfer_streamed hp (by decide) (fun data hlen => (hreads data hlen).stream (s := s) hu)
    (fun x hx hshown _ _ _ => ⟨shifting_open hp h6, fun j hj => hcopy j (by omega), by omega⟩)
    (fun x hx hshown _ _ _ _ => ⟨shifting_open hp h6, fun j hj => hcopy j (by omega), by omega⟩)
  refine ⟨a, ha, hended, hended.idle, ?_⟩
  rw [hsdo, byteAt_range (by simp)]
  simp only [List.length_cons, List.length_append, unitBytes_length, zeros, List.length_replicate, Nat.add_sub_cancel]
  congr 1
  omega

/-- A read taken in ACTIVE records its outcome and changes the port alone. -/
theorem read_answers {c : Instr} {opcode : Byte} {ops : List Byte} {n : Nat} {s : State} {code : Code} {place : Nat → Nat}
    {fresh : Nat → List Byte} (hexec : exec c s = done (s.command c (refuse code))) (hlead : leadBytes c = opcode :: ops)
    (hbytes : dataBytes c = n) (hp : PortActive c s) (h6 : opcode ≠ 0x06#8) (hu : Units place)
    (hoperand : ∀ t data k, 1 ≤ k → k < (opcode :: ops).length → dataFor t ((opcode :: ops ++ data).take k) = none)
    (hdata : ∀ t (data : List Byte) j, Shifting s t → j < n → data.length = j →
      ∃ f, dataFor t (opcode :: ops ++ data) = some (place j, f) ∧ (place j = 0 → f = fresh j)) :
    ∃ t, exec c s = .next t ∧ Answered code (zeros ops.length ++ unitBytes s (ops.length + 1) n place fresh) s t
      ∧ TscQuiet s t ∧ Frame [.cmd, .tsc] s t := by
  obtain ⟨_, hopen⟩ := hp
  rw [hlead, hbytes] at hopen
  obtain ⟨a, ha, hended, hidle, hsdo⟩ := transfer_read hopen h6 hu hoperand hdata
  have he : exec c s = done (a.setLast code) := by
    rw [hexec, State.command, hlead, hbytes, ha]
    rfl
  have hframe : Frame [.cmd, .tsc] s a := fun b hb => by
    by_cases hlog : b = .log
    · subst hlog
      exact hended.unlogged (.inr (.inl ⟨opcode, ops, rfl, h6⟩))
    · exact hended.frame b (by simp_all)
  refine ⟨_, he.trans (done_eq _), ⟨⟨?_, ?_⟩, ?_⟩, (hended.quiet.trans (.inl rfl)).trans (settle_tsc _), ?_⟩
  · rw [settle_cmd]
    exact hidle
  · rw [settle_cmd]
    exact hsdo
  · rw [settle_cmd]
    rfl
  · exact (hframe.comp ((frame_setLast a code).mono (by simp))).comp ((frame_settle _).mono (by simp))

/-! ### Reads without operand -/

/-- A read without operand: byte `j` of its data is byte `j` of its one snapshot. -/
theorem fixed_read {c : Instr} {opcode : Byte} {n : Nat} {s : State} {fresh : List Byte}
    (hexec : exec c s = done (s.command c (refuse .ok))) (hlead : leadBytes c = [opcode]) (hbytes : dataBytes c = n)
    (hp : PortActive c s) (h6 : opcode ≠ 0x06#8)
    (hdata : ∀ t (data : List Byte), ∃ f, dataFor t (opcode :: data) = some (data.length, f) ∧ (Shifting s t → f = fresh)) :
    ∃ data t, exec c s = .next t ∧ Prefixed (s.copyOf fresh) n data ∧ ReadOut data s t := by
  obtain ⟨t, he, hanswer, hquiet, hframe⟩ := read_answers (ops := []) (place := id) (fresh := fun _ => fresh) hexec hlead hbytes hp h6
    ⟨rfl, fun _ => .inr rfl⟩ (fun _ _ k h1 hk => absurd hk (Nat.not_lt.mpr h1)) (fun t data j hs _ hj => by
      obtain ⟨f, hd, hf⟩ := hdata t data
      exact ⟨f, hd.trans (by rw [hj]; rfl), fun _ => hf hs⟩)
  refine ⟨_, t, he, ⟨unitBytes_length s 1 n id fun _ => fresh, fun j hj => ?_⟩, hanswer, hquiet, hframe⟩
  refine (unitBytes_get hj s 1 id _).trans ?_
  have hcopy : copyAt s 1 id (fun _ => fresh) j = s.copyOf fresh := by
    unfold copyAt State.copyOf
    rw [id, Nat.sub_self, Nat.add_zero]
    by_cases h : s.shown.length ≤ 1
    · rw [if_neg (by omega), if_pos h]
    · rw [if_pos (by omega), if_neg h]
  rw [hcopy]
  rfl

/-- Settles O10: the six reads, each with its snapshot. -/
theorem fixedReadsShiftOutTheirSnapshot : Obligations.FixedReadsShiftOutTheirSnapshot := by
  refine fun n s => ⟨fun hp => ?status, fun hp => ?roster, fun hp => ?flags, fun hp => ?events, fun hp => ?station, fun hp => ?pins⟩
  case status =>
    refine fixed_read (opcode := 0x01#8) rfl (leadBytes_read rfl) rfl hp (by decide) fun t data => ⟨_, rfl, fun ht => ?_⟩
    obtain ⟨cmd, auto, rfl⟩ := ht.same
    rfl
  case roster =>
    refine fixed_read (opcode := 0x02#8) rfl (leadBytes_read rfl) rfl hp (by decide) fun t data => ⟨_, rfl, fun ht => ?_⟩
    obtain ⟨cmd, auto, rfl⟩ := ht.same
    rfl
  case flags =>
    obtain ⟨data, t, he, hprefix, hread⟩ := fixed_read (opcode := 0x03#8) (fresh := flagsBytes s) rfl (leadBytes_read rfl) rfl hp
      (by decide) fun t data => ⟨_, rfl, fun ht => by obtain ⟨cmd, auto, rfl⟩ := ht.same; rfl⟩
    refine ⟨data, t, he, hread, ?_⟩
    have hsync : byte (oneIf (s.flg.sync == .synced)) = if s.flg.sync = .synced then 1#8 else 0#8 := by
      cases s.flg.sync <;> rfl
    rwa [flagsBytes, hsync] at hprefix
  case events =>
    obtain ⟨data, t, he, hprefix, hread⟩ := fixed_read (opcode := 0x04#8) (fresh := eventsBytes s) rfl (leadBytes_read rfl) rfl hp
      (by decide) fun t data => ⟨_, rfl, fun ht => by obtain ⟨cmd, auto, rfl⟩ := ht.same; rfl⟩
    exact ⟨data, t, he, hread, hprefix⟩
  case station =>
    refine fixed_read (opcode := 0x07#8) rfl (leadBytes_read rfl) rfl hp (by decide) fun t data => ⟨_, rfl, fun ht => ?_⟩
    obtain ⟨cmd, auto, rfl⟩ := ht.same
    rfl
  case pins =>
    refine fixed_read (opcode := 0x09#8) rfl (leadBytes_read rfl) rfl hp (by decide) fun t data => ⟨_, rfl, fun ht => ?_⟩
    obtain ⟨cmd, auto, rfl⟩ := ht.same
    rfl

end Sys2Proof.Machine
end

section
/-! The reads of slots (R171), and the transfers of ACTIVE that have no data. -/

namespace Sys2Proof.Machine

/-! ### Transfers without data -/

/-- A transfer of ACTIVE whose bytes call for no data shifts 0x00 after the status byte. -/
theorem transfer_silent {opcode : Byte} {ops : List Byte} {n : Nat} {s : State} (hp : PortOpen .active (opcode :: ops) n 0 s)
    (h6 : opcode ≠ 0x06#8) (hno : ∀ t data k, 1 ≤ k → dataFor t ((opcode :: ops ++ data).take k) = none)
    (body : Handling → State → State) :
    ∃ t, s.transfer (opcode :: ops) n 0 body = body .active t
      ∧ Deselected s t (List.replicate ((opcode :: ops).length + n - 1) 0#8) := by
  have hr : s.shiftsRecord = false := by
    obtain ⟨x, hc, _, hx, _, _, hrec⟩ := openTransfer_open hp
    exact hrec.symm.trans ((shifting_open hp h6).record x (by rw [hc]) hx)
  refine transfer_fill hp (by simp) 0#8 hr (fun y l => y.handling = .active ∧ (¬y.clocked < 8 → y.received ≠ [])
    ∧ ∃ data, y.received ++ l = opcode :: ops ++ data) ?begins ?clocks ?opens body
  case begins =>
    intro y b l ⟨hact, hne, data, hdata⟩ hc
    have htake : y.received = (opcode :: ops ++ data).take y.received.length := by rw [← hdata, List.take_left' rfl]
    rw [beginByte_operand (x := y) rfl hact (by rw [htake]; exact hno _ data _ (List.length_pos_of_ne_nil (hne hc)))]
    rfl
  case clocks =>
    intro y b l ⟨hact, _, data, hdata⟩
    have hreceived := clock_received 0#8 y b (by simp [hact])
    refine ⟨(clock_handling ..).trans hact, fun _ => by simp [hreceived], data, ?_⟩
    rw [hreceived, List.append_assoc]
    exact hdata
  case opens =>
    intro x hs hact ha
    obtain ⟨data, _, htake, hdrop⟩ := carried hs hact (by decide) ha
    refine ⟨hact, fun hc hnil => ?_, data, by rw [← htake, ← hdrop, List.take_append_drop]⟩
    have h8 : x.clocked = 8 := Nat.le_antisymm hs.clocked.1 (by omega)
    obtain ⟨hlength, _⟩ := hs.taken (by simp [hact])
    exact hs.clocked.2 h8 (List.eq_nil_of_length_eq_zero (by rw [← hlength, hnil]; rfl))

/-- A command refused at once, with the data of its transfer 0x00. -/
theorem silent_refused {c : Instr} {opcode : Byte} {ops : List Byte} {n : Nat} {s : State} {code : Code}
    (hexec : exec c s = done (s.command c (refuse code))) (hlead : leadBytes c = opcode :: ops) (hbytes : dataBytes c = n)
    (hp : PortActive c s) (h6 : opcode ≠ 0x06#8)
    (hno : ∀ t data k, 1 ≤ k → dataFor t ((opcode :: ops ++ data).take k) = none) :
    ∃ t, exec c s = .next t ∧ Refused (n + ops.length) code s t := by
  obtain ⟨_, hopen⟩ := hp
  rw [hlead, hbytes] at hopen
  obtain ⟨t, ht, hd⟩ := transfer_silent hopen h6 hno (whenActive (refuse code))
  have he : exec c s = done (t.setLast code) := by rw [hexec, State.command, hlead, hbytes, ht]; rfl
  have hlen : (opcode :: ops).length + n - 1 = n + ops.length := by
    rw [List.length_cons]
    omega
  rw [hlen] at hd
  exact ⟨_, he.trans (done_eq _), hd.refused code⟩

/-! ### The slots streamed -/

theorem leadBytes_slot {c : Instr} {opcode slot : Byte}
    (h : encodeCommand c = some (opcode :: slot :: List.replicate (dataBytes c) 0#8)) : leadBytes c = [opcode, slot] :=
  leadBytes_of_encode (lead := [opcode, slot]) h

/-- Units of `size` bytes. -/
theorem units_mod {size : Nat} (h : 1 < size) : Units (· % size) where
  zero := Nat.zero_mod size
  succ := fun j => by
    rw [Nat.add_mod, Nat.mod_eq_of_lt h]
    rcases Nat.lt_or_ge (j % size + 1) size with hlt | hge
    · exact .inr (Nat.mod_eq_of_lt hlt)
    · have hsize : j % size + 1 = size := Nat.le_antisymm (Nat.mod_lt j (by omega)) hge
      exact .inl (by rw [hsize, Nat.mod_self])

theorem mod_start {size : Nat} (h : 1 < size) (j : Nat) : j - j % size = size * (j / size) ∧ (j - j % size) / size = j / size := by
  have hsplit := Nat.mod_add_div j size
  have hstart : j - j % size = size * (j / size) := by omega
  exact ⟨hstart, by rw [hstart, Nat.mul_div_cancel_left _ (by omega)]⟩

theorem dataFor_readSlot (t : State) (slot : Byte) (data : List Byte) : dataFor t (0x05#8 :: slot :: data)
    = (slotOf slot).map fun i => (data.length % 26, slotBytes t (slotAfter i (data.length / 26))) := rfl

theorem dataFor_readSlotConfig (t : State) (slot : Byte) (data : List Byte) : dataFor t (0x08#8 :: slot :: data)
    = (slotOf slot).map fun i => (data.length % 8, slotConfigBytes (t.slot (slotAfter i (data.length / 8))).cfg) := rfl

theorem dataFor_readSlot_operand (t : State) : dataFor t [0x05#8] = none := rfl

theorem dataFor_readSlotConfig_operand (t : State) : dataFor t [0x08#8] = none := rfl

/-- A read of the slots from an operand of at most 31 on, `size` bytes each. -/
theorem slots_read {c : Instr} {opcode slot : Byte} {i : SlotNo} {n size : Nat} {s : State} {bytes : State → SlotNo → List Byte}
    (hexec : exec c s = done (s.command c (refuse (slotReadCode slot)))) (hlead : leadBytes c = [opcode, slot])
    (hbytes : dataBytes c = n) (hp : PortActive c s) (h6 : opcode ≠ 0x06#8) (hsize : 1 < size) (hi : slotOf slot = some i)
    (hnone : ∀ t, dataFor t [opcode] = none)
    (hdata : ∀ t (data : List Byte), dataFor t (opcode :: slot :: data)
      = (slotOf slot).map fun i => (data.length % size, bytes t (slotAfter i (data.length / size))))
    (hsame : ∀ t k, Shifting s t → bytes t k = bytes s k) :
    ∃ data t, exec c s = .next t ∧ ReadOut (0#8 :: data) s t ∧ data.length = n
      ∧ ∀ j, j < n → data[j]? = some ((if size * (j / size) + 2 < s.shown.length then s.cmd.snapshot
          else bytes s (slotAfter i (j / size))).getD (j % size) 0#8) := by
  have hcode : slotReadCode slot = .ok := by rw [slotReadCode, hi]; rfl
  rw [hcode] at hexec
  obtain ⟨t, he, hanswer, hquiet, hframe⟩ := read_answers (ops := [slot]) (fresh := fun k => bytes s (slotAfter i (k / size))) hexec
    hlead hbytes hp h6 (units_mod hsize) (fun t data k h1 hk => by
      obtain rfl : k = 1 := Nat.le_antisymm (Nat.le_of_lt_succ hk) h1
      exact hnone t) (fun t data j hs _ hj => by
      refine ⟨bytes t (slotAfter i (j / size)), ?_, fun _ => hsame t _ hs⟩
      exact (hdata t data).trans (by rw [hi, hj]; rfl))
  refine ⟨_, t, he, ⟨hanswer, hquiet, hframe⟩, unitBytes_length .., fun j hj => ?_⟩
  obtain ⟨hstart, hdiv⟩ := mod_start hsize j
  refine (unitBytes_get hj s _ _ _).trans ?_
  rw [copyAt, hdiv, hstart]
  simp only [List.length_singleton, Nat.add_comm (1 + 1)]

/-- The same with an operand above 31. -/
theorem slots_refused {c : Instr} {opcode slot : Byte} {n : Nat} {s : State} {size : Nat} {bytes : State → SlotNo → List Byte}
    (hexec : exec c s = done (s.command c (refuse (slotReadCode slot)))) (hlead : leadBytes c = [opcode, slot])
    (hbytes : dataBytes c = n) (hp : PortActive c s) (h6 : opcode ≠ 0x06#8) (hi : slotOf slot = none)
    (hnone : ∀ t, dataFor t [opcode] = none)
    (hdata : ∀ t (data : List Byte), dataFor t (opcode :: slot :: data)
      = (slotOf slot).map fun i => (data.length % size, bytes t (slotAfter i (data.length / size)))) :
    ∃ t, exec c s = .next t ∧ Refused (n + 1) .operand s t := by
  have hcode : slotReadCode slot = .operand := by rw [slotReadCode, hi]; rfl
  rw [hcode] at hexec
  refine silent_refused hexec hlead hbytes hp h6 fun t data k h1 => ?_
  match k, h1 with
  | 1, _ => exact hnone t
  | k + 2, _ => exact (hdata t (data.take k)).trans (by rw [hi]; rfl)

/-! ### The slot record -/

theorem byte_getLsbD {n k : Nat} {b : Bool} (hk : k < 8) (h : n / 2 ^ k % 2 = oneIf b) : (byte n).getLsbD k = b := by
  rw [byte, BitVec.getLsbD_ofNat, Nat.testBit_eq_decide_div_mod_eq, h, decide_oneIf]
  simp [hk]

theorem SlotState.code_lt (x : SlotState) : x.code < 4 := by cases x <;> decide

/-- The layout of the slot record. -/
theorem slotBytes_layout (s : State) (i : SlotNo) (h : (s.slot i).state = .waiting ↔ (s.slot i).arrival.isSome = true) :
    ∃ b1 b2 b25 : Byte, ∃ arrival result : List Byte,
      slotBytes s i = [BitVec.ofNat 8 i.val, b1, b2] ++ arrival ++ wordBytes (s.slot i).lastSeen ++ result ++ [b25]
      ∧ b1.extractLsb' 4 4 = (s.slot i).epoch ∧ b1.getLsbD 3 = false ∧ b1.getLsbD 2 = ((s.slot i).sync == .synced)
      ∧ (b1.extractLsb' 0 2).toNat = (match (s.slot i).state with | .disabled => 0 | .ready => 1 | .waiting => 2 | .fault => 3)
      ∧ (∀ e, findEntry s.rnd.requests .arrive i = some e → e.voids ≤ 3 → b2.toNat / 64 = e.voids)
      ∧ (findEntry s.rnd.requests .arrive i = none → b2.toNat / 64 = 0 ∧ b25 = 0#8)
      ∧ b2.getLsbD 5 = (s.slot i).result.isSome ∧ b2.getLsbD 4 = ((s.slot i).state == .waiting)
      ∧ b2.getLsbD 3 = (s.slot i).timeoutPending ∧ b2.getLsbD 2 = (s.slot i).withdrawPending
      ∧ b2.getLsbD 1 = (s.slot i).committed ∧ b2.getLsbD 0 = (s.slot i).published
      ∧ ((s.slot i).state ≠ .waiting → arrival = List.replicate 7 0#8)
      ∧ (∀ a, (s.slot i).arrival = some a → arrival
          = [match a.source with | .command => 0#8 | .input k => BitVec.ofNat 8 (1 + k.val)] ++ halfBytes a.value
            ++ wordBytes a.time)
      ∧ ((s.slot i).result = none → result = List.replicate 11 0#8)
      ∧ (∀ r, (s.slot i).result = some r → result
          = [r.epoch.setWidth 8] ++ wordBytes r.arrived ++ halfBytes r.agreed ++ wordBytes r.time)
      ∧ b25.extractLsb' 2 6 = 0#6 ∧ b25.getLsbD 0 = (findEntry s.rnd.requests .arrive i).isSome
      ∧ b25.getLsbD 1 = ((s.slot i).probe && (findEntry s.rnd.requests .arrive i).isSome) := by
  have hsource : ∀ c : Source, byte c.code = match c with | .command => 0#8 | .input k => BitVec.ofNat 8 (1 + k.val) :=
    fun c => by cases c <;> rfl
  unfold slotBytes
  generalize findEntry s.rnd.requests .arrive i = entry
  generalize s.slot i = x at *
  have hepoch : x.epoch.toNat < 16 := x.epoch.isLt
  have hstate := x.state.code_lt
  have hsync := oneIf_le_one (x.sync == .synced)
  have hresult := oneIf_le_one x.result.isSome
  have hwaiting := oneIf_le_one (x.state == .waiting)
  have htimeout := oneIf_le_one x.timeoutPending
  have hwithdraw := oneIf_le_one x.withdrawPending
  have hcommitted := oneIf_le_one x.committed
  have hpublished := oneIf_le_one x.published
  have hentry := oneIf_le_one entry.isSome
  have hprobe := oneIf_le_one (x.probe && entry.isSome)
  refine ⟨_, _, _, _, _, rfl, ?epoch, byte_getLsbD (b := false) (by decide) ?zero, byte_getLsbD (by decide) ?sync, ?state,
    fun e he hv => ?voids, fun hno => ⟨?noVoids, ?noEntry⟩,
    byte_getLsbD (by decide) ?result, byte_getLsbD (by decide) ?isWaiting, byte_getLsbD (by decide) ?timeout,
    byte_getLsbD (by decide) ?withdraw, byte_getLsbD (by decide) ?committed, byte_getLsbD (by decide) ?published,
    fun hw => ?noArrival, fun a ha => ?arrival, fun hr => ?noResult, fun r hr => ?resultBytes, ?rest,
    byte_getLsbD (by decide) ?entry, byte_getLsbD (by decide) ?probe⟩
  case zero =>
    rw [show oneIf false = 0 from rfl]
    omega
  case sync | result | isWaiting | timeout | withdraw | committed | published | entry | probe => omega
  case epoch =>
    refine BitVec.eq_of_toNat_eq ?_
    refine (bits_byte (k := 4) (width := 4) (v := x.epoch.toNat) (by omega) (by omega))
  case state =>
    refine (bits_byte (k := 0) (width := 2) (v := x.state.code) (by omega) (by omega)).trans ?_
    cases x.state <;> rfl
  case voids =>
    subst he
    rw [toNat_byte (by simp only; omega)]
    simp only
    omega
  case noVoids =>
    subst hno
    rw [toNat_byte (by simp only; omega)]
    simp only
    omega
  case noEntry =>
    subst hno
    rw [Option.isSome_none, Bool.and_false]
    rfl
  case noArrival =>
    have hnone : x.arrival = none := Option.not_isSome_iff_eq_none.mp fun hsome => hw (h.mpr hsome)
    rw [hnone]
  case arrival => rw [ha]; simp only [hsource]
  case noResult => rw [hr]
  case resultBytes => rw [hr]; simp only [byte, BitVec.ofNat_toNat]
  case rest =>
    refine BitVec.eq_of_toNat_eq ?_
    exact bits_byte (k := 2) (width := 6) (v := 0) (by omega) (by omega)

/-- The row of READ SLOT. -/
theorem exec_readSlot (slot : Byte) (n : Nat) (s : State) :
    exec (.readSlot slot n) s = done (s.command (.readSlot slot n) (refuse (slotReadCode slot))) := rfl

/-- The row of READ SLOT CONFIG. -/
theorem exec_readSlotConfig (slot : Byte) (n : Nat) (s : State) :
    exec (.readSlotConfig slot n) s = done (s.command (.readSlotConfig slot n) (refuse (slotReadCode slot))) := rfl

theorem leadBytes_readSlot (slot : Byte) (n : Nat) : leadBytes (.readSlot slot n) = [0x05#8, slot] := leadBytes_slot rfl

theorem leadBytes_readSlotConfig (slot : Byte) (n : Nat) : leadBytes (.readSlotConfig slot n) = [0x08#8, slot] :=
  leadBytes_slot rfl

theorem readSlot_served {slot : Byte} {i : SlotNo} {n : Nat} {s : State} (hi : slotOf slot = some i)
    (hp : PortActive (.readSlot slot n) s) : ∃ data t, exec (.readSlot slot n) s = .next t ∧ ReadOut (0#8 :: data) s t
      ∧ data.length = n ∧ ∀ j, j < n → data[j]? = some ((if 26 * (j / 26) + 2 < s.shown.length then s.cmd.snapshot
          else slotBytes s (slotAfter i (j / 26))).getD (j % 26) 0#8) := by
  have hsame : ∀ t k, Shifting s t → slotBytes t k = slotBytes s k := fun t k ht => by
    obtain ⟨cmd, auto, rfl⟩ := ht.same
    rfl
  exact slots_read (exec_readSlot slot n s) (leadBytes_readSlot slot n) rfl hp (by decide) (by decide) hi
    dataFor_readSlot_operand (dataFor_readSlot · slot) hsame

theorem readSlotConfig_served {slot : Byte} {i : SlotNo} {n : Nat} {s : State} (hi : slotOf slot = some i)
    (hp : PortActive (.readSlotConfig slot n) s) : ∃ data t, exec (.readSlotConfig slot n) s = .next t
      ∧ ReadOut (0#8 :: data) s t ∧ data.length = n
      ∧ ∀ j, j < n → data[j]? = some ((if 8 * (j / 8) + 2 < s.shown.length then s.cmd.snapshot
          else slotConfigBytes (s.slot (slotAfter i (j / 8))).cfg).getD (j % 8) 0#8) := by
  have hsame : ∀ t k, Shifting s t → slotConfigBytes (t.slot k).cfg = slotConfigBytes (s.slot k).cfg := fun t k ht => by
    obtain ⟨cmd, auto, rfl⟩ := ht.same
    rfl
  exact slots_read (bytes := fun s k => slotConfigBytes (s.slot k).cfg) (exec_readSlotConfig slot n s)
    (leadBytes_readSlotConfig slot n) rfl hp (by decide) (by decide) hi dataFor_readSlotConfig_operand
    (dataFor_readSlotConfig · slot) hsame

theorem readSlot_refused {slot : Byte} {n : Nat} {s : State} (hi : slotOf slot = none) (hp : PortActive (.readSlot slot n) s) :
    ∃ t, exec (.readSlot slot n) s = .next t ∧ Refused (n + 1) .operand s t :=
  slots_refused (bytes := slotBytes) (exec_readSlot slot n s) (leadBytes_readSlot slot n) rfl hp (by decide) hi
    dataFor_readSlot_operand (dataFor_readSlot · slot)

theorem readSlotConfig_refused {slot : Byte} {n : Nat} {s : State} (hi : slotOf slot = none)
    (hp : PortActive (.readSlotConfig slot n) s) :
    ∃ t, exec (.readSlotConfig slot n) s = .next t ∧ Refused (n + 1) .operand s t :=
  slots_refused (bytes := fun s k => slotConfigBytes (s.slot k).cfg) (exec_readSlotConfig slot n s)
    (leadBytes_readSlotConfig slot n) rfl hp (by decide) hi dataFor_readSlotConfig_operand (dataFor_readSlotConfig · slot)

/-- Settles O11: both slot reads, refused operands and the slot record. -/
theorem slotReadsStreamTheSlots : Obligations.SlotReadsStreamTheSlots := by
  refine ⟨fun slot n s hslot => ⟨fun hp => ?slots, fun hp => ?configs⟩,
    fun slot n s hslot => ⟨readSlot_refused (slotOf_none hslot), readSlotConfig_refused (slotOf_none hslot)⟩, slotBytes_layout⟩
  case slots =>
    have hi : slotOf slot = some ⟨slot.toNat, hslot⟩ := dif_pos hslot
    obtain ⟨data, t, he, hread, hlen, hbytes⟩ := readSlot_served hi hp
    exact ⟨data, t, he, hread, hlen, hbytes⟩
  case configs =>
    have hi : slotOf slot = some ⟨slot.toNat, hslot⟩ := dif_pos hslot
    obtain ⟨data, t, he, hread, hlen, hbytes⟩ := readSlotConfig_served hi hp
    exact ⟨data, t, he, hread, hlen, hbytes⟩

end Sys2Proof.Machine
end

section
/-! READ LOG (R157, R158): the records that a transfer shifts out and removes. -/

namespace Sys2Proof.Machine

/-! ### Units and records -/

/-- The units of 14 bytes that the transfer in progress has begun. -/
def State.unitsBegun (s : State) : Nat := (s.shown.length + 12) / 14

/-- The records of the log that the unit in progress holds. -/
def State.recordsHeld (s : State) : Nat := if s.shiftsRecord then 1 else 0

/-- The records that the log holds once `e` units of the transfer are complete. -/
def State.recordsAfter (s : State) (e : Nat) : List Record :=
  if e < s.unitsBegun then s.log.records else s.log.records.drop (s.recordsHeld + (e - s.unitsBegun))

/-- Unit `u` of the transfer holds a record. -/
def State.unitRecord (s : State) (u : Nat) : Bool :=
  if u < s.unitsBegun then s.shiftsRecord else !(s.recordsAfter u).isEmpty

/-- A unit that holds a record removes it as it is complete. -/
theorem recordsAfter_succ {s : State} {e : Nat} (h : s.unitsBegun ≤ e + 1) :
    s.recordsAfter (e + 1) = if s.unitRecord e then (s.recordsAfter e).drop 1 else s.recordsAfter e := by
  have hnext : s.recordsAfter (e + 1) = s.log.records.drop (s.recordsHeld + (e + 1 - s.unitsBegun)) := if_neg (by omega)
  rw [hnext]
  by_cases he : e < s.unitsBegun
  · have hrecords : s.recordsAfter e = s.log.records := if_pos he
    have hsub : e + 1 - s.unitsBegun = 0 := by omega
    rw [hrecords, State.unitRecord, if_pos he, hsub, Nat.add_zero, State.recordsHeld]
    split <;> rfl
  · have hsub : s.recordsHeld + (e + 1 - s.unitsBegun) = s.recordsHeld + (e - s.unitsBegun) + 1 := by omega
    have hrecords : s.recordsAfter e = s.log.records.drop (s.recordsHeld + (e - s.unitsBegun)) := if_neg he
    rw [State.unitRecord, if_neg he, hsub, ← List.drop_drop, ← hrecords]
    cases s.recordsAfter e <;> rfl

/-- The log of `t` once `e` units of the transfer are complete, and the time at which its snapshots are taken. -/
structure LogStream (s : State) (e : Nat) (t : State) : Prop where
  time : t.tsc.time = s.tsc.time
  log : t.log = { s.log with records := s.recordsAfter e }

/-- Between two bytes of READ LOG, `k` of them complete. -/
structure LogBetween (s : State) (k : Nat) (t : State) : Prop where
  stream : LogStream s ((k - 1) / 14) t
  record : (k - 1) % 14 ≠ 0 → ∀ y, t.cmd.transfer = some y → y.record = s.unitRecord ((k - 1) / 14)
  shown : s.shown.length ≤ k

/-- Within byte `k` of READ LOG. -/
structure LogWithin (s : State) (k : Nat) (t : State) : Prop where
  stream : LogStream s ((k - 1) / 14) t
  record : k ≠ 0 → ∀ y, t.cmd.transfer = some y → y.record = s.unitRecord ((k - 1) / 14)
  shown : s.shown.length ≤ k + 1

/-- What the unit that begins now holds: the first record that is neither removed nor held, or NONE. -/
def State.unitBytes (s : State) (u : Nat) : List Byte :=
  match s.log.records[s.recordsHeld + (u - s.unitsBegun)]? with
  | some r => recordBytes r
  | none => noneBytes s

theorem LogStream.logBytes {s t : State} {u : Nat} (h : LogStream s u t) (hu : s.unitsBegun ≤ u) :
    logBytes t = s.unitBytes u := by
  have hnone : noneBytes t = noneBytes s := by rw [noneBytes, h.log, h.time, noneBytes]
  have hrecords : t.log.records = s.log.records.drop (s.recordsHeld + (u - s.unitsBegun)) := by
    rw [h.log]
    exact if_neg (by omega)
  rw [Machine.logBytes, hrecords, hnone, State.unitBytes, ← List.head?_drop]
  cases s.log.records.drop (s.recordsHeld + (u - s.unitsBegun)) <;> rfl

/-! ### Bytes of READ LOG -/

theorem Carrying.endByte_log {w : List Byte} {k : Nat} {t : State} {y : Transfer} (h : Carrying w k t y) (hk : k < w.length) :
    (t.endByte w[k]).log = (if y.record && endsRecord (w.take (k + 1)) then { t.log with records := t.log.records.drop 1 }
        else t.log)
      ∧ ∃ z, (t.endByte w[k]).cmd.transfer = some z ∧ z.record = (y.record && !endsRecord (w.take (k + 1))) := by
  have htake : y.received ++ [w[k]] = w.take (k + 1) := by rw [h.received, List.take_append_getElem hk]
  unfold State.endByte
  rw [h.transfer]
  dsimp only
  rw [h.active, htake]
  dsimp only
  split
  · rename_i hc
    obtain ⟨hrecord, hends⟩ := Bool.and_eq_true_iff.mp hc
    exact ⟨rfl, _, rfl, by rw [hrecord, hends]; rfl⟩
  · rename_i hc
    refine ⟨rfl, _, rfl, ?_⟩
    show y.record = _
    cases hrecord : y.record with
    | false => rfl
    | true =>
      rw [hrecord, Bool.true_and, Bool.not_eq_true] at hc
      rw [hc]
      rfl

theorem endsRecord_take {w rest : List Byte} {k : Nat} (hw : w = 0x06#8 :: rest) (hk : k < w.length) :
    endsRecord (w.take (k + 1)) = decide (k ≠ 0 ∧ k % 14 = 0) := by
  have hlen : (w.take (k + 1)).length = k + 1 := by
    rw [List.length_take]
    omega
  have hlog : readsLog (w.take (k + 1)) = true := by
    subst hw
    rfl
  rw [endsRecord, hlog, hlen, Bool.true_and, Bool.eq_iff_iff]
  simp only [bne_iff_ne, Bool.and_eq_true, beq_iff_eq, decide_eq_true_eq]
  omega

theorem dataFor_readLog (t : State) (data : List Byte) : dataFor t (0x06#8 :: data) = some (data.length % 14, logBytes t) := rfl

theorem LogWithin.endByte {s t : State} {w rest : List Byte} {k : Nat} {y : Transfer} (h : LogWithin s k t)
    (hw : w = 0x06#8 :: rest) (hy : Carrying w k t y) (hk : k < w.length) : LogBetween s (k + 1) (t.endByte w[k]) := by
  obtain ⟨⟨htime, hlog⟩, hrecord, hshown⟩ := h
  obtain ⟨hlog', z, hz, hzrecord⟩ := hy.endByte_log hk
  rw [endsRecord_take hw hk] at hlog' hzrecord
  have hframe : (t.endByte w[k]).tsc = t.tsc := (frame_endByte t _).tsc_eq rfl
  refine ⟨⟨by rw [hframe, htime], ?_⟩, fun hmod v hv => ?_, hshown⟩
  · rw [hlog', hlog, Nat.add_sub_cancel]
    by_cases hends : k ≠ 0 ∧ k % 14 = 0
    · have hunit : k / 14 = (k - 1) / 14 + 1 := by omega
      have hbegun : s.unitsBegun ≤ (k - 1) / 14 + 1 := by
        unfold State.unitsBegun
        omega
      rw [decide_eq_true hends, Bool.and_true, hrecord hends.1 y hy.transfer, hunit, recordsAfter_succ hbegun]
      split <;> rfl
    · have hunit : k / 14 = (k - 1) / 14 := by omega
      rw [decide_eq_false hends, Bool.and_false, hunit]
      rfl
  · obtain rfl : z = v := Option.some.inj (hz.symm.trans hv)
    rw [Nat.add_sub_cancel] at hmod ⊢
    have hunit : k / 14 = (k - 1) / 14 := by omega
    have hends : ¬(k ≠ 0 ∧ k % 14 = 0) := fun h => hmod h.2
    rw [hzrecord, decide_eq_false hends, Bool.not_false, Bool.and_true, hunit]
    exact hrecord (by rintro rfl; exact hmod rfl) y hy.transfer

theorem Carrying.dataFor_log {w rest : List Byte} {k : Nat} {t : State} {y : Transfer} (hy : Carrying w k t y)
    (hw : w = 0x06#8 :: rest) (h1 : 1 ≤ k) (hk : k < w.length) :
    dataFor t y.received = some ((k - 1) % 14, logBytes t) ∧ readsLog y.received = true := by
  obtain ⟨j, rfl⟩ : ∃ j, k = j + 1 := ⟨k - 1, by omega⟩
  subst hw
  rw [hy.received, List.take_succ_cons]
  refine ⟨(dataFor_readLog t _).trans ?_, rfl⟩
  rw [List.length_cons] at hk
  rw [List.length_take, Nat.min_eq_left (by omega), Nat.add_sub_cancel]

theorem LogBetween.beginByte {s t : State} {w rest : List Byte} {k : Nat} {y : Transfer} (h : LogBetween s k t)
    (hw : w = 0x06#8 :: rest) (hy : Carrying w k t y) (h1 : 1 ≤ k) (hk : k < w.length) : LogWithin s k t.beginByte := by
  obtain ⟨⟨htime, hlog⟩, hrecord, hshown⟩ := h
  obtain ⟨hdata, hreads⟩ := hy.dataFor_log hw h1 hk
  rw [beginByte_data hy.transfer hy.active hdata]
  refine ⟨⟨htime, hlog⟩, fun _ v hv => ?_, by omega⟩
  obtain rfl := Option.some.inj hv
  dsimp only
  split
  · have hbegun : ¬(k - 1) / 14 < s.unitsBegun := by
      unfold State.unitsBegun
      omega
    rw [hreads, hlog, Bool.true_and, State.unitRecord, if_neg hbegun]
  · exact hrecord ‹_› y hy.transfer

/-- The bytes of READ LOG. -/
theorem reads_log {s : State} {w rest : List Byte} (hw : w = 0x06#8 :: rest) :
    Reads w 1 (· % 14) (fun j => s.unitBytes (j / 14)) (LogBetween s) (LogWithin s) where
  operand := fun k t y h1 hk => by omega
  data := fun j t y hj hy hK => by
    obtain ⟨hdata, _⟩ := hy.dataFor_log hw (by omega) hj
    obtain ⟨hstream, _, hshown⟩ := hK
    rw [Nat.add_sub_cancel_left] at hdata hstream
    refine ⟨_, hdata, fun h0 => hstream.logBytes ?_⟩
    unfold State.unitsBegun
    omega
  begins := fun k t y h1 hk hy hK => hK.beginByte hw hy h1 hk
  ends := fun k t y hk hy hK => hK.endByte hw hy hk

/-! ### The transfer -/

/-- No record is removed before the unit in progress is complete. -/
theorem recordsAfter_within {s : State} {e : Nat} (h : e < s.unitsBegun ∨ e = s.unitsBegun ∧ s.shiftsRecord = false) :
    s.recordsAfter e = s.log.records := by
  rcases h with h | ⟨rfl, hrecord⟩
  · exact if_pos h
  · rw [State.recordsAfter, if_neg (Nat.lt_irrefl _), State.recordsHeld, hrecord, Nat.sub_self]
    rfl

theorem openTransfer_time (s : State) (sck : Level) : (s.openTransfer sck).tsc.time = s.tsc.time := by
  rcases openTransfer_quiet s sck with h | h <;> rw [h]

theorem openTransfer_log (s : State) (sck : Level) : (s.openTransfer sck).log = s.log := (frame_openTransfer s sck).log_eq rfl

theorem log_opened {s : State} {e : Nat} (h : e < s.unitsBegun ∨ e = s.unitsBegun ∧ s.shiftsRecord = false) :
    LogStream s e (s.openTransfer .low) :=
  ⟨openTransfer_time s .low, by rw [openTransfer_log, recordsAfter_within h]⟩

section Opened

variable {s : State} {x : Transfer} (hx : (s.openTransfer .low).cmd.transfer = some x) (hrecord : x.record = s.shiftsRecord)
  (hsound : x.Sound)

include hx hrecord hsound

theorem log_opened_within (hshown : s.shown.length = x.sent.length + 1) (hreceived : x.received.length = x.sent.length) :
    LogWithin s x.sent.length (s.openTransfer .low) := by
  have hunits : s.unitsBegun = (x.sent.length + 13) / 14 := by rw [State.unitsBegun, hshown]
  refine ⟨log_opened ?_, fun hk v hv => ?_, by omega⟩
  · by_cases hk : x.sent.length = 0
    · refine .inr ⟨by omega, hrecord.symm.trans (Bool.eq_false_iff.mpr fun h => ?_)⟩
      obtain ⟨_, hreads, _⟩ := hsound.record h
      rw [List.eq_nil_of_length_eq_zero (hreceived.trans hk)] at hreads
      exact nomatch hreads
    · exact .inl (by omega)
  · obtain rfl : x = v := Option.some.inj (hx.symm.trans hv)
    rw [State.unitRecord, if_pos (by omega), hrecord]

theorem log_opened_between (hshown : s.shown.length = x.sent.length) (hreceived : x.received.length = x.sent.length)
    (h8 : x.clocked = 8) : LogBetween s x.sent.length (s.openTransfer .low) := by
  have hunits : s.unitsBegun = (x.sent.length + 12) / 14 := by rw [State.unitsBegun, hshown]
  have hk : x.sent.length ≠ 0 := fun h => hsound.clocked.2 h8 (List.eq_nil_of_length_eq_zero h)
  refine ⟨log_opened ?_, fun hmod v hv => ?_, by omega⟩
  · by_cases hmod : (x.sent.length - 1) % 14 = 0
    · refine .inr ⟨by omega, hrecord.symm.trans (Bool.eq_false_iff.mpr fun h => ?_)⟩
      obtain ⟨_, _, hat⟩ := hsound.record h
      exact hat h8 (by omega)
    · exact .inl (by omega)
  · obtain rfl : x = v := Option.some.inj (hx.symm.trans hv)
    rw [State.unitRecord, if_pos (by omega), hrecord]

end Opened

/-- How a transfer of READ LOG taken in ACTIVE ends. -/
theorem log_streamed {lead rest : List Byte} {n extra : Nat} {s : State} (hlead : lead = 0x06#8 :: rest)
    (hp : PortOpen .active lead n extra s) (he : extra < 8) :
    ∃ a, (∀ body, s.transfer lead n extra body = body .active a) ∧ Ended .active lead n s a
      ∧ a.cmd.sdo = (s.shown ++ (unitBytes s 1 (rest.length + n) (· % 14) fun j => s.unitBytes (j / 14)).drop
          (s.shown.length - 1)).take (rest.length + n + 1)
      ∧ a.log = { s.log with records := s.recordsAfter ((rest.length + n) / 14) } := by
  have hlen : lead.length + n = 1 + (rest.length + n) := by
    rw [hlead, List.length_cons]
    omega
  have hcopy : ∀ j, 1 + j < s.shown.length →
      (s.openTransfer .low).cmd.snapshot = copyAt s 1 (· % 14) (fun j => s.unitBytes (j / 14)) j := fun j hj => by
    rw [copyAt_begun hj]
    exact openTransfer_snapshot s .low
  obtain ⟨a, b, ha, hended, hsdo, hlog, hend⟩ := transfer_streamed hp he
    (fun data _ => (reads_log (s := s) (w := lead ++ data) (rest := rest ++ data) (by rw [hlead]; rfl)).stream (s := s)
      (units_mod (by decide)))
    (fun x hx hshown hrecord hsound hreceived =>
      ⟨log_opened_within hx hrecord hsound hshown hreceived, fun j hj => hcopy j (by omega), by omega⟩)
    (fun x hx hshown hrecord hsound hreceived h8 =>
      ⟨log_opened_between hx hrecord hsound hshown hreceived h8, fun j hj => hcopy j (by omega), by omega⟩)
  rw [hlen] at hsdo hend
  refine ⟨a, ha, hended, ?_, hlog.trans ?_⟩
  · rw [hsdo, byteAt_range (Nat.le_refl 1), Nat.add_comm 1]
    rfl
  · rcases hend with ⟨⟨hstream, _⟩, _⟩ | ⟨hshown, rfl⟩
    · have := hstream.log
      rwa [Nat.add_sub_cancel_left] at this
    · have hin : (rest.length + n) / 14 < s.unitsBegun := by
        rw [State.unitsBegun, hshown]
        omega
      rw [openTransfer_log, recordsAfter_within (.inl hin)]

/-- The byte that READ LOG gives is one of its unit. -/
theorem copyAt_log (s : State) (j : Nat) : copyAt s 1 (· % 14) (fun j => s.unitBytes (j / 14)) j
    = if j / 14 < s.unitsBegun then s.cmd.snapshot else s.unitBytes (j / 14) := by
  obtain ⟨hstart, hdiv⟩ := mod_start (size := 14) (by decide) j
  rw [copyAt, hdiv, hstart]
  have hiff : 1 + 14 * (j / 14) < s.shown.length ↔ j / 14 < s.unitsBegun := by
    unfold State.unitsBegun
    omega
  simp only [hiff]

/-- READ LOG, taken in ACTIVE. -/
theorem readLog_served {n : Nat} {s : State} (hp : PortActive (.readLog n) s) : ∃ data t, exec (.readLog n) s = .next t
    ∧ Answered .ok data s t ∧ TscQuiet s t ∧ Frame [.cmd, .tsc, .log] s t ∧ data.length = n
    ∧ t.log = { s.log with records := s.recordsAfter (n / 14) }
    ∧ ∀ j, j < n → data[j]? = some ((if j / 14 < s.unitsBegun then s.cmd.snapshot else s.unitBytes (j / 14)).getD (j % 14) 0#8)
    := by
  obtain ⟨_, hopen⟩ := hp
  have hlead : leadBytes (.readLog n) = [0x06#8] := leadBytes_read rfl
  obtain ⟨a, ha, hended, hsdo, hlog⟩ := log_streamed hlead hopen (by decide)
  have he : exec (.readLog n) s = done (a.setLast .ok) := by
    show done (s.command (.readLog n) (refuse .ok)) = _
    rw [State.command, ha]
    rfl
  have hzero : ([] : List Byte).length + dataBytes (.readLog n) = n := Nat.zero_add n
  rw [hzero] at hsdo hlog
  refine ⟨unitBytes s 1 n (· % 14) fun j => s.unitBytes (j / 14), _, he.trans (done_eq _), ⟨⟨?_, ?_⟩, ?_⟩,
    (hended.quiet.trans (.inl rfl)).trans (settle_tsc _), ?_, unitBytes_length .., ?_, fun j hj => ?_⟩
  · rw [settle_cmd]
    exact hended.idle
  · rw [settle_cmd, unitBytes_length]
    exact hsdo
  · rw [settle_cmd]
    rfl
  · exact (hended.frame.comp ((frame_setLast a .ok).mono (by simp))).then (frame_settle _) (by simp) (by simp)
  · exact ((frame_settle _).log_eq rfl).trans hlog
  · rw [unitBytes_get hj, copyAt_log]

/-- Settles O12: READ LOG, the layout of its records and their codes. -/
theorem readLogRemovesTheRecordsItShiftsOut : Obligations.ReadLogRemovesTheRecordsItShiftsOut := by
  refine ⟨fun n s hp => ?_, fun _ => rfl, fun _ => rfl, rfl⟩
  obtain ⟨data, t, he, hanswer, hquiet, hframe, hlen, hlog, hdata⟩ := readLog_served hp
  exact ⟨data, t, he, hanswer, hquiet, hframe, hlen, hlog, hdata⟩

end Sys2Proof.Machine
end

section
/-! The edges of SCK (R165): the bits and bytes that a transfer takes, and the byte that begins on SDO. -/

namespace Sys2Proof.Machine

/-! ### Bits of a byte -/

/-- A level as a bit. -/
def levelBit (x : Level) : Nat := if x = .high then 1 else 0

theorem levelBit_eq (x : Level) : levelBit x = oneIf (x == .high) := by cases x <;> rfl

theorem levelBit_le_one (x : Level) : levelBit x ≤ 1 := by cases x <;> decide

theorem level_of_bit (x : Level) : (if (x == Level.high) = true then Level.high else .low) = x := by cases x <;> rfl

/-- The byte of eight levels has them as its bits. -/
theorem bitsOf_byteOf {l : List Level} (h : l.length = 8) : bitsOf (byteOf l) = l := by
  match l, h with
  | [a, b, c, d, e, f, g, i], _ =>
    have ha := levelBit_le_one a
    have hb := levelBit_le_one b
    have hc := levelBit_le_one c
    have hd := levelBit_le_one d
    have he := levelBit_le_one e
    have hf := levelBit_le_one f
    have hg := levelBit_le_one g
    have hi := levelBit_le_one i
    obtain ⟨n, hn⟩ : ∃ n, n = 2 * (2 * (2 * (2 * (2 * (2 * (2 * (2 * 0 + levelBit a) + levelBit b) + levelBit c) + levelBit d)
      + levelBit e) + levelBit f) + levelBit g) + levelBit i := ⟨_, rfl⟩
    have hbyte : byteOf [a, b, c, d, e, f, g, i] = byte n := by rw [hn]; rfl
    have hat : ∀ k x, k < 8 → n / 2 ^ k % 2 = levelBit x →
        (if (byte n).getLsbD k = true then Level.high else .low) = x := fun k x hk hx => by
      rw [byte_getLsbD hk (hx.trans (levelBit_eq x)), level_of_bit]
    rw [hbyte]
    show [_, _, _, _, _, _, _, _] = _
    simp only [List.cons.injEq, and_true]
    exact ⟨hat 7 a (by decide) (by omega), hat 6 b (by decide) (by omega), hat 5 c (by decide) (by omega),
      hat 4 d (by decide) (by omega), hat 3 e (by decide) (by omega), hat 2 f (by decide) (by omega),
      hat 1 g (by decide) (by omega), hat 0 i (by decide) (by omega)⟩

/-! ### A byte on SDO -/

/-- The byte that begins in an inactive transfer. -/
theorem beginByte_inactive {s : State} {x y : Transfer} (hx : s.cmd.transfer = some x) (hy : s.beginByte.cmd.transfer = some y) :
    (x.handling = .asleep → y.out = 0x00#8) ∧ (x.handling = .ignored → y.out = 0xFF#8) := by
  unfold State.beginByte at hy
  rw [hx] at hy
  dsimp only at hy
  refine ⟨fun hh => ?_, fun hh => ?_⟩
  all_goals
    rw [hh] at hy
    obtain rfl := Option.some.inj hy
    rfl

/-- The byte that begins where the bytes received call for data. -/
theorem beginByte_placed {s : State} {x y : Transfer} {place : Nat} {fresh : List Byte} (hx : s.cmd.transfer = some x)
    (hh : x.handling = .active) (hd : dataFor s x.received = some (place, fresh)) (hy : s.beginByte.cmd.transfer = some y) :
    s.beginByte.cmd.snapshot = (if place = 0 then fresh else s.cmd.snapshot)
      ∧ y.out = s.beginByte.cmd.snapshot.getD place 0#8
      ∧ (place = 0 → y.record = (readsLog x.received && !s.log.records.isEmpty)) := by
  rw [beginByte_data hx hh hd] at hy ⊢
  obtain rfl := Option.some.inj hy
  exact ⟨rfl, rfl, fun h => if_pos h⟩

theorem beginByte_unplaced {s : State} {x y : Transfer} (hx : s.cmd.transfer = some x) (hh : x.handling = .active)
    (hd : dataFor s x.received = none) (hy : s.beginByte.cmd.transfer = some y) : y.out = 0x00#8 := by
  rw [beginByte_operand hx hh hd] at hy
  obtain rfl := Option.some.inj hy
  rfl

/-- The byte on SDO is complete. -/
theorem endByte_complete {s : State} {x : Transfer} (hx : s.cmd.transfer = some x) (hs : x.Sound) (b : Byte) :
    (∃ y, (s.endByte b).cmd.transfer = some y ∧ y.mode = x.mode ∧ y.handling = x.handling ∧ y.clocked = 8
      ∧ y.sent = x.sent ++ [x.out] ∧ y.bits = [] ∧ (x.handling ≠ .ignored → y.received = x.received ++ [b]))
    ∧ (s.endByte b).log = { s.log with records :=
        if x.record = true ∧ x.received.length % 14 = 0 then s.log.records.drop 1 else s.log.records } := by
  have hends : readsLog x.received = true → (endsRecord (x.received ++ [b]) = true ↔ x.received.length % 14 = 0) := fun h => by
    cases hr : x.received with
    | nil =>
      rw [hr] at h
      exact nomatch h
    | cons a l =>
      rw [hr] at h
      have hreads : readsLog (a :: l ++ [b]) = true := h
      rw [endsRecord, hreads]
      simp only [List.length_append, List.length_cons, List.length_nil, Bool.true_and, Bool.and_eq_true, bne_iff_ne, beq_iff_eq]
      omega
  have hquiet : x.record ≠ true → s.log = { s.log with records :=
      if x.record = true ∧ x.received.length % 14 = 0 then s.log.records.drop 1 else s.log.records } := fun h => by
    rw [if_neg fun hc => h hc.1]
  unfold State.endByte
  rw [hx]
  dsimp only
  cases hh : x.handling with
  | active =>
    dsimp only
    by_cases hc : x.record = true ∧ x.received.length % 14 = 0
    · have hcut : (x.record && endsRecord (x.received ++ [b])) = true := by
        rw [hc.1, Bool.true_and, hends (hs.record hc.1).2.1]
        exact hc.2
      rw [if_pos hcut, if_pos hc]
      exact ⟨⟨_, rfl, rfl, hh, rfl, rfl, rfl, fun _ => rfl⟩, rfl⟩
    · have hkeep : ¬(x.record && endsRecord (x.received ++ [b])) = true := fun h => by
        obtain ⟨hr, he⟩ := Bool.and_eq_true_iff.mp h
        exact hc ⟨hr, (hends (hs.record hr).2.1).mp he⟩
      rw [if_neg hkeep, if_neg hc]
      exact ⟨⟨_, rfl, rfl, hh, rfl, rfl, rfl, fun _ => rfl⟩, rfl⟩
  | asleep =>
    refine ⟨⟨_, rfl, rfl, hh, rfl, rfl, rfl, fun _ => rfl⟩, hquiet fun h => ?_⟩
    exact nomatch hh.symm.trans (hs.record h).1
  | ignored =>
    refine ⟨⟨_, rfl, rfl, hh, rfl, rfl, rfl, fun h => absurd rfl h⟩, hquiet fun h => ?_⟩
    exact nomatch hh.symm.trans (hs.record h).1

/-! ### Edges -/

theorem sckRise_within {s : State} {x : Transfer} (hx : s.cmd.transfer = some x) (hc : x.clocked < 7) (sdi : Level) :
    s.sckRise sdi = s.setTransfer (some { x with
      clocked := x.clocked + 1
      bits := match x.handling with | .ignored => [] | .active | .asleep => x.bits ++ [sdi] }) := by
  unfold State.sckRise
  rw [hx]
  exact if_pos hc

theorem sckRise_last {s : State} {x : Transfer} (hx : s.cmd.transfer = some x) (hc : x.clocked = 7) (sdi : Level) :
    s.sckRise sdi = s.endByte (byteOf (x.bits ++ [sdi])) := by
  unfold State.sckRise
  rw [hx]
  exact if_neg (by omega)

/-- What the port makes of the levels that the board gives next. -/
theorem clockPort_edges {s : State} {sck sdi : Level} {feed : List (Level × Level)} (h : s.spi.feed = (sck, sdi) :: feed) :
    (s.spi.sck = sck → s.clockPort = s.setSpi { sck := sck, sdi := sdi, feed := feed })
    ∧ (s.spi.sck = .low → sck = .high → s.clockPort = (s.setSpi { sck := sck, sdi := sdi, feed := feed }).sckRise sdi)
    ∧ (s.spi.sck = .high → sck = .low → s.clockPort = (s.setSpi { sck := sck, sdi := sdi, feed := feed }).readyByte) := by
  unfold State.clockPort
  rw [h]
  dsimp only
  refine ⟨fun hsame => ?_, fun hlow hhigh => ?_, fun hhigh hlow => ?_⟩
  · rw [hsame]
    cases sck <;> rfl
  · subst hhigh
    rw [hlow]
  · subst hlow
    rw [hhigh]
    rfl

theorem frame_runTick (s : State) : Frame [.lif, .pin, .tsc, .mbr, .slots, .pending] s s.runTick :=
  (countTick_counted s).frame.then
    ((frame_setPending _ _).then (frame_settle _) (c := [.pending, .tsc]) (by simp) (by simp)) (by simp) (by simp)

/-- Of the port a tick leaves what the edge of SCK made of it. -/
theorem tick_spi (s : State) : s.tick.spi = s.tickBegun.spi := by
  rcases tick_cases s with ⟨_, ht⟩ | ⟨_, _, ht⟩ | ⟨_, ht⟩
  · rw [ht]
    exact (frame_runTick s.tickBegun).spi_eq rfl
  · rw [ht]
    rfl
  · rw [ht]

end Sys2Proof.Machine
end

section
/-! Port framing (R165, R166, R168): CSN, the edges of SCK, and the transfers that are no command. -/

namespace Sys2Proof.Machine

/-! ### Edges of SCK -/

theorem clockPort_spi {s : State} {sck sdi : Level} {feed : List (Level × Level)} (h : s.spi.feed = (sck, sdi) :: feed) :
    s.clockPort.spi = { sck := sck, sdi := sdi, feed := feed } := by
  unfold State.clockPort
  rw [h]
  dsimp only
  split
  · exact (frame_sckRise _ sdi).spi_eq rfl
  · exact (frame_readyByte _).spi_eq rfl
  · rfl

/-- A rising edge within a byte samples SDI. -/
theorem sckRise_samples {s : State} {x y : Transfer} {sdi : Level} (hx : s.cmd.transfer = some x) (hc : x.clocked < 7)
    (hy : (s.sckRise sdi).cmd.transfer = some y) :
    y.out = x.out ∧ y.clocked = x.clocked + 1 ∧ y.sent = x.sent ∧ y.received = x.received
      ∧ (x.handling ≠ .ignored → y.bits = x.bits ++ [sdi])
      ∧ (s.sckRise sdi).cmd.snapshot = s.cmd.snapshot ∧ (s.sckRise sdi).log = s.log := by
  rw [sckRise_within hx hc] at hy ⊢
  obtain rfl := Option.some.inj hy
  refine ⟨rfl, rfl, rfl, rfl, fun hh => ?_, rfl, rfl⟩
  dsimp only
  split
  · exact absurd ‹_› hh
  · rfl
  · rfl

/-- The eighth rising edge completes the byte. -/
theorem sckRise_completes {s : State} {x y : Transfer} {sdi : Level} (hx : s.cmd.transfer = some x) (hs : x.Sound)
    (hc : x.clocked = 7) (hy : (s.sckRise sdi).cmd.transfer = some y) :
    y.clocked = 8 ∧ y.sent = x.sent ++ [x.out] ∧ y.bits = []
      ∧ (x.handling ≠ .ignored → ∃ b, y.received = x.received ++ [b] ∧ bitsOf b = x.bits ++ [sdi])
      ∧ (s.sckRise sdi).cmd.snapshot = s.cmd.snapshot ∧ (s.sckRise sdi).log.next = s.log.next
      ∧ (s.sckRise sdi).log.records
        = if x.record = true ∧ x.received.length % 14 = 0 then s.log.records.drop 1 else s.log.records := by
  rw [sckRise_last hx hc] at hy ⊢
  obtain ⟨⟨z, hz, _, _, hclocked, hsent, hbits, hreceived⟩, hlog⟩ := endByte_complete hx hs (byteOf (x.bits ++ [sdi]))
  obtain rfl : z = y := Option.some.inj (hz.symm.trans hy)
  refine ⟨hclocked, hsent, hbits, fun hh => ⟨_, hreceived hh, bitsOf_byteOf ?_⟩, endByte_snapshot s _, by rw [hlog], by rw [hlog]⟩
  obtain ⟨_, hlength⟩ := hs.taken hh
  rw [List.length_append, hlength, hc]
  rfl

/-- A falling edge after a complete byte begins the next one. -/
theorem sckFall_begins {s : State} {x y : Transfer} (hx : s.cmd.transfer = some x)
    (hy : s.beginByte.cmd.transfer = some y) :
    y.clocked = 0 ∧ y.sent = x.sent ∧ y.received = x.received ∧ y.bits = x.bits
      ∧ (x.handling = .asleep → y.out = 0x00#8)
      ∧ (x.handling = .ignored → y.out = 0xFF#8)
      ∧ (x.handling = .active →
          (∀ rest, x.received = 0x06#8 :: rest →
            s.beginByte.cmd.snapshot = (if rest.length % 14 = 0 then
                (match s.log.records with | r :: _ => recordBytes r | [] => noneBytes s) else s.cmd.snapshot)
              ∧ y.out = s.beginByte.cmd.snapshot.getD (rest.length % 14) 0#8
              ∧ (rest.length % 14 = 0 → (y.record = true ↔ s.log.records ≠ [])))
          ∧ (∀ slot rest, x.received = 0x05#8 :: slot :: rest → slot.toNat < 32 →
            s.beginByte.cmd.snapshot = (if rest.length % 26 = 0 then
                slotBytes s (Fin.ofNat 32 (slot.toNat + rest.length / 26)) else s.cmd.snapshot)
              ∧ y.out = s.beginByte.cmd.snapshot.getD (rest.length % 26) 0#8)
          ∧ (∀ rest, x.received = 0x01#8 :: rest →
            s.beginByte.cmd.snapshot = (if rest = [] then statusBytes s else s.cmd.snapshot)
              ∧ y.out = s.beginByte.cmd.snapshot.getD rest.length 0#8)
          ∧ (∀ opcode rest, x.received = opcode :: rest → 0x10 ≤ opcode.toNat → y.out = 0x00#8)) := by
  obtain ⟨z, hz, hsent, _, hreceived, hbits, _, hclocked⟩ := beginByte_transfer hx
  obtain rfl : z = y := Option.some.inj (hz.symm.trans hy)
  obtain ⟨hasleep, hignored⟩ := beginByte_inactive hx hy
  refine ⟨hclocked, hsent, hreceived, hbits, hasleep, hignored, fun hh => ⟨fun rest hr => ?log, fun slot rest hr hslot => ?slot,
    fun rest hr => ?status, fun opcode rest hr hw => ?write⟩⟩
  case log =>
    obtain ⟨hsnapshot, hout, hrecord⟩ := beginByte_placed hx hh (hr ▸ dataFor_readLog s rest) hy
    refine ⟨hsnapshot, hout, fun h0 => ?_⟩
    rw [hrecord h0, hr]
    cases s.log.records <;> simp [readsLog]
  case slot =>
    have hdata : dataFor s (0x05#8 :: slot :: rest) = some (rest.length % 26,
        slotBytes s (Fin.ofNat 32 (slot.toNat + rest.length / 26))) := by
      rw [dataFor_readSlot, slotOf, dif_pos hslot]
      rfl
    obtain ⟨hsnapshot, hout, _⟩ := beginByte_placed hx hh (hr ▸ hdata) hy
    exact ⟨hsnapshot, hout⟩
  case status =>
    have hdata : dataFor s (0x01#8 :: rest) = some (rest.length, statusBytes s) := rfl
    obtain ⟨hsnapshot, hout, _⟩ := beginByte_placed hx hh (hr ▸ hdata) hy
    refine ⟨hsnapshot.trans ?_, hout⟩
    simp only [List.length_eq_zero_iff]
  case write => exact beginByte_unplaced hx hh (hr ▸ dataFor_write s opcode rest hw) hy

/-- An edge changes neither mode nor handling of the transfer in progress. -/
theorem tickBegun_transfer {s : State} {x : Transfer} (hx : s.cmd.transfer = some x) (hs : x.Sound) :
    ∃ y, s.tickBegun.cmd.transfer = some y ∧ y.mode = x.mode ∧ y.handling = x.handling := by
  unfold State.tickBegun State.clockPort
  split
  · exact ⟨x, hx, rfl, rfl⟩
  · rename_i sck sdi feed _
    have hv : ((s.setBus s.bus.advance).setSpi { sck := sck, sdi := sdi, feed := feed }).cmd.transfer = some x := hx
    generalize (s.setBus s.bus.advance).setSpi { sck := sck, sdi := sdi, feed := feed } = v at hv
    dsimp only
    split
    · unfold State.sckRise
      rw [hv]
      dsimp only
      split
      · exact ⟨_, rfl, rfl, rfl⟩
      · obtain ⟨⟨y, hy, hmode, hhandling, _⟩, _⟩ := endByte_complete hv hs (byteOf (x.bits ++ [sdi]))
        exact ⟨y, hy, hmode, hhandling⟩
    · unfold State.sckFall
      by_cases hc : x.clocked < 8
      · rw [readyByte_begun hv hc]
        exact ⟨x, hv, rfl, rfl⟩
      · rw [readyByte_complete hv hc]
        obtain ⟨y, hy, _, hhandling, _, _, hmode, _⟩ := beginByte_transfer hv
        exact ⟨y, hy, hmode, hhandling⟩
    · exact ⟨x, hv, rfl, rfl⟩

theorem step_tick {s : State} (hp : s.pending = []) : step s = .next s.tick := by
  unfold step
  rw [hp]

/-! ### Transfers that are no command -/

/-- Each code that a command has is in the table of codes. -/
theorem decodeCommand_unnamed {opcode : Byte} (h : namesCommand opcode = false) (rest : List Byte) :
    decodeCommand opcode rest = none := by
  unfold namesCommand at h
  unfold decodeCommand
  generalize opcode.toNat = code at h ⊢
  split
  case h_29 => rfl
  all_goals simp [commandCodes] at h

theorem dataFor_unnamed {opcode : Byte} (h : namesCommand opcode = false) (t : State) (rest : List Byte) :
    dataFor t (opcode :: rest) = none :=
  congrArg (fun x => x.bind (dataDue t)) (decodeCommand_unnamed h rest)

/-- The transfer of an opcode of no command. -/
theorem unknown_refused {opcode : Byte} {n : Nat} {s : State} (hp : PortOpen .active [opcode] n 0 s)
    (hno : namesCommand opcode = false) : ∃ t, exec (.unknownOpcode opcode n) s = .next t ∧ Refused n .unknown s t := by
  have h6 : opcode ≠ 0x06#8 := by
    rintro rfl
    exact absurd hno (by decide)
  obtain ⟨t, ht, hd⟩ := transfer_silent hp h6 (fun t data k h1 => by
    obtain ⟨j, rfl⟩ : ∃ j, k = j + 1 := ⟨k - 1, by omega⟩
    exact dataFor_unnamed hno t _) (whenActive (refuse .unknown))
  have he : exec (.unknownOpcode opcode n) s = done (t.setLast .unknown) := by
    show execUnknownOpcode opcode n s = _
    unfold execUnknownOpcode
    rw [hno, ht]
    rfl
  have hlen : [opcode].length + n - 1 = n := Nat.add_sub_cancel_left 1 n
  rw [hlen] at hd
  exact ⟨_, he.trans (done_eq _), hd.refused .unknown⟩

/-- The transfer that carries no whole command. -/
theorem discarded_row {sdi : List Byte} {extraBits : Nat} {s a : State} (hj : judge sdi extraBits = .discarded)
    (ha : ∀ body, s.transfer sdi 0 extraBits body = body .active a) :
    exec (.transferDiscarded sdi extraBits) s = .next (a.setLast .discarded).settle := by
  show execTransferDiscarded sdi extraBits s = _
  unfold execTransferDiscarded
  rw [hj]
  dsimp only
  rw [ha]
  exact done_eq _

theorem discarded_judged {sdi : List Byte} {extraBits : Nat} {s : State} (he : extraBits < 8)
    (hp : PortOpen .active sdi 0 extraBits s) (hj : judge sdi extraBits = .discarded) :
    ∃ t, exec (.transferDiscarded sdi extraBits) s = .next t
      ∧ t.cmd.transfer = none ∧ t.cmd.last = .discarded ∧ t.cmd.sdo.length = sdi.length
      ∧ t.cmd.sdo.take s.shown.length = s.shown.take sdi.length ∧ TscQuiet s t
      ∧ (∀ rest, sdi = 0x06#8 :: rest → Frame [.cmd, .tsc, .log] s t ∧ t.log.next = s.log.next
          ∧ (s.cmd.transfer = none → t.log.records = s.log.records.drop (rest.length / 14))
          ∧ t.log.records <:+ s.log.records)
      ∧ (sdi.head? ≠ some 0x06#8 → Frame [.cmd, .tsc] s t) := by
  obtain ⟨a, ha, hended, hshifted⟩ := transfer_ended hp
  obtain ⟨hlength, hsdo⟩ := hshifted he
  rw [Nat.add_zero] at hlength hsdo
  have hframe : Frame [.cmd, .log, .tsc] s (a.setLast .discarded).settle :=
    (hended.frame.comp ((frame_setLast a _).mono (by simp))).then (frame_settle _) (by simp) (by simp)
  have hlog : (a.setLast .discarded).settle.log = a.log := settle_log _
  refine ⟨_, discarded_row hj ha, ?_, ?_, ?_, ?_, (hended.quiet.trans (.inl rfl)).trans (settle_tsc _),
    fun rest hr => ⟨hframe.mono (by simp), ?_, fun hnone => ?_, ?_⟩, fun h6 b hb => ?_⟩
  · rw [settle_cmd]
    exact hended.idle
  · rw [settle_cmd]
    rfl
  · rw [settle_cmd]
    exact hlength
  · rw [settle_cmd]
    exact hsdo
  · rw [hlog, hended.next]
  · obtain ⟨a', ha', _, _, hrecords⟩ := log_streamed hr hp he
    obtain rfl : a = a' := (ha fun _ t => t).symm.trans (ha' fun _ t => t)
    have hfree : s.unitsBegun = 0 ∧ s.recordsHeld = 0 := by
      simp [State.unitsBegun, State.shown, State.recordsHeld, State.shiftsRecord, hnone]
    obtain ⟨hunits, hheld⟩ := hfree
    rw [hlog, hrecords, State.recordsAfter, hunits, hheld, if_neg (Nat.not_lt_zero _)]
    simp
  · obtain ⟨k, hrecords⟩ := hended.records
    rw [hlog, hrecords]
    exact List.drop_suffix k _
  · by_cases hbl : b = .log
    · subst hbl
      refine hlog.trans (hended.unlogged (.inr ?_))
      cases sdi with
      | nil => exact .inr rfl
      | cons opcode ops => exact .inl ⟨opcode, ops, rfl, fun h => h6 (congrArg some h)⟩
    · exact hframe b (by simp_all)

/-- No SCK edge: nothing is recorded. -/
theorem discarded_edgeless {s : State} (hp : PortOpen .active [] 0 0 s) : ∃ t, exec (.transferDiscarded [] 0) s = .next t
    ∧ t.cmd = { s.cmd with transfer := none, sdo := [] } ∧ Only [.cmd] s t := by
  obtain ⟨x, hc, hsound, _, ha, _⟩ := openTransfer_open hp
  have hx : (s.openTransfer .low).cmd.transfer = some x := by rw [hc]
  have hsent : x.sent = [] := List.eq_nil_of_length_eq_zero (Nat.le_zero.mp (agrees_sent hsound ha))
  have he : exec (.transferDiscarded [] 0) s
      = done ((s.openTransfer .low).setCmd { (s.openTransfer .low).cmd with transfer := none, sdo := x.sent }) := by
    show done (s.transfer [] 0 0 fun _ t => t) = _
    refine congrArg done ?_
    rw [← deselect_some hx]
    simp only [State.transfer, hx, ha, if_true, List.nil_append, zeros, List.replicate_zero, List.drop_nil, List.foldl_nil]
  have hopen := frame_openTransfer s .low
  refine ⟨_, he.trans (done_eq _), ?_, ?_, ?_⟩
  · rw [settle_cmd, hc, hsent]
    rfl
  · exact (openTransfer_quiet s .low).trans (settle_tsc _)
  · exact ((hopen.mono (by simp)).comp ((frame_setCmd _ _).mono (by simp))).comp ((frame_settle _).mono (by simp))

/-- CSN falls on a free port, or within a transfer. -/
theorem start_row (sck : Level) (s : State) : ∃ t, exec (.transferStart sck) s = .next t ∧ Only [.cmd, .spi] s t
    ∧ (s.cmd.transfer ≠ none → t = s)
    ∧ (s.cmd.transfer = none → t.cmd = { s.cmd with transfer := some (s.newTransfer sck) } ∧ t.spi = { s.spi with sck := sck })
    := by
  have hexec : exec (.transferStart sck) s = execTransferStart sck s := rfl
  unfold execTransferStart at hexec
  cases hx : s.cmd.transfer with
  | some x =>
    rw [hx] at hexec
    exact ⟨s, hexec, .refl _ s, fun _ => rfl, fun h => nomatch h⟩
  | none =>
    rw [hx] at hexec
    have hspi : ((s.openTransfer sck).setSpi { s.spi with sck := sck }).settle.spi = { s.spi with sck := sck } := by
      rw [settle_spi]
      rfl
    refine ⟨_, hexec.trans (done_eq _), ⟨(openTransfer_quiet s sck).trans (settle_tsc _), ?_⟩, fun h => absurd rfl h,
      fun _ => ⟨?_, hspi⟩⟩
    · exact (((frame_openTransfer s sck).mono (by simp)).comp ((frame_setSpi _ _).mono (by simp))).comp
        ((frame_settle _).mono (by simp))
    · rw [settle_cmd]
      exact openTransfer_cmd hx sck

/-- Settles O13: CSN, SDO, the edges of SCK, and the transfers that carry no whole command. -/
theorem transfersAreFramedClockedAndJudged : Obligations.TransfersAreFramedClockedAndJudged := by
  refine ⟨fun sck s => ?start, fun s => Option.map_eq_none_iff, fun s x sck sdi feed hp hx hs hf => ?edges,
    fun s _ hp => discarded_edgeless hp,
    fun sdi extraBits s hw _ hp hj => discarded_judged (by simpa [Instr.wellFormed] using hw) hp hj,
    fun opcode n s _ hp hno => unknown_refused hp hno⟩
  case start =>
    obtain ⟨t, he, honly, hbusy, hfree⟩ := start_row sck s
    refine ⟨t, he, honly, fun h => by rw [hbusy h]; exact ⟨rfl, rfl⟩, fun h => ?_⟩
    obtain ⟨hcmd, hspi⟩ := hfree h
    rw [hcmd]
    refine ⟨rfl, rfl, rfl, hspi, _, rfl, rfl, rfl, rfl, rfl, rfl, rfl, ?_, ?_, fun hr => ?_, fun ⟨hr, hw⟩ => ?_, fun ⟨hr, hw⟩ => ?_⟩
    · cases sck <;> simp [State.newTransfer]
    · cases sck <;> simp [State.newTransfer]
    · show s.handling = _
      simp [State.handling, hr]
    · show s.handling = _
      simp [State.handling, hr, hw]
    · show s.handling = _
      simp [State.handling, hr, hw]
  case edges =>
    obtain ⟨hcmd, hlog⟩ := tick_port s
    obtain ⟨y, hy, hmode, hhandling⟩ := tickBegun_transfer hx hs
    have hedges := clockPort_edges (s := s.setBus s.bus.advance) hf
    have hspi : s.tickBegun.spi = { sck := sck, sdi := sdi, feed := feed } := clockPort_spi hf
    let v := (s.setBus s.bus.advance).setSpi { sck := sck, sdi := sdi, feed := feed }
    have hv : v.cmd.transfer = some x := hx
    obtain ⟨hsame, hrise, hfall⟩ : (s.spi.sck = sck → s.tickBegun = v)
        ∧ (s.spi.sck = .low → sck = .high → s.tickBegun = v.sckRise sdi)
        ∧ (s.spi.sck = .high → sck = .low → s.tickBegun = v.readyByte) := hedges
    rw [← tick_spi] at hspi
    refine ⟨s.tick, y, step_tick hp, hspi, by rw [hcmd]; exact hy, hmode, hhandling, fun h => ?same, fun hl hh hc => ?within,
      fun hl hh hc => ?completes, fun hh hl => ?falls, fun hh hl hc => ?begins⟩
    all_goals simp only [hcmd, hlog]
    case same =>
      rw [hsame h]
      exact ⟨rfl, rfl⟩
    case within =>
      rw [hrise hl hh] at hy ⊢
      exact sckRise_samples hv hc hy
    case completes =>
      rw [hrise hl hh] at hy ⊢
      exact sckRise_completes hv hs hc hy
    case falls =>
      rw [hfall hh hl]
      refine ⟨(frame_readyByte v).log_eq rfl, fun hc => ?_⟩
      rw [readyByte_begun hv hc]
      rfl
    case begins =>
      rw [hfall hh hl, readyByte_complete hv (by omega)] at hy ⊢
      obtain ⟨hclocked, hsent, hreceived, hbits, hasleep, hignored, hactive⟩ := sckFall_begins hv hy
      exact ⟨hclocked, hsent, hreceived, hbits, hasleep, fun h _ => hignored h, hactive⟩

end Sys2Proof.Machine
end

section
/-! The tick (R2, R6, R9 to R11, R15 to R18, R56, R81, R177, R179): the line interface, the timers of station time, and what
else passes with it. -/

namespace Sys2Proof.Machine

/-! ### The line interface -/

theorem lifAfter_stb (s : State) : s.lifAfter.stb = (s.lif.filterStb s.stbAtPin).stb :=
  (congrArg Lif.stb (lifAfter_frame s)).trans (filterDat_stb _ _)

theorem lifAfter_dat (s : State) : s.lifAfter.dat = ((s.lif.filterStb s.stbAtPin).filterDat s.datAtPin).dat :=
  (congrArg Lif.dat (lifAfter_frame s)).trans rfl

theorem filterDat_stbFilter (x : Lif) (pin : Level) : (x.filterDat pin).stbFilter = x.stbFilter := by rw [filterDat_frame]

theorem filterStb_datFilter (x : Lif) (pin : Level) : (x.filterStb pin).datFilter = x.datFilter := by rw [filterStb_frame]

/-- The stuck timer of STB, its low interval and its exemption through a tick. -/
theorem lifAfter_stbStuck (s : State) :
    StuckTimed s.lif.stb s.lifAfter.stb s.lif.stbStuck s.lif.stbLast s.lifAfter.stbStuck s.lifAfter.stbLast := by
  have hcount : s.lifAfter.stbStuck = if s.lif.stb = .low ∧ s.lifAfter.stb = .low
      then (s.lif.filterStb s.stbAtPin).stbStuck + 1 else (s.lif.filterStb s.stbAtPin).stbStuck := by
    refine (congrArg Lif.stbStuck (lifAfter_frame s)).trans ?_
    show (if s.lif.stb = .low ∧ ((s.lif.filterStb s.stbAtPin).filterDat s.datAtPin).stb = .low
      then ((s.lif.filterStb s.stbAtPin).filterDat s.datAtPin).stbStuck + 1
      else ((s.lif.filterStb s.stbAtPin).filterDat s.datAtPin).stbStuck) = _
    rw [filterDat_stb, filterDat_stbStuck, lifAfter_stb]
  have hlast : s.lifAfter.stbLast = (s.lif.filterStb s.stbAtPin).stbLast :=
    (congrArg Lif.stbLast (lifAfter_frame s)).trans (filterDat_stbLast _ _)
  have h := filterStb_stuck s.lif s.stbAtPin
  rw [hcount, hlast, StuckTimed.eq_def, lifAfter_stb]
  cases hx : s.lif.stb <;> cases hy : (s.lif.filterStb s.stbAtPin).stb <;> simp only [hx, hy] at h ⊢ <;>
    simpa using h

theorem lifAfter_datStuck (s : State) :
    StuckTimed s.lif.dat s.lifAfter.dat s.lif.datStuck s.lif.datLast s.lifAfter.datStuck s.lifAfter.datLast := by
  have hcount : s.lifAfter.datStuck = if s.lif.dat = .low ∧ s.lifAfter.dat = .low
      then ((s.lif.filterStb s.stbAtPin).filterDat s.datAtPin).datStuck + 1
      else ((s.lif.filterStb s.stbAtPin).filterDat s.datAtPin).datStuck := by
    rw [lifAfter_dat]
    exact (congrArg Lif.datStuck (lifAfter_frame s)).trans rfl
  have hlast : s.lifAfter.datLast = ((s.lif.filterStb s.stbAtPin).filterDat s.datAtPin).datLast :=
    (congrArg Lif.datLast (lifAfter_frame s)).trans rfl
  have h := filterDat_stuck (s.lif.filterStb s.stbAtPin) s.datAtPin
  rw [filterStb_dat, filterStb_datStuck, filterStb_datLast] at h
  rw [hcount, hlast, StuckTimed.eq_def, lifAfter_dat]
  cases hx : s.lif.dat <;> cases hy : ((s.lif.filterStb s.stbAtPin).filterDat s.datAtPin).dat <;> simp only [hx, hy] at h ⊢ <;>
    simpa using h

theorem lifAfter_idle (s : State) : s.lifAfter.idleTimer =
    if s.lif.link ≠ .seeking ∧ s.lif.link ≠ .idle ∧ s.lif.link ≠ .fault then s.lif.idleTimer
    else if s.lifAfter.stb = .low ∨ s.lifAfter.dat = .low then 0
    else if s.lif.stb = .low ∨ s.lif.dat = .low then 2
    else s.lif.idleTimer + 1 := by
  have hcount : s.lifAfter.idleTimer = idleAfter s.lif ((s.lif.filterStb s.stbAtPin).filterDat s.datAtPin) :=
    (congrArg Lif.idleTimer (lifAfter_frame s)).trans rfl
  rw [hcount, idleAfter, lifAfter_stb, lifAfter_dat]
  simp only [filterDat_link, filterStb_link, filterDat_idleTimer, filterStb_idleTimer, filterDat_stb]
  cases s.lif.link <;> simp [Link.countsIdle, Config.filterTicks]

theorem lifAfter_pulse (s : State) : s.lifAfter.pulse =
    if s.lif.link ≠ .resetting then none
    else
      match s.lif.pulse with
      | some n => some (n + 1)
      | none => if s.lifAfter.stb = .low ∧ s.lifAfter.dat = .low then some 0 else none := by
  have hcount : s.lifAfter.pulse = pulseAfter ((s.lif.filterStb s.stbAtPin).filterDat s.datAtPin) :=
    (congrArg Lif.pulse (lifAfter_frame s)).trans rfl
  rw [hcount, pulseAfter, lifAfter_stb, lifAfter_dat]
  cases hpulse : s.lif.pulse <;>
    simp only [filterDat_link, filterStb_link, filterDat_pulse, filterStb_pulse, filterDat_stb, hpulse]

theorem lifAfter_bothLow (s : State) : s.lifAfter.bothLow =
    if (s.lif.link ≠ .detached ∨ s.lif.ownPulse = true) ∧ s.lifAfter.stb = .low ∧ s.lifAfter.dat = .low then
      if s.lif.stb = .low ∧ s.lif.dat = .low then s.lif.bothLow + 1 else 2
    else 0 := by
  have hcount : s.lifAfter.bothLow = bothLowAfter s.lif ((s.lif.filterStb s.stbAtPin).filterDat s.datAtPin) :=
    (congrArg Lif.bothLow (lifAfter_frame s)).trans rfl
  have h := filters_bothLow s.lif s.stbAtPin s.datAtPin
  dsimp only at h
  rw [filterDat_stb] at h
  rw [hcount, bothLowAfter, lifAfter_stb, lifAfter_dat]
  simp only [Lif.Detects, filterDat_link, filterStb_link, filterDat_ownPulse, filterStb_ownPulse, filterDat_stb]
  split
  · rename_i hboth
    obtain ⟨hdetects, hstb, hdat⟩ := hboth
    rw [h hstb hdat]
    rw [if_pos (show s.lif.Detects from hdetects)]
    split <;> rfl
  · rfl

/-- The station's own pull of STB at a tick. -/
theorem pullsStb_iff (s : State) : s.pullsStb s.lifCounted = true ↔
    s.mbr.membership ≠ .offline ∧ (s.lif.link = .round ∨ s.lif.link = .closing) ∧ s.lif.begun = false
      ∧ s.lifAfter.stb = .high ∧ s.lif.stbDrive = .released ∧ ∃ n, s.lif.tHigh = some n ∧ s.cfg.tHigh.toNat ≤ n + 1 := by
  obtain ⟨hlink, hbegun, htHigh, _⟩ := lifCounted_fields s
  have hstb : s.lifAfter.stb = s.lifCounted.stb := (congrArg Lif.stb (lifAfter_frame s)).trans rfl
  have hdrive := (lifCounted_drives s).2
  rw [State.pullsStb, hlink, hbegun, htHigh, hstb, hdrive]
  simp only [Bool.and_eq_true, Bool.or_eq_true, decide_eq_true_eq, beq_iff_eq, Bool.not_eq_true', and_assoc]
  refine and_congr_right fun _ => and_congr_right fun hl => and_congr_right fun _ => and_congr_right fun _ => ?_
  have hnot : ¬(s.lif.link = .resetting ∧ s.lifCounted.dat = .low) := fun h => by
    rcases hl with hl | hl <;> exact nomatch hl.symm.trans h.1
  rw [if_neg hnot]
  refine and_congr_right fun _ => ?_
  cases s.lif.tHigh <;> simp [bump]

/-- The line interface after a tick depends on the lines, the bus, the membership and the configuration alone. -/
theorem lifAfter_congr {s u : State} (hlif : u.lif = s.lif) (hbus : u.bus = s.bus) (hmbr : u.mbr = s.mbr) (hcfg : u.cfg = s.cfg) :
    u.lifAfter = s.lifAfter := by
  obtain ⟨cfg, lif, rnd, mbr, slots, flg, hlt, pin, log, ntf, cmd, tsc, bus, spi, pending⟩ := s
  obtain rfl : u.cfg = cfg := hcfg
  obtain rfl : u.lif = lif := hlif
  obtain rfl : u.mbr = mbr := hmbr
  obtain rfl : u.bus = bus := hbus
  rfl

theorem tickBegun_lifAfter (s : State) : s.tickBegun.lifAfter = (s.setBus s.bus.advance).lifAfter := by
  have h := frame_clockPort (s.setBus s.bus.advance)
  exact lifAfter_congr (h.lif_eq rfl) (h.bus_eq rfl) (h.mbr_eq rfl) (h.cfg_eq rfl)

/-- The line interface through a tick. -/
theorem linesTicked_of_lif {s t : State} (h : t.lif = (s.setBus s.bus.advance).lifAfter) : LinesTicked s t := by
  let v := s.setBus s.bus.advance
  obtain ⟨hdrive, htLow, htHigh⟩ := lifAfter_pull v
  have hpulls : v.pullsStb v.lifCounted = true ↔ PullsStb s t := by
    rw [pullsStb_iff, PullsStb, h]
    exact Iff.rfl
  refine ⟨?stb, ?dat, ?stbStuck, ?datStuck, ?idle, fun hp => ?pulled, fun hp => ?counted, ?pulse, ?bothLow⟩
  case stb =>
    have hfilter : v.lifAfter.stbFilter = (v.lif.filterStb v.stbAtPin).stbFilter :=
      (congrArg Lif.stbFilter (lifAfter_frame v)).trans (filterDat_stbFilter _ _)
    rw [h, hfilter, lifAfter_stb]
    exact filterStb_filtered s.lif v.stbAtPin
  case dat =>
    have hfilter : v.lifAfter.datFilter = ((v.lif.filterStb v.stbAtPin).filterDat v.datAtPin).datFilter :=
      (congrArg Lif.datFilter (lifAfter_frame v)).trans rfl
    rw [h, hfilter, lifAfter_dat]
    have := filterDat_filtered (v.lif.filterStb v.stbAtPin) v.datAtPin
    rwa [filterStb_dat, filterStb_datFilter] at this
  case stbStuck => exact h ▸ lifAfter_stbStuck v
  case datStuck => exact h ▸ lifAfter_datStuck v
  case idle => exact h ▸ lifAfter_idle v
  case pulse => exact h ▸ lifAfter_pulse v
  case bothLow => exact h ▸ lifAfter_bothLow v
  case pulled =>
    have hyes := hpulls.mpr hp
    rw [h, hdrive, htLow, htHigh, if_pos hyes, if_pos hyes, if_pos hyes]
    exact ⟨rfl, rfl, rfl⟩
  case counted =>
    obtain ⟨_, _, htHigh', htLow', _⟩ := lifCounted_fields v
    have hdat : v.lifCounted.dat = v.lifAfter.dat := ((congrArg Lif.dat (lifAfter_frame v)).trans rfl).symm
    have hno : ¬v.pullsStb v.lifCounted = true := mt hpulls.mp hp
    rw [h, hdrive, htLow, htHigh, if_neg hno, if_neg hno, if_neg hno, htLow', htHigh', (lifCounted_drives v).2, hdat]
    exact ⟨rfl, rfl, rfl⟩

/-! ### The timers of station time -/

/-- The counts of a tick that need no microsecond. -/
def State.everyTick (s : State) : State :=
  (s.setLif s.lifAfter).setPin
    { s.pin with inputs := mapAll Input.count s.pin.inputs, outputs := mapAll Output.count s.pin.outputs }

theorem everyTick_counted (s : State) : Counted s s.everyTick where
  lif := rfl
  pinCfg := rfl
  inputs := fun _ => getElem_mapAll _ _ _ _
  outputs := fun _ => getElem_mapAll _ _ _ _
  mbr := rfl
  slots := fun _ => rfl
  frame := (frame_everyTick s).mono (by simp)

/-- Sixteen ticks are a microsecond of station time (R177). -/
theorem countTick_eq (s : State) : s.countTick = if s.tsc.subTicks + 1 < 16
    then (s.everyTick.setTsc { s.tsc with subTicks := s.tsc.subTicks + 1 }, false) else (s.everyTick.countMicro, true) := rfl

/-- The counts leave the sleep conditions as they are. -/
theorem Counted.sleepOk {s t : State} (h : Counted s t) : t.sleepOk = s.sleepOk := by
  have hstate : ∀ i, (t.slot i).state = (s.slot i).state := fun i => by rw [h.slots i]
  have hlink : t.lif.link = s.lif.link := by
    rw [h.lif, lifAfter_frame]
    exact (lifCounted_fields s).1
  have hpulse : ∀ o, (t.output o).pulse = none ↔ (s.output o).pulse = none := fun o => by
    rw [h.outputs o]
    exact Option.map_eq_none_iff
  rw [Bool.eq_iff_iff, sleepOk_iff, sleepOk_iff]
  simp only [hstate, hlink, hpulse, h.frame.rnd_eq rfl, h.frame.ntf_eq rfl, h.frame.cmd_eq rfl]

/-- The timebase and the timers of station time through a tick. -/
structure TimeCounted (s t : State) (micro : Bool) : Prop where
  tsc : t.tsc = { s.tsc with
    time := if s.tsc.subTicks + 1 < 16 then s.tsc.time else s.tsc.time + 1
    subTicks := if s.tsc.subTicks + 1 < 16 then s.tsc.subTicks + 1 else 0
    autoSleep := if micro then s.autoSleepAfter else s.tsc.autoSleep }
  roll : t.mbr.rollTimer = if micro then s.rollAfter else s.mbr.rollTimer
  timeouts : ∀ i, (t.slot i).timer = if micro then (s.slot i).count.timer else (s.slot i).timer

theorem countTick_time (s : State) :
    s.countTick.2 = decide (16 ≤ s.tsc.subTicks + 1) ∧ TimeCounted s s.countTick.1 s.countTick.2 := by
  rw [countTick_eq]
  by_cases h : s.tsc.subTicks + 1 < 16
  · rw [if_pos h]
    exact ⟨(decide_eq_false (by omega)).symm, by rw [if_pos h, if_pos h]; rfl, rfl, fun _ => rfl⟩
  · rw [if_neg h]
    have hauto : s.everyTick.autoSleepAfter = s.autoSleepAfter := by
      unfold State.autoSleepAfter
      rw [(everyTick_counted s).sleepOk]
      rfl
    refine ⟨(decide_eq_true (by omega)).symm, ?_, rfl, fun i => congrArg Slot.timer (getElem_mapAll _ _ _ _)⟩
    rw [if_neg h, if_neg h, ← hauto]
    rfl

/-- The timers of station time of a running station whose tick is settled. -/
theorem TimeCounted.settled {s u t : State} {micro : Bool} (h : TimeCounted s u micro) (hc : Counted s u)
    (hrun : s.tsc.power = .active) (ht : t = (u.setPending t.pending).settle) : TimersTicked s t micro := by
  have hpower : u.tsc.power = .active := by rw [h.tsc, hrun]
  refine ⟨?roll, fun i => ?timeout, ?auto⟩
  case roll =>
    rw [ht, settle_mbr]
    refine h.roll.trans ?_
    unfold State.rollAfter
    cases micro <;> simp
  case timeout =>
    rw [ht, slot_settle]
    refine (h.timeouts i).trans ?_
    unfold Slot.count
    cases micro
    · simp
    · by_cases hw : (s.slot i).state = .waiting ∧ (s.slot i).cfg.timeout ≠ 0#16
      · rw [if_pos rfl, if_pos hw, if_pos ⟨rfl, hw⟩]
      · rw [if_pos rfl, if_neg hw, if_neg fun h => hw h.2]
  case auto =>
    have hok : (u.setPending t.pending).sleepOk = s.sleepOk := (sleepOk_setPending _ _).trans hc.sleepOk
    have hcfg : (u.setPending t.pending).cfg = s.cfg := hc.frame.cfg_eq rfl
    rw [ht]
    unfold State.settle
    rw [hok, hcfg]
    by_cases hno : s.sleepOk = false ∨ s.cfg.autoSleep = 0
    · rw [if_pos ⟨hpower, hno⟩, if_pos hno]
      rfl
    · rw [if_neg fun h => hno h.2, if_neg hno]
      have hyes : s.cfg.autoSleep ≠ 0 ∧ s.sleepOk = true := by
        simp only [not_or, Bool.not_eq_false] at hno
        exact hno.symm
      show u.tsc.autoSleep = _
      rw [h.tsc, State.autoSleepAfter, if_pos hyes]

end Sys2Proof.Machine
end

section
/-! What a tick leaves (R177): the rest of the line interface, the queue, and the port; and the same span of time in SLEEP and
in the internal reset. -/

namespace Sys2Proof.Machine

/-! ### The rest of the line interface -/

theorem filterStb_stbExempt {x : Lif} {pin : Level} (h : (x.filterStb pin).stbExempt = true) : x.stbExempt = true := by
  unfold Lif.filterStb at h
  split at h
  · exact h
  · split at h
    · exact h
    · unfold Lif.seeStb at h
      split at h
      · cases h
      · exact h
      · exact h

theorem filterDat_datExempt {x : Lif} {pin : Level} (h : (x.filterDat pin).datExempt = true) : x.datExempt = true := by
  unfold Lif.filterDat at h
  split at h
  · exact h
  · split at h
    · exact h
    · unfold Lif.seeDat at h
      split at h
      · cases h
      · exact h
      · exact h

/-- A tick leaves the link and what its rows alone change; the detector may disarm, and an exemption end. -/
structure LinkLeft (x y : Lif) : Prop where
  link : y.link = x.link
  datDrive : y.datDrive = x.datDrive
  begun : y.begun = x.begun
  stretch : y.stretch = x.stretch
  startDetector : y.startDetector = x.startDetector
  armed : y.armed = true → x.armed = true
  ownPulse : y.ownPulse = true → x.ownPulse = true
  stbExempt : y.stbExempt = true → x.stbExempt = true
  datExempt : y.datExempt = true → x.datExempt = true

theorem lifCounted_left (s : State) : LinkLeft s.lif s.lifCounted where
  link := (filterDat_link _ _).trans (filterStb_link _ _)
  datDrive := (filterDat_datDrive _ _).trans (filterStb_datDrive _ _)
  begun := (filterDat_begun _ _).trans (filterStb_begun _ _)
  stretch := (filterDat_stretch _ _).trans (filterStb_stretch _ _)
  startDetector := (filterDat_startDetector _ _).trans (filterStb_startDetector _ _)
  armed := fun h => ((filterDat_armed _ _).trans (filterStb_armed _ _)).symm.trans h
  ownPulse := fun h => ((filterDat_ownPulse _ _).trans (filterStb_ownPulse _ _)).symm.trans h
  stbExempt := fun h => filterStb_stbExempt ((filterDat_stbExempt _ _).symm.trans h)
  datExempt := fun h => (filterStb_datExempt _ _).symm.trans (filterDat_datExempt h)

/-- What the own pull of STB leaves of the detector. -/
theorem pull_detector (x : Lif) (c : Bool) :
    (if c then { x with stbDrive := .low, tLow := some 0, tHigh := none } else x).armed = x.armed
      ∧ (if c then { x with stbDrive := .low, tLow := some 0, tHigh := none } else x).ownPulse = x.ownPulse := by
  cases c <;> exact ⟨rfl, rfl⟩

theorem lifAfter_detector (s : State) : (s.lifAfter.armed = true → s.lifCounted.armed = true)
    ∧ (s.lifAfter.ownPulse = true → s.lifCounted.ownPulse = true) := by
  have e : s.lifAfter =
      let z := if s.releaseTooLate s.lifCounted then { s.lifCounted with armed := false, ownPulse := false } else s.lifCounted
      if s.pullsStb z then { z with stbDrive := .low, tLow := some 0, tHigh := none } else z := rfl
  rw [e]
  dsimp only
  rw [(pull_detector _ _).1, (pull_detector _ _).2]
  split
  · exact ⟨fun h => (nomatch h), fun h => (nomatch h)⟩
  · exact ⟨id, id⟩

theorem lifAfter_left (s : State) : LinkLeft s.lif s.lifAfter := by
  obtain ⟨hlink, hdat, hbegun, hstretch, hstart, harmed, hown, hstb, hdatExempt⟩ := lifCounted_left s
  obtain ⟨harmed', hown'⟩ := lifAfter_detector s
  have h := lifAfter_frame s
  exact ⟨(congrArg Lif.link h).trans hlink, (congrArg Lif.datDrive h).trans hdat, (congrArg Lif.begun h).trans hbegun,
    (congrArg Lif.stretch h).trans hstretch, (congrArg Lif.startDetector h).trans hstart, fun h' => harmed (harmed' h'),
    fun h' => hown (hown' h'), fun h' => hstb ((congrArg Lif.stbExempt h).symm.trans h'),
    fun h' => hdatExempt ((congrArg Lif.datExempt h).symm.trans h')⟩

/-! ### The queue -/

theorem due_setPending (x : Lif) (micro : Bool) (s : State) (l : List Instr) : (s.setPending l).due x micro = s.due x micro := rfl

/-- Settling makes nothing due, and keeps what is. -/
theorem due_settle (x : Lif) (micro : Bool) (s : State) : s.settle.due x micro = s.due x micro := by
  unfold State.settle
  split
  · rename_i h
    have hno : ∀ u : State, u.cfg = s.cfg → u.sleepOk = s.sleepOk → u.autoSleepDue = [] := fun u hcfg hok => by
      unfold State.autoSleepDue dueIf
      rw [hcfg, hok]
      rcases h.2 with h | h <;> simp [h]
    refine congrArg (fun l => s.expiriesDue micro ++ s.linesDue x ++ s.inputsDue ++ (if micro = true then l else [])) ?_
    exact (hno (s.setTsc { s.tsc with autoSleep := 0 }) rfl rfl).trans (hno s rfl rfl).symm
  · rfl

/-! ### A tick of a running station -/

theorem tickBegun_sleepOk (s : State) : s.tickBegun.sleepOk = s.sleepOk := by
  have hf := frame_tickBegun s
  exact sleepOk_congr (hf.slots_eq rfl) (hf.rnd_eq rfl) (hf.lif_eq rfl) (hf.ntf_eq rfl) (hf.pin_eq rfl) (tickBegun_clocked s).csn

theorem timersTicked_congr {s u t : State} {micro : Bool} (h : TimersTicked u t micro) (hcfg : u.cfg = s.cfg)
    (hmbr : u.mbr = s.mbr) (hslots : u.slots = s.slots) (htsc : u.tsc = s.tsc) (hok : u.sleepOk = s.sleepOk) :
    TimersTicked s t micro := by
  obtain ⟨hroll, htimeouts, hauto⟩ := h
  simp only [State.slot, hcfg, hmbr, hslots, htsc, hok] at hroll htimeouts hauto
  exact ⟨hroll, htimeouts, hauto⟩

/-- With no command waiting and the blocks running, the tick's counts and what they make due. -/
theorem running_tick {s : State} (hp : s.pending = []) (hrun : s.Running) :
    s.tick = (s.tickBegun.countTick.1.setPending (s.tickBegun.countTick.1.due s.lif (decide (16 ≤ s.tsc.subTicks + 1)))).settle := by
  have hf := frame_tickBegun s
  have hmicro : s.tickBegun.countTick.2 = decide (16 ≤ s.tsc.subTicks + 1) := by
    rw [(countTick_time s.tickBegun).1, hf.tsc_eq rfl]
  have h := (step_tick hp).symm.trans (step_running hp hrun)
  rw [hmicro] at h
  exact Host.Outcome.next.inj h

/-- Of the port a tick leaves what its edge of SCK makes of it; with CSN high nothing changes (R165). -/
theorem tick_clocked (s : State) : (s.cmd.transfer = none → s.tick.cmd = s.cmd ∧ s.tick.log = s.log)
    ∧ s.tick.cmd.last = s.cmd.last ∧ s.tick.cmd.sdo = s.cmd.sdo ∧ s.tick.log.next = s.log.next := by
  obtain ⟨_, hlast, hsdo, hnext, hidle⟩ := tickBegun_clocked s
  obtain ⟨hcmd, hlog⟩ := tick_port s
  rw [hcmd, hlog]
  exact ⟨hidle, hlast, hsdo, hnext⟩

theorem tickBegun_bus (s : State) : s.tickBegun.bus = s.bus.advance := (frame_clockPort _).bus_eq rfl

section Running

variable {s : State} (hp : s.pending = []) (hrun : s.Running)

include hp hrun

theorem tick_lif : s.tick.lif = (s.setBus s.bus.advance).lifAfter := by
  rw [running_tick hp hrun, settle_lif, ← tickBegun_lifAfter]
  exact (countTick_counted _).lif

theorem tick_pending : s.tick.pending = s.tick.due s.lif (decide (16 ≤ s.tsc.subTicks + 1)) := by
  rw [running_tick hp hrun, settle_pending, due_settle, due_setPending]
  rfl

theorem tick_timers : TimersTicked s s.tick (decide (16 ≤ s.tsc.subTicks + 1)) := by
  have hf := frame_tickBegun s
  obtain ⟨hmicro, htime⟩ := countTick_time s.tickBegun
  have hsub : decide (16 ≤ s.tickBegun.tsc.subTicks + 1) = decide (16 ≤ s.tsc.subTicks + 1) := by rw [hf.tsc_eq rfl]
  rw [hmicro, hsub] at htime
  have hticked : TimersTicked s.tickBegun s.tick (decide (16 ≤ s.tsc.subTicks + 1)) := by
    refine htime.settled (countTick_counted _) (by rw [hf.tsc_eq rfl]; exact hrun.1) ?_
    rw [running_tick hp hrun, settle_pending]
    rfl
  exact timersTicked_congr hticked (hf.cfg_eq rfl) (hf.mbr_eq rfl) (hf.slots_eq rfl) (hf.tsc_eq rfl) (tickBegun_sleepOk s)

theorem tick_tsc : s.tick.tsc = { s.tsc with
    time := if s.tsc.subTicks + 1 < 16 then s.tsc.time else s.tsc.time + 1
    subTicks := if s.tsc.subTicks + 1 < 16 then s.tsc.subTicks + 1 else 0
    autoSleep := s.tick.tsc.autoSleep } := by
  have htime := (countTick_time s.tickBegun).2.tsc
  rw [(frame_tickBegun s).tsc_eq rfl] at htime
  rw [running_tick hp hrun]
  refine (settle_tsc_auto _).trans ?_
  rw [setPending_tsc, htime]

/-- The fields of the blocks whose timers a tick counts, and the blocks that it leaves alone. -/
theorem tick_counts : s.tick.mbr = { s.mbr with rollTimer := s.tick.mbr.rollTimer }
    ∧ (∀ i, s.tick.slot i = { s.slot i with timer := (s.tick.slot i).timer })
    ∧ s.tick.pin.cfg = s.pin.cfg
    ∧ (∀ i, s.tick.input i = { s.input i with timer := (s.input i).timer.map fun n => n + 1 })
    ∧ (∀ o, s.tick.output o = { s.output o with pulse := (s.output o).pulse.map fun n => n + 1 })
    ∧ Frame [.lif, .pin, .tsc, .mbr, .slots, .cmd, .log, .bus, .spi, .pending] s s.tick := by
  have hf := frame_tickBegun s
  have hc := countTick_counted s.tickBegun
  have hmbr := hc.mbr
  have hslots := hc.slots
  rw [hf.mbr_eq rfl] at hmbr
  have hslot : ∀ i, s.tickBegun.slot i = s.slot i := fun i => by simp only [State.slot, hf.slots_eq rfl]
  rw [running_tick hp hrun]
  refine ⟨?_, fun i => ?_, ?_, fun i => ?_, fun o => ?_, ?_⟩
  · rw [settle_mbr]
    exact hmbr
  · rw [slot_settle, ← hslot i]
    exact hslots i
  · rw [settle_pin]
    exact countTick_pinCfg s
  · rw [input_settle]
    exact countTick_input s i
  · rw [output_settle]
    exact countTick_output s o
  · exact (hf.mono (by simp)).comp (((hc.frame.mono (by simp)).comp ((frame_setPending _ _).mono (by simp))).comp
      ((frame_settle _).mono (by simp)))

end Running

/-! ### SLEEP and the internal reset -/

/-- The same span of time where the blocks do not run. -/
theorem tick_stopped {s : State} (hp : s.pending = []) (hstop : s.tsc.power = .sleep ∨ s.tsc.inReset = true) :
    (s.tsc.inReset = true → s.tick.lif = s.lif ∧ s.tick.pending = [])
    ∧ (s.tsc.inReset = false →
        s.tick.lif = { s.lif with stbPin := (s.setBus s.bus.advance).stbAtPin, datPin := (s.setBus s.bus.advance).datAtPin }
          ∧ s.tick.pending = if s.lif.startDetector = true ∧ s.lif.datPin = .high ∧ s.tick.lif.datPin = .low
              ∧ s.tick.lif.stbPin = .high then [.asyncStart] else [])
    ∧ s.tick.bus = s.bus.advance ∧ Frame [.lif, .cmd, .log, .bus, .spi, .pending] s s.tick := by
  have hf := frame_tickBegun s
  have hlif : s.tickBegun.lif = s.lif := hf.lif_eq rfl
  have hpending : s.tickBegun.pending = [] := (hf.pending_eq rfl).trans hp
  have hstb : s.tickBegun.stbAtPin = (s.setBus s.bus.advance).stbAtPin := by
    simp only [State.stbAtPin, hlif, tickBegun_bus]
    rfl
  have hdat : s.tickBegun.datAtPin = (s.setBus s.bus.advance).datAtPin := by
    simp only [State.datAtPin, hlif, tickBegun_bus]
    rfl
  rcases tick_cases s with ⟨hrun, _⟩ | ⟨_, hreset, ht⟩ | ⟨hreset, ht⟩
  · rcases hstop with h | h
    · exact nomatch hrun.1.symm.trans h
    · exact nomatch hrun.2.symm.trans h
  · rw [ht]
    refine ⟨fun h => (nomatch hreset.symm.trans h), fun _ => ⟨?_, ?_⟩, tickBegun_bus s, ?_⟩
    · rw [← hstb, ← hdat, ← hlif]
      rfl
    · show s.tickBegun.pending ++ dueIf s.tickBegun.seesStart .asyncStart = _
      rw [hpending, List.nil_append, dueIf]
      refine if_congr ?_ rfl rfl
      show s.tickBegun.seesStart = true ↔ s.lif.startDetector = true ∧ s.lif.datPin = .high ∧ s.tickBegun.datAtPin = .low
        ∧ s.tickBegun.stbAtPin = .high
      simp only [State.seesStart, hlif, Bool.and_eq_true, beq_iff_eq, and_assoc]
    · exact (hf.mono (by simp)).comp (((frame_setLif _ _).mono (by simp)).comp ((frame_setPending _ _).mono (by simp)))
  · rw [ht]
    exact ⟨fun _ => ⟨hlif, hpending⟩, fun h => (nomatch hreset.symm.trans h), tickBegun_bus s, hf.mono (by simp)⟩

/-- Settles O2: the tick of a running station, and the same span of time in SLEEP and in the internal reset. -/
theorem emptyQueuePassesATick : Obligations.EmptyQueuePassesATick := by
  refine ⟨fun s hp hrun => ⟨s.tick, step_tick hp, ?_⟩, fun s hp hstop => ⟨s.tick, step_tick hp, ?_⟩⟩
  · have hlif := tick_lif hp hrun
    obtain ⟨hmbr, hslots, hcfg, hinputs, houtputs, hframe⟩ := tick_counts hp hrun
    obtain ⟨hidle, hlast, hsdo, hnext⟩ := tick_clocked s
    obtain ⟨hlink, hdat, hbegun, hstretch, hstart, harmed, hown, hstb, hdatExempt⟩ := lifAfter_left (s.setBus s.bus.advance)
    rw [← hlif] at hlink hdat hbegun hstretch hstart harmed hown hstb hdatExempt
    have hbus : s.tick.bus = s.bus.advance := by
      rw [running_tick hp hrun, settle_bus]
      exact ((countTick_counted _).frame.bus_eq rfl).trans (tickBegun_bus s)
    exact ⟨tick_pending hp hrun, linesTicked_of_lif hlif, tick_timers hp hrun, hbus, tick_tsc hp hrun, hmbr, hslots, hcfg,
      hinputs, houtputs, hlink, hdat, hbegun, hstretch, hstart, harmed, hown, hstb, hdatExempt, hidle, hlast, hsdo, hnext, hframe⟩
  · obtain ⟨hreset, hsleep, hbus, hframe⟩ := tick_stopped hp hstop
    obtain ⟨hidle, hlast, hsdo, hnext⟩ := tick_clocked s
    exact ⟨hbus, hreset, hsleep, hidle, hlast, hsdo, hnext, hframe⟩

end Sys2Proof.Machine
end

section
/-! The low phase of a position (R9 to R11, R13): the station's own pull of STB at a tick, and POSITION_BEGINS. -/

namespace Sys2Proof.Machine

/-! ### The row -/

theorem beginField_lif (s : State) (r : Round) : (s.beginField r).1.lif = s.lif := (frame_beginField s r).lif_eq rfl

theorem beginField_rnd (s : State) (r : Round) : (s.beginField r).1.rnd = s.rnd := (frame_beginField s r).rnd_eq rfl

theorem beginPosition_fields (s : State) (r : Round) : (s.beginPosition r).lif = s.lif.beginLow (s.beginField r).2.driveNow
    ∧ (s.beginPosition r).rnd = { s.rnd with round := some (s.beginField r).2 }
    ∧ (s.beginPosition r).slots = (s.beginField r).1.slots := by
  refine ⟨?_, ?_, rfl⟩
  · show ((s.beginField r).1.lif).beginLow _ = _
    rw [beginField_lif]
  · exact congrArg (fun x : Rnd => { x with round := some (s.beginField r).2 }) (beginField_rnd s r)

/-- In ROUND the position begins. -/
theorem positionBegins_round {s : State} {r : Round} (hrun : s.Running) (hbus : s.mbr.membership ≠ .offline)
    (hbegun : s.lif.begun = false) (hlink : s.lif.link = .round) (hround : s.rnd.round = some r) :
    exec .positionBegins s = .next (s.beginPosition r).settle := by
  show execPositionBegins s = _
  unfold execPositionBegins
  rw [if_pos ⟨hrun, hbus, hbegun⟩, hlink, hround]
  rfl

/-- In CLOSING the low phase of closing begins. -/
theorem positionBegins_closing {s : State} (hrun : s.Running) (hbus : s.mbr.membership ≠ .offline)
    (hbegun : s.lif.begun = false) (hlink : s.lif.link = .closing) :
    exec .positionBegins s = .next (s.setLif (s.lif.beginLow .released)).settle := by
  show execPositionBegins s = _
  unfold execPositionBegins
  rw [if_pos ⟨hrun, hbus, hbegun⟩, hlink]
  rfl

theorem beginLow_fields (x : Lif) (dat : Driver) : (x.beginLow dat).stb = .low ∧ (x.beginLow dat).stbDrive = .low
    ∧ (x.beginLow dat).datDrive = dat ∧ (x.beginLow dat).begun = true
    ∧ (x.beginLow dat).tLow = some (match x.tLow with | some n => n | none => 2) ∧ (x.beginLow dat).tHigh = none := by
  have hstb : (x.seeStb .low).stb = .low := by
    unfold Lif.seeStb
    cases hx : x.stb <;> simp [hx]
  refine ⟨hstb, rfl, rfl, rfl, ?_, rfl⟩
  show some (x.tLow.getD 2) = _
  cases x.tLow <;> rfl

/-! ### The round as a field begins -/

/-- What a latch or a drive leaves of the round. -/
structure Sampled (r r' : Round) : Prop where
  samples : r'.samples = r.samples
  check : r'.check = r.check
  dissent : r'.dissent = r.dissent

theorem Sampled.open {r r' : Round} (h : Sampled r r') (d : FieldDrive) : Sampled r (r'.open d) :=
  ⟨h.samples, h.check, h.dissent⟩

theorem Sampled.refl (r : Round) : Sampled r r := ⟨rfl, rfl, rfl⟩

theorem latchSetA_sampled (s : State) (r : Round) (c : Class) (n : Fin 32) : Sampled r (s.latchSetA r c n).2 := by
  cases c with
  | arrive | flags | halt =>
    unfold State.latchSetA
    dsimp only
    split <;> exact ⟨rfl, rfl, rfl⟩
  | roll | resume | join => exact ⟨rfl, rfl, rfl⟩

theorem latchSetB_sampled (s : State) (r : Round) (c : Class) (n : Fin 32) : Sampled r (s.latchSetB r c n) := by
  cases c with
  | arrive =>
    unfold State.latchSetB
    dsimp only
    split <;> exact ⟨rfl, rfl, rfl⟩
  | halt | flags | roll | resume | join => exact ⟨rfl, rfl, rfl⟩

theorem beginHead_sampled (s : State) (r : Round) : Sampled r (s.beginHead r) := by
  unfold State.beginHead
  split <;> exact ⟨rfl, rfl, rfl⟩

theorem beginField_sampled (s : State) (r : Round) : Sampled r (s.beginField r).2 := by
  unfold State.beginField
  split
  · exact beginHead_sampled s r
  · split
    · exact (Sampled.refl r).open _
    · split
      · exact (Sampled.refl r).open _
      · split
        · split
          · exact (Sampled.refl r).open _
          · exact .refl r
        · split
          · exact (Sampled.refl r).open _
          · split
            · exact (latchSetA_sampled s r _ _).open _
            · split
              · exact (latchSetB_sampled s r _ _).open _
              · split
                · exact (Sampled.refl r).open _
                · exact .refl r

/-- Settles O38: the tick in which tHIGH passes, and POSITION_BEGINS in ROUND and in CLOSING. -/
theorem positionBeginsWithStbLow : Obligations.PositionBeginsWithStbLow := by
  refine ⟨fun n s hp hrun hbus hlink hbegun hdrive htHigh hpassed => ?tick, fun s hrun hbus hbegun =>
    ⟨fun r hlink hround => ?round, fun hlink => ?closing⟩⟩
  case tick =>
    have hlif := tick_lif hp hrun
    have hlines := linesTicked_of_lif hlif
    have hleft := lifAfter_left (s.setBus s.bus.advance)
    rw [← hlif] at hleft
    refine ⟨s.tick, step_tick hp, hleft.datDrive, fun hstb => ?_, fun hstb => ?_⟩
    · obtain ⟨hstbDrive, htLow, htHigh'⟩ := hlines.pulled ⟨hbus, hlink, hbegun, hstb, hdrive, n, htHigh, hpassed⟩
      exact ⟨hstbDrive, htLow, htHigh', hleft.begun.trans hbegun⟩
    · have hno : ¬PullsStb s s.tick := fun ⟨_, _, _, hhigh, _⟩ => nomatch hstb.symm.trans hhigh
      obtain ⟨_, _, hstbDrive⟩ := hlines.counted hno
      have hnot : ¬(s.lif.link = .resetting ∧ s.tick.lif.dat = .low) := fun h => by
        rcases hlink with hl | hl <;> exact nomatch hl.symm.trans h.1
      rw [hstbDrive, if_neg hnot, hdrive]
  case round =>
    obtain ⟨hlif, hrnd, _⟩ := beginPosition_fields s r
    obtain ⟨hstb, hstbDrive, hdatDrive, hbegun', htLow, htHigh⟩ := beginLow_fields s.lif (s.beginField r).2.driveNow
    obtain ⟨hsamples, hcheck, hdissent⟩ := beginField_sampled s r
    refine ⟨_, positionBegins_round hrun hbus hbegun hlink hround, ?_⟩
    rw [settle_lif, settle_rnd, hlif, hrnd]
    exact ⟨hstb, hstbDrive, hbegun', htLow, htHigh, rfl, ⟨_, rfl, hdatDrive, hsamples, hcheck, hdissent⟩,
      (frame_beginPosition s r).only rfl⟩
  case closing =>
    obtain ⟨hstb, hstbDrive, hdatDrive, hbegun', htLow, _⟩ := beginLow_fields s.lif .released
    refine ⟨_, positionBegins_closing hrun hbus hbegun hlink, ?_⟩
    rw [settle_lif]
    exact ⟨hstb, hstbDrive, hdatDrive, hbegun', htLow, (frame_setLif s _).only rfl⟩

end Sys2Proof.Machine
end

section
/-! The fields of a round as they begin (R22 to R27, R32, R37, R39 and the drives of the class owners): what is latched, and
what is driven. -/

namespace Sys2Proof.Machine

/-! ### Where fields begin -/

section Begins

variable {s u : State} {r r' : Round} (hb : s.beginField r = (u, r'))

include hb

theorem begins_head (hp : r.samples.length = 0) : u = s ∧ r' = s.beginHead r := by
  unfold State.beginField at hb
  rw [if_pos (show r.position = 0 from hp)] at hb
  exact ⟨(congrArg Prod.fst hb).symm, (congrArg Prod.snd hb).symm⟩

theorem begins_check (hp : r.samples.length = 92) : u = s ∧ r' = r.open (.value 8 r.check.toNat) := by
  have hpos : r.position = 92 := hp
  unfold State.beginField at hb
  simp only [hpos, reduceIte, Nat.reduceEqDiff] at hb
  exact ⟨(congrArg Prod.fst hb).symm, (congrArg Prod.snd hb).symm⟩

theorem begins_dis (hp : r.samples.length = 100) :
    u = s ∧ r' = r.open (if r.dissent.any then .claim (only 0) else .recessive) := by
  have hpos : r.position = 100 := hp
  unfold State.beginField at hb
  simp only [hpos, reduceIte, Nat.reduceEqDiff] at hb
  exact ⟨(congrArg Prod.fst hb).symm, (congrArg Prod.snd hb).symm⟩

/-- From TAG to VAL the stations are silent where the identity names no round (R27). -/
theorem begins_unnamed (hn : r.named = none) (hp : r.samples.length ∈ [8, 12, 44, 76]) : u = s ∧ r' = r.open .recessive := by
  unfold State.beginField at hb
  have hpos : r.position = r.samples.length := rfl
  simp only [List.mem_cons, List.not_mem_nil, or_false] at hp
  rw [hn] at hb
  rcases hp with hp | hp | hp | hp
  all_goals
    simp only [hpos, hp, fieldBase, reduceIte, Nat.reduceEqDiff, Nat.reduceLT] at hb
    exact ⟨(congrArg Prod.fst hb).symm, (congrArg Prod.snd hb).symm⟩

/-- Within a field nothing is latched. -/
theorem begins_within (hp : r.samples.length ∉ [0, 8, 12, 44, 76, 92, 100]) : u = s ∧ r' = r := by
  have hpos : r.position = r.samples.length := rfl
  simp only [List.mem_cons, List.not_mem_nil, or_false, not_or] at hp
  obtain ⟨h0, h8, h12, h44, h76, h92, h100⟩ := hp
  have hbase : r.samples.length ≠ fieldBase r.samples.length := by
    unfold fieldBase
    split
    · exact h0
    · split
      · exact h8
      · split
        · exact h12
        · split
          · exact h44
          · split
            · exact h76
            · split
              · exact h92
              · exact h100
  unfold State.beginField at hb
  rw [hpos, if_neg h0, if_neg h92, if_neg h100] at hb
  split at hb
  · rw [if_neg hbase] at hb
    exact ⟨(congrArg Prod.fst hb).symm, (congrArg Prod.snd hb).symm⟩
  · rw [if_neg h8, if_neg h12, if_neg h44, if_neg h76] at hb
    exact ⟨(congrArg Prod.fst hb).symm, (congrArg Prod.snd hb).symm⟩

section Named

variable {c : Class} {n : Fin 32} (hn : r.named = some (c, n))

include hn

theorem begins_tag (hp : r.samples.length = 8) : u = s ∧ r' = r.open (s.driveTag c n) := by
  have hpos : r.position = 8 := hp
  unfold State.beginField at hb
  simp only [hpos, hn, reduceIte, Nat.reduceEqDiff] at hb
  exact ⟨(congrArg Prod.fst hb).symm, (congrArg Prod.snd hb).symm⟩

theorem begins_setA (hp : r.samples.length = 12) :
    u = (s.latchSetA r c n).1 ∧ r' = (s.latchSetA r c n).2.open (u.driveSetA (s.latchSetA r c n).2 c n) := by
  have hpos : r.position = 12 := hp
  unfold State.beginField at hb
  simp only [hpos, hn, reduceIte, Nat.reduceEqDiff] at hb
  obtain rfl := congrArg Prod.fst hb
  exact ⟨rfl, (congrArg Prod.snd hb).symm⟩

theorem begins_setB (hp : r.samples.length = 44) :
    u = s ∧ r' = (s.latchSetB r c n).open (s.driveSetB (s.latchSetB r c n) c) := by
  have hpos : r.position = 44 := hp
  unfold State.beginField at hb
  simp only [hpos, hn, reduceIte, Nat.reduceEqDiff] at hb
  exact ⟨(congrArg Prod.fst hb).symm, (congrArg Prod.snd hb).symm⟩

theorem begins_val (hp : r.samples.length = 76) : u = s ∧ r' = r.open (s.driveVal r c n) := by
  have hpos : r.position = 76 := hp
  unfold State.beginField at hb
  simp only [hpos, hn, reduceIte, Nat.reduceEqDiff] at hb
  exact ⟨(congrArg Prod.fst hb).symm, (congrArg Prod.snd hb).symm⟩

end Named

/-! ### The fields of each class -/

theorem arrive_begins {n : Fin 32} (hn : r.named = some (.arrive, n)) :
    (r.samples.length = 8 → r'.field =
        if Member s ∧ ((s.slot n).state = .ready ∨ (s.slot n).state = .waiting) ∧ (s.slot n).sync = .synced
        then .contend 4 (s.slot n).epoch.toNat else .recessive)
    ∧ (r.samples.length = 12 → OtherSlots n s u
        ∧ u.slot n = { s.slot n with
            committed := (s.slot n).committed || decide (Member s ∧ (s.slot n).state = .waiting) }
        ∧ r'.field = if Member s ∧ (u.slot n).committed = true then .claim (only s.mbr.number) else .recessive)
    ∧ (r.samples.length = 44 →
        (Member s ∧ ((s.slot n).state = .ready ∨ (s.slot n).state = .waiting) →
          r'.required = some (s.requiredNow n) ∧ r'.field = .claim (~~~s.requiredNow n))
        ∧ (¬(Member s ∧ ((s.slot n).state = .ready ∨ (s.slot n).state = .waiting)) → r'.required = r.required
            ∧ (r.required = none → r'.field = .recessive)))
    ∧ (r.samples.length = 76 → r'.field =
        if Member s ∧ (s.slot n).committed = true then .contend 16 (s.slot n).arrivalValue.toNat else .recessive) := by
  refine ⟨fun hp => ?tag, fun hp => ?setA, fun hp => ?setB, fun hp => ?val⟩
  case tag =>
    obtain ⟨_, rfl⟩ := begins_tag hb hn hp
    exact if_congr and_assoc rfl rfl
  case setA =>
    obtain ⟨hu, rfl⟩ := begins_setA hb hn hp
    by_cases hc : Member s ∧ (s.slot n).state = .waiting
    · have hlatch : s.latchSetA r .arrive n = (s.setSlot n { s.slot n with committed := true }, r) := if_pos hc
      rw [hlatch] at hu ⊢
      obtain rfl : u = s.setSlot n { s.slot n with committed := true } := hu
      refine ⟨fun j hj => slot_setSlot_ne _ _ _ _ hj, ?_, rfl⟩
      rw [slot_setSlot_same, decide_eq_true hc, Bool.or_true]
    · have hlatch : s.latchSetA r .arrive n = (s, r) := if_neg hc
      rw [hlatch] at hu ⊢
      obtain rfl : u = s := hu
      refine ⟨fun _ _ => rfl, ?_, rfl⟩
      rw [decide_eq_false hc, Bool.or_false]
  case setB =>
    obtain ⟨_, rfl⟩ := begins_setB hb hn hp
    refine ⟨fun hc => ?_, fun hc => ?_⟩
    · have hlatch : s.latchSetB r .arrive n = { r with required := some (s.requiredNow n) } := if_pos hc
      rw [hlatch]
      exact ⟨rfl, rfl⟩
    · have hlatch : s.latchSetB r .arrive n = r := if_neg hc
      rw [hlatch]
      refine ⟨rfl, fun hnone => ?_⟩
      show s.driveSetB r .arrive = _
      unfold State.driveSetB
      rw [hnone]
  case val =>
    obtain ⟨_, rfl⟩ := begins_val hb hn hp
    rfl

/-- A round of another class latches nothing in the slots, and its TAG carries the condition in JOIN and ROLL. -/
theorem others_begin {c : Class} {n : Fin 32} (hn : r.named = some (c, n)) (hc : c ≠ .arrive) : u.slots = s.slots
    ∧ (r.samples.length = 8 → r'.field =
        if (c = .join ∨ c = .roll) ∧ Member s then .value 4 (match s.hlt.condition with | .running => 15 | .halted => 7)
        else .recessive) := by
  refine ⟨?slots, fun hp => ?tag⟩
  case slots =>
    rcases beginField_cases s r with h | ⟨c', n', hn', h⟩
    · rw [hb] at h
      exact congrArg State.slots h
    · obtain ⟨rfl, rfl⟩ := Prod.mk.inj (Option.some.inj (hn.symm.trans hn'))
      rw [hb] at h
      refine (congrArg State.slots h).trans ?_
      cases c with
      | arrive => exact absurd rfl hc
      | flags | halt =>
        unfold State.latchSetA
        dsimp only
        split <;> rfl
      | roll | resume | join => rfl
  case tag =>
    obtain ⟨_, rfl⟩ := begins_tag hb hn hp
    show s.driveTag c n = _
    have hcond : s.hlt.condition.tag = match s.hlt.condition with | .running => 15 | .halted => 7 := by
      cases s.hlt.condition <;> rfl
    unfold State.driveTag
    rw [hcond]
    cases c with
    | arrive => exact absurd rfl hc
    | join | roll => simp
    | halt | resume | flags => simp

theorem flags_begin {n : Fin 32} (hn : r.named = some (.flags, n)) :
    (r.samples.length = 12 → r'.field = .claim r'.latchS
      ∧ (Member s → r'.latchS = s.flg.setReq ∧ r'.latchC = s.flg.clearReq)
      ∧ (¬Member s → r'.latchS = r.latchS ∧ r'.latchC = r.latchC))
    ∧ (r.samples.length = 44 → r'.field = .claim r.latchC ∧ r'.latchC = r.latchC)
    ∧ (r.samples.length = 76 → r'.field = .recessive) := by
  refine ⟨fun hp => ?setA, fun hp => ?setB, fun hp => ?val⟩
  case setA =>
    obtain ⟨_, rfl⟩ := begins_setA hb hn hp
    refine ⟨rfl, fun hm => ?_, fun hm => ?_⟩
    · have hlatch : s.latchSetA r .flags n = (s, { r with latchS := s.flg.setReq, latchC := s.flg.clearReq }) := if_pos hm
      rw [hlatch]
      exact ⟨rfl, rfl⟩
    · have hlatch : s.latchSetA r .flags n = (s, r) := if_neg hm
      rw [hlatch]
      exact ⟨rfl, rfl⟩
  case setB =>
    obtain ⟨_, rfl⟩ := begins_setB hb hn hp
    exact ⟨rfl, rfl⟩
  case val =>
    obtain ⟨_, rfl⟩ := begins_val hb hn hp
    rfl

theorem halt_begins {n : Fin 32} (hn : r.named = some (.halt, n)) :
    (r.samples.length = 12 → r'.latchHalt = (if Member s then s.hlt.request else r.latchHalt)
      ∧ r'.field = if r'.latchHalt.isSome then .claim (only s.mbr.number) else .recessive)
    ∧ (r.samples.length = 44 → r'.field = .recessive)
    ∧ (r.samples.length = 76 → r'.field =
        match r.latchHalt with | some cause => .contend 16 cause.toNat | none => .recessive) := by
  refine ⟨fun hp => ?setA, fun hp => ?setB, fun hp => ?val⟩
  case setA =>
    obtain ⟨rfl, rfl⟩ := begins_setA hb hn hp
    by_cases hm : Member s
    · have hlatch : s.latchSetA r .halt n = (s, { r with latchHalt := s.hlt.request }) := if_pos hm
      rw [hlatch, if_pos hm]
      exact ⟨rfl, rfl⟩
    · have hlatch : s.latchSetA r .halt n = (s, r) := if_neg hm
      rw [hlatch, if_neg hm]
      exact ⟨rfl, rfl⟩
  case setB =>
    obtain ⟨_, rfl⟩ := begins_setB hb hn hp
    rfl
  case val =>
    obtain ⟨_, rfl⟩ := begins_val hb hn hp
    show s.driveVal r .halt n = _
    unfold State.driveVal
    cases r.latchHalt <;> rfl

theorem resume_begins {n : Fin 32} (hn : r.named = some (.resume, n)) :
    (r.samples.length = 12 → r'.field =
        if Member s ∧ hasEntry s.rnd.requests .resume 0 = true then .claim (only s.mbr.number) else .recessive)
    ∧ (r.samples.length = 44 →
        (r'.objection = true ↔ Member s ∧ (s.hlt.commandHold = true ∨ s.hlt.inputHold ≠ 0#4))
        ∧ r'.field = if r'.objection then .claim (only s.mbr.number) else .recessive)
    ∧ (r.samples.length = 76 → r'.field = .recessive) := by
  refine ⟨fun hp => ?setA, fun hp => ?setB, fun hp => ?val⟩
  case setA =>
    obtain ⟨rfl, rfl⟩ := begins_setA hb hn hp
    rfl
  case setB =>
    obtain ⟨_, rfl⟩ := begins_setB hb hn hp
    refine ⟨?_, rfl⟩
    show (decide s.IsMember && (s.hlt.commandHold || s.hlt.inputHold != 0#4)) = true ↔ _
    simp only [Bool.and_eq_true, Bool.or_eq_true, decide_eq_true_eq, bne_iff_ne]
  case val =>
    obtain ⟨_, rfl⟩ := begins_val hb hn hp
    rfl

/-- JOIN and ROLL rounds. -/
theorem membership_begins {c : Class} {n : Fin 32} (hn : r.named = some (c, n)) (hc : c = .join ∨ c = .roll) :
    (r.samples.length = 12 → r'.field =
        if s.mbr.membership = .online ∨ c = .join ∧ s.mbr.membership = .leaving then .claim (only s.mbr.number)
        else .recessive)
    ∧ (r.samples.length = 12 → c = .roll → (r'.leavingAtSeta = true ↔ s.mbr.membership = .leaving))
    ∧ (r.samples.length = 44 → r'.field = if Member s then .flagWord s.flg.word else .recessive)
    ∧ (r.samples.length = 76 →
        (∀ v, c = .join → s.mbr.membership = .joining → s.mbr.number = n → s.mbr.nonce = some v →
          r'.field = .contend 16 v.toNat)
        ∧ (¬(c = .join ∧ s.mbr.membership = .joining ∧ s.mbr.number = n) → r'.field = .recessive)) := by
  refine ⟨fun hp => ?setA, fun hp hroll => ?leaving, fun hp => ?setB, fun hp => ?val⟩
  case setA =>
    obtain ⟨rfl, rfl⟩ := begins_setA hb hn hp
    rcases hc with rfl | rfl
    · exact if_congr (show s.IsMember ↔ _ by simp) rfl rfl
    · exact if_congr (show s.mbr.membership = .online ↔ _ by simp) rfl rfl
  case leaving =>
    subst hroll
    obtain ⟨_, rfl⟩ := begins_setA hb hn hp
    exact beq_iff_eq
  case setB =>
    obtain ⟨_, rfl⟩ := begins_setB hb hn hp
    rcases hc with rfl | rfl <;> rfl
  case val =>
    obtain ⟨_, rfl⟩ := begins_val hb hn hp
    refine ⟨fun v hjoin hjoining hnumber hnonce => ?_, fun hno => ?_⟩
    · subst hjoin
      show s.driveVal r .join n = _
      unfold State.driveVal
      rw [hnonce]
      exact if_pos ⟨hjoining, hnumber⟩
    · show s.driveVal r c n = _
      rcases hc with rfl | rfl
      · unfold State.driveVal
        dsimp only
        split
        · exact if_neg fun h => hno ⟨rfl, h⟩
        · rfl
      · rfl

/-- Each field begins with its contention open (R23). -/
theorem begins_open (hp : r.samples.length ∈ [0, 8, 12, 44, 76, 92, 100]) : r'.lost = false := by
  have hunnamed : r.named = none → r.samples.length ∈ [8, 12, 44, 76] → r'.lost = false := fun hn hp => by
    obtain ⟨_, rfl⟩ := begins_unnamed hb hn hp
    rfl
  simp only [List.mem_cons, List.not_mem_nil, or_false] at hp
  rcases hp with hp | hp | hp | hp | hp | hp | hp
  · obtain ⟨_, rfl⟩ := begins_head hb hp
    unfold State.beginHead
    split <;> rfl
  · cases hn : r.named with
    | none => exact hunnamed hn (by simp [hp])
    | some x =>
      obtain ⟨_, rfl⟩ := begins_tag (c := x.1) (n := x.2) hb hn hp
      rfl
  · cases hn : r.named with
    | none => exact hunnamed hn (by simp [hp])
    | some x =>
      obtain ⟨_, rfl⟩ := begins_setA (c := x.1) (n := x.2) hb hn hp
      rfl
  · cases hn : r.named with
    | none => exact hunnamed hn (by simp [hp])
    | some x =>
      obtain ⟨_, rfl⟩ := begins_setB (c := x.1) (n := x.2) hb hn hp
      rfl
  · cases hn : r.named with
    | none => exact hunnamed hn (by simp [hp])
    | some x =>
      obtain ⟨_, rfl⟩ := begins_val (c := x.1) (n := x.2) hb hn hp
      rfl
  · obtain ⟨_, rfl⟩ := begins_check hb hp
    rfl
  · obtain ⟨_, rfl⟩ := begins_dis hb hp
    rfl

/-- The head of the request list is latched and contended with (R32). -/
theorem head_begins (hp : r.samples.length = 0) : r'.head = s.rnd.requests.head? ∧ u.slots = s.slots
    ∧ r'.field = match s.rnd.requests with
      | [] => .recessive
      | e :: _ => .contend 8 (32 * e.cls.code + e.sel.val) := by
  obtain ⟨rfl, rfl⟩ := begins_head hb hp
  unfold State.beginHead
  cases u.rnd.requests with
  | nil => exact ⟨rfl, rfl, rfl⟩
  | cons e l => exact ⟨rfl, rfl, rfl⟩

end Begins

/-! ### The drive of a position (2.2) -/

theorem fieldBase_mem (p : Nat) : fieldBase p ∈ [0, 8, 12, 44, 76, 92, 100] := by
  unfold fieldBase
  repeat' split
  all_goals simp

/-- The field that a position lies in is the last that has begun. -/
theorem fieldBase_last {p : Nat} (hp : p ≤ 100) : fieldBase p ≤ p
    ∧ ∀ b, b ∈ [0, 8, 12, 44, 76, 92, 100] → b ≤ p → b ≤ fieldBase p := by
  simp only [List.mem_cons, List.not_mem_nil, or_false]
  unfold fieldBase
  refine ⟨?_, fun b hb hle => ?_⟩
  · split_ifs <;> omega
  · split_ifs <;> omega

/-- Settles O39: what is latched and driven as the fields begin, and the drive of a position. -/
theorem fieldsLatchAndDriveWhatTheyCarry : Obligations.FieldsLatchAndDriveWhatTheyCarry := by
  refine ⟨fun s t r hrun hbus hbegun hlink hround hstep => ?begins, fun r hr => ?drive⟩
  case begins =>
    have ht : t = (s.beginPosition r).settle :=
      Host.Outcome.next.inj (hstep.symm.trans (positionBegins_round hrun hbus hbegun hlink hround))
    obtain ⟨hlif, hrnd, hslots⟩ := beginPosition_fields s r
    obtain ⟨_, _, hdrive, _⟩ := beginLow_fields s.lif (s.beginField r).2.driveNow
    have hround' : t.rnd.round = some (s.beginField r).2 := by rw [ht, settle_rnd, hrnd]
    have hdat : t.lif.datDrive = (s.beginField r).2.driveNow := by rw [ht, settle_lif, hlif, hdrive]
    have hslots' : t.slots = (s.beginField r).1.slots := by rw [ht, settle_slots, hslots]
    obtain ⟨u, r', hb⟩ : ∃ u r', s.beginField r = (u, r') := ⟨_, _, rfl⟩
    rw [hb] at hround' hdat hslots'
    have hslot : ∀ i, t.slot i = u.slot i := fun i => by simp only [State.slot, hslots']
    refine ⟨r', hround', hdat, begins_open hb, fun hp => ?within, fun hp => ?head, fun hn hp => ?unnamed, fun n hn => ?arrive,
      fun c n hn hc => ?others, fun n hn => flags_begin hb hn, fun n hn => halt_begins hb hn, fun n hn => resume_begins hb hn,
      fun c n hn hc => membership_begins hb hn hc, fun hp => ?check, fun hp => ?dis⟩
    case within =>
      obtain ⟨rfl, rfl⟩ := begins_within hb hp
      exact ⟨rfl, hslots'⟩
    case head =>
      obtain ⟨hhead, hu, hfield⟩ := head_begins hb hp
      exact ⟨hhead, hslots'.trans hu, hfield⟩
    case unnamed =>
      obtain ⟨rfl, rfl⟩ := begins_unnamed hb hn hp
      exact ⟨rfl, hslots'⟩
    case arrive =>
      obtain ⟨htag, hsetA, hsetB, hval⟩ := arrive_begins hb hn
      refine ⟨htag, fun hp => ?_, hsetB, hval⟩
      obtain ⟨hothers, hown, hfield⟩ := hsetA hp
      rw [hslot n]
      exact ⟨fun j hj => (hslot j).trans (hothers j hj), hown, hfield⟩
    case others =>
      obtain ⟨hu, htag⟩ := others_begin hb hn hc
      exact ⟨hslots'.trans hu, htag⟩
    case check =>
      obtain ⟨rfl, rfl⟩ := begins_check hb hp
      exact ⟨rfl, hslots'⟩
    case dis =>
      obtain ⟨rfl, rfl⟩ := begins_dis hb hp
      exact ⟨rfl, hslots'⟩
  case drive =>
    obtain ⟨hle, hlast⟩ := fieldBase_last hr
    refine ⟨fieldBase r.samples.length, fieldBase_mem _, hle, hlast, ?_⟩
    show (if r.lost then .released else r.field.at (r.samples.length - fieldBase r.samples.length)) = _
    cases r.field <;> rfl

end Sys2Proof.Machine
end
